-- ==== Sys2Proof/Word.lean ====
section
/-! DEFINITION. The bit words of the SZ-4810: bytes of the control link and 16-bit parameter values. -/

namespace Sys2Proof

/-- A byte of a frame of the control link (R201). -/
abbrev Byte := BitVec 8

/-- A parameter value (11, "Parameters": 16-bit values on ten pages) or a CRC-16. -/
abbrev Word := BitVec 16

/-- An uptime value, a pulse total or a snapshot sequence number: 32 bits, wrapping. -/
abbrev Word32 := BitVec 32

end Sys2Proof
end

