-- ==== Sys2Proof/Syntax.lean ====
section
/-! DEFINITION. The commands of the SZ-4810: one constructor of `Instr` per row of the opcode table.
A row is an operation or an event of the part, taken whole. The operands of a request are its argument bytes,
and the operands of a physical event are what the converter, the comparator or the pin delivers with it. -/

namespace Sys2Proof

/-- The two leisure banks (00, Names). -/
inductive Bank | A | B
  deriving DecidableEq, Repr

/-- The name of a bus record (R48): A and B while the tie is SPLIT, JOINED while it is JOINED. -/
inductive BusName | A | B | joined
  deriving DecidableEq, Repr

/-- The two motion axes (chapter 8). -/
inductive Axis | awn | step
  deriving DecidableEq, Repr

/-- The debounced vehicle signals (R189). -/
inductive Signal | dplus | handbrake | mainsOk | awnIn | awnOut | stepIn | stepOut
  deriving DecidableEq, Repr

/-- The two temperatures that the Climate Unit holds (R142). -/
inductive ClimateTemp | cabin | bay
  deriving DecidableEq, Repr

/-- A recognized threshold crossing of a sensor line (R100). `highAtOn tier2` is the crossing that R99 names: the
current already stands above T1 (above T2 too when `tier2`) at the moment the line becomes ON, so that its start is
not seen. -/
inductive Crossing
  | risingT1 | risingT2 | fallingT1 | fallingT2
  | highAtOn (tier2 : Bool)
  deriving DecidableEq, Repr

/-- A number from 0 to 19: a load Ln and its output channel n (R44, R78). -/
abbrev LoadId := Fin 20

/-- A sensor line S0 to S5. -/
abbrev LineId := Fin 6

/-- A driver group G0 to G4 (R80). -/
abbrev GroupId := Fin 5

/-- A light channel LT0 to LT5 (chapter 9). -/
abbrev LightId := Fin 6

/-- A request as it stands in the request queue: its kind and its argument bytes (R202). `malformed kind` is a request
of an assigned kind whose arguments have the wrong length, which dispatch refuses with BAD_ARG (R202). -/
inductive Request
  | identify
  | readParam (page start count : Byte)
  | writeParam (page start count : Byte) (values : List Word)
  | save
  | loadDefaults
  | reset
  | getBank (bank : Byte)
  | bankZero (banks : Byte)
  | getCharge
  | tieSet (tie : Byte)
  | getBus (bus : Byte)
  | loadSet (load sw : Byte)
  | loadGet (load : Byte)
  | shedList (bus : Byte)
  | outputStatus (channel clear : Byte)
  | spotCheck (channel : Byte)
  | exercise (channel : Byte) (sw : Option Byte)
  | lineGet (line clear : Byte)
  | lineControl (line sw : Byte)
  | tankGet (tank : Byte)
  | flowGet
  | water (sw : Byte)
  | heatSet (mode : Byte) (setpoint : Word)
  | climateGet
  | frostDump
  | frostClose
  | move (axis cmd : Byte) (target : Option Word)
  | motionGet
  | lightSet (channel : Byte) (level fade : Word)
  | sceneRecall (scene : Byte) (fade : Word)
  | sceneStore (scene : Byte)
  | modeSet (mode : Byte)
  | noticeMask (mask : Word)
  | malformed (kind : Byte)
  deriving DecidableEq, Repr

/-- The commands: one constructor per row of spec/opcode_table.json, in the table's order. -/
inductive Instr
  -- resets and start-up (R192, R193)
  | powerReset
  | pinReset
  | startUpLoad
  -- the control link (R201 to R212)
  | rxByte (byte : Byte) (stopOk : Bool)
  | frameTimeout
  | frameReceived (body : List Byte)
  | txFrameDone
  | identify
  | readParam (page start count : Byte)
  | writeParam (page start count : Byte) (values : List Word)
  | save
  | saveComplete (readBackMatches : Bool)
  | loadDefaults
  | resetRequest
  | noticeMask (mask : Word)
  | snapshotCountdownExpiry
  | snapshotWriteDone
  -- battery banks (R1 to R26)
  | bankSample (bank : Bank) (count : Word) (millivolts : Int)
  | getBank (bank : Byte)
  | bankZero (banks : Byte)
  -- charge control (R27 to R43)
  | starterSample (millivolts : Int)
  | battTempStale
  | padRetryExpiry
  | tieSet (tie : Byte)
  | getCharge
  -- load manager (R44 to R77)
  | loadSet (load sw : Byte)
  | undervoltageExpiry (bus : BusName)
  | restoreExamination
  | loadGet (load : Byte)
  | getBus (bus : Byte)
  | shedList (bus : Byte)
  -- output monitor (R78 to R98)
  | measurementComplete (raw : Int)
  | freshnessExpiry (channel : LoadId)
  | storagePassTimer
  | inrushBlankExpiry (axis : Axis)
  | driverShort (channel : LoadId)
  | backfeedReport (channel : LoadId)
  | groupHotWarning (group : GroupId)
  | outputStatus (channel clear : Byte)
  | spotCheck (channel : Byte)
  | exercise (channel : Byte) (sw : Option Byte)
  -- sensor lines (R99 to R124)
  | settlingExpiry (line : LineId)
  | crossingRecognized (line : LineId) (crossing : Crossing) (date mean : Nat)
  | syncRecognized (line : LineId)
  | lineWindowEnd (line : LineId) (mean current : Nat)
  | levelSlotSample (line : LineId) (current : Nat)
  | pulseOverflow (line : LineId)
  | rateCountdownExpiry (line : LineId)
  | standstillReached (line : LineId)
  | nodataReached (line : LineId)
  | lineShortGnd (line : LineId) (current : Nat)
  | lineShortBat (line : LineId) (overRail : Int)
  | lineOpen (line : LineId)
  | lineDriverHot
  | lineGet (line clear : Byte)
  | lineControl (line sw : Byte)
  | storageWindowExpiry
  | storageDutyExpiry
  -- water (R125 to R141)
  | dryTimeout
  | water (sw : Byte)
  | tankGet (tank : Byte)
  | flowGet
  -- climate (R142 to R161)
  | climateTempStale (temp : ClimateTemp)
  | thermostatEvaluation
  | minOnExpiry
  | minOffExpiry
  | heatSet (mode : Byte) (setpoint : Word)
  | guardUnknownTimeout
  | riskTimerExpiry
  | frostDump
  | frostClose
  | climateGet
  -- motion (R162 to R178)
  | move (axis cmd : Byte) (target : Option Word)
  | deadTimeExpiry
  | driveTick
  | motionInrushBlankExpiry
  | backoffExpiry
  | motionTimeout
  | resultWatchExpiry
  | motionGet
  -- lighting (R179 to R188)
  | fadeTick (channel : LightId)
  | lightSet (channel : Byte) (level fade : Word)
  | sceneRecall (scene : Byte) (fade : Word)
  | sceneStore (scene : Byte)
  | courtesyTimerExpiry
  -- vehicle signals and modes (R189 to R200)
  | rawSignalChange (signal : Signal) (level : Bool)
  | debounceExpiry (signal : Signal)
  | supplySample (millivolts : Int)
  | modeSet (mode : Byte)
  -- withdrawals (R90, R91, R118)
  | groupHotWithdrawn (group : GroupId)
  | lineDriverHotWithdrawn
  | backfeedWithdrawn (channel : LoadId)
  deriving DecidableEq, Repr

end Sys2Proof
end

