-- ==== Sys2Proof/Config.lean ====
section
/-! DEFINITION. What an individual chip or its board fixes and the manual leaves open. The constants have no body: nothing
can be proved about their values, so that every claim holds for each of them (log 7). -/

namespace Sys2Proof.Config

/-- Page 0 index 1, "fixed per silicon" (11, Parameters). -/
opaque revision : Word

/-- The BAUD strap, sampled at every reset: high for 115,200 baud, low for 19,200 baud (R201). -/
opaque baudHigh : Bool

end Sys2Proof.Config
end

