-- ==== Sys2Proof/Machine/Arith.lean ====
section
/-! DEFINITION. The roundings, clamps, byte codings and checksums of the manual (00 "Arithmetic"; R201, R203, R207). -/

namespace Sys2Proof.Machine

/-- `x` clamped to [lo, hi] (00 "Arithmetic"). -/
def clampInt (lo hi x : Int) : Int := if x < lo then lo else if hi < x then hi else x

/-- A signed reading clamped to [0, hi], as a count. -/
def clampToNat (hi : Nat) (x : Int) : Nat := min hi x.toNat

/-- `n / d` rounded half away from zero (00 "Arithmetic"). -/
def divHalfAway (n : Int) (d : Nat) : Int :=
  let q : Int := ((2 * n.natAbs + d) / (2 * d) : Nat)
  if n < 0 then -q else q

/-- `n / d` rounded up (00 "Arithmetic"). -/
def ceilDiv (n d : Nat) : Nat := (n + d - 1) / d

/-- `a` rounded up to the next multiple of 10 (R47). -/
def ceilTen (a : Nat) : Nat := ceilDiv a 10 * 10

/-- The brightness curve floor(level² / 1000) ‰ (R47, R179). -/
def dutyOf (level : Nat) : Nat := level * level / 1000

/-- One step of a learned value toward its target, the division truncated toward zero (R104, R105). -/
def learnStep (old target : Int) (by' : Int) : Int := old + (target - old).tdiv by'

/-- `x` in `k` bytes, least significant byte first (R203). -/
def leBytes : Nat → Nat → List Byte
  | 0, _ => []
  | k + 1, x => BitVec.ofNat 8 x :: leBytes k (x / 256)

/-- A signed number in `k` bytes of two's complement (R203). -/
def leSigned (k : Nat) (x : Int) : List Byte := leBytes k (x % (256 ^ k : Nat)).toNat

/-- One byte (R203). -/
def n8 (x : Nat) : List Byte := leBytes 1 x
/-- Two bytes (R203). -/
def n16 (x : Nat) : List Byte := leBytes 2 x
/-- Four bytes (R203). -/
def n32 (x : Nat) : List Byte := leBytes 4 x
/-- Eight bytes (R203). -/
def n64 (x : Nat) : List Byte := leBytes 8 x
/-- A single flag, or a value that a parameter page codes 0 or 1 (R203). -/
def bit (b : Bool) : List Byte := n8 b.toNat

/-- A two-valued state by its position in the list that gives its values: 0 for the first one (ON, set, yes, active, applied,
asserted or raised), 1 for the second (R203; log 16). -/
def twoWay (first : Bool) : List Byte := n8 (if first then 0 else 1)

/-- An optional field: a presence byte, then the value bytes when it is present (R203). -/
def optField {α : Type} (enc : α → List Byte) : Option α → List Byte
  | none => n8 0
  | some x => n8 1 ++ enc x

/-- A list preceded by its entry count (R203). -/
def listField {α : Type} (enc : α → List Byte) (xs : List α) : List Byte :=
  n8 xs.length ++ (xs.map enc).flatten

/-- Up to eight flags, one bit each, the first listed in bit 0 (R203). -/
def flagBits : List Bool → Nat
  | [] => 0
  | b :: bs => b.toNat + 2 * flagBits bs

/-- One bit shift of the CRC-8 with polynomial 0x07 (R201). -/
def crc8Shift (c : Byte) : Byte := if c.msb then (c <<< 1) ^^^ 0x07#8 else c <<< 1

/-- `n` shifts of the CRC-8. -/
def crc8Shifts : Nat → Byte → Byte
  | 0, c => c
  | n + 1, c => crc8Shifts n (crc8Shift c)

/-- CRC-8 with polynomial 0x07, initial value 0x00, no reflection, no final inversion (R201). -/
def crc8 (bytes : List Byte) : Byte := bytes.foldl (fun c b => crc8Shifts 8 (c ^^^ b)) 0

/-- One bit shift of the CRC-16 with polynomial 0x1021 (11 "The settings store"). -/
def crc16Shift (c : Word) : Word := if c.msb then (c <<< 1) ^^^ 0x1021#16 else c <<< 1

/-- `n` shifts of the CRC-16. -/
def crc16Shifts : Nat → Word → Word
  | 0, c => c
  | n + 1, c => crc16Shifts n (crc16Shift c)

/-- One byte of a CRC-16. -/
def crc16Byte (c : Word) (b : Byte) : Word := crc16Shifts 8 (c ^^^ (b.setWidth 16 <<< 8))

/-- CRC-16 with polynomial 0x1021, initial value 0xFFFF, no reflection (11 "The settings store"). -/
def crc16 (bytes : List Byte) : Word := bytes.foldl crc16Byte 0xFFFF#16

/-- A body in its frame: SYNC, LEN, BODY and the CRC-8 over LEN and BODY (R201). -/
def frameOf (body : List Byte) : List Byte :=
  let covered := BitVec.ofNat 8 body.length :: body
  0xA7#8 :: covered ++ [crc8 covered]

/-- The elements of a list at which `p` holds of the element and its index. -/
def firstIndexFrom {α : Type} (p : Nat → α → Bool) : Nat → List α → Option Nat
  | _, [] => none
  | i, x :: xs => if p i x then some i else firstIndexFrom p (i + 1) xs

/-- `m` of a countdown, or of a stopped one. -/
def tickDown (timer : Option Nat) : Option Nat := timer.map (· - 1)

/-- Whether a running countdown has reached 0. -/
def isDue (timer : Option Nat) : Bool := timer == some 0

end Sys2Proof.Machine
end

