-- ==== Sys2Proof/Machine/ParamTable.lean ====
section
/-! DEFINITION. The ten parameter pages: ranges, take-effect classes and defaults (R19, R39, R75, R76, R97, R121, R140, R159,
R177, R187, R205), and the typed view that the blocks read. -/

namespace Sys2Proof.Machine

/-- R19: chemistry, coded 0 LEAD, 1 LITHIUM. -/
inductive Chemistry | lead | lithium
  deriving DecidableEq, Repr

/-- The tie setting and the tie relay, coded 0 SPLIT, 1 JOINED (R39). -/
inductive Tie | split | joined
  deriving DecidableEq, Repr

/-- The role of a load (R45, R75). -/
inductive Role | general | pump | heater | frostValve | battPad | stepLight | motor
  deriving DecidableEq, Repr

/-- The decoding mode of a sensor line (R121). -/
inductive LineMode | level | width | pulse
  deriving DecidableEq, Repr

/-- The role of a sensor line (R113). -/
inductive LineRole | none | freshLevel | greyLevel | flow | cabinTemp | bayTemp | battTemp
  deriving DecidableEq, Repr

/-- The thermostat mode (R159). -/
inductive ThermoMode | off | comfort | frostHold
  deriving DecidableEq, Repr

/-- The two tanks (chapter 6). -/
inductive Tank | fresh | grey
  deriving DecidableEq, Repr

/-- The pages of 16-bit values in index order (11 "Parameters"). -/
abbrev Pages := List (List Word)

/-- The value of a page at an index; 0 beyond the page. -/
def Pages.get (ps : Pages) (page idx : Nat) : Word := (ps.getD page []).getD idx 0

/-- A page with one value written. -/
def Pages.set (ps : Pages) (page idx : Nat) (v : Word) : Pages :=
  List.set ps page ((ps.getD page []).set idx v)

/-- A value read as a count. -/
def Pages.nat (ps : Pages) (page idx : Nat) : Nat := (ps.get page idx).toNat

/-- A value read in two's complement (11 "Parameters"). -/
def Pages.int (ps : Pages) (page idx : Nat) : Int := (ps.get page idx).toInt

/-- The number of indices of each page (R205). -/
def pageLength : Nat → Nat
  | 0 => 4 | 1 => 46 | 2 => 2 | 3 => 120 | 4 => 13 | 5 => 68 | 6 => 39 | 7 => 8 | 8 => 5 | 9 => 25
  | _ => 0

/-- The take-effect classes of R206, with the two marks of values that WRITE_PARAM does not write. -/
inductive ParamClass | now | parked | period | offlineLoad | offlineLine | byRequest | readOnly
  deriving DecidableEq, Repr

/-- The least and greatest accepted value of a parameter and its class. -/
structure ParamSpec where
  lo : Int
  hi : Int
  cls : ParamClass
  deriving DecidableEq, Repr

/-- Page 0 (R205). -/
def spec0 : Nat → ParamSpec
  | 2 => ⟨0, 16383, .byRequest⟩
  | 3 => ⟨0, 65535, .now⟩
  | _ => ⟨0, 65535, .readOnly⟩

/-- An entry of an OCV table: a voltage at even offsets, a state of charge at odd ones (R14). -/
def specOcv (offset : Nat) : ParamSpec :=
  if offset % 2 = 0 then ⟨0, 20000, .now⟩ else ⟨0, 1000, .now⟩

/-- Page 1 (R19). -/
def spec1 (i : Nat) : ParamSpec :=
  if i = 0 then ⟨0, 1, .parked⟩
  else if i ≤ 2 then ⟨10, 1000, .parked⟩
  else if i ≤ 4 then ⟨1, 65535, .period⟩
  else if i ≤ 6 then ⟨800, 1000, .period⟩
  else if i ≤ 8 then ⟨12000, 15500, .now⟩
  else if i ≤ 10 then ⟨0, 20000, .now⟩
  else if i = 11 then ⟨0, 5000, .now⟩
  else if i = 12 then ⟨600, 28800, .now⟩
  else if i = 13 then ⟨0, 1000, .now⟩
  else specOcv i

/-- Page 2 (R39). -/
def spec2 : Nat → ParamSpec
  | 0 => ⟨0, 1, .byRequest⟩
  | _ => ⟨-40, 20, .now⟩

/-- Page 3: six values per load (R75). The role limits of R45 stand in `roleAllowed`. -/
def spec3 (i : Nat) : ParamSpec :=
  match i % 6 with
  | 0 => if i / 6 ≥ 18 then ⟨2, 2, .offlineLoad⟩ else ⟨1, 4, .offlineLoad⟩
  | 1 => ⟨0, 1, .offlineLoad⟩
  | 2 => ⟨0, 25000, .offlineLoad⟩
  | 3 => ⟨0, 6, .offlineLoad⟩
  | 4 => ⟨100, 30000, .now⟩
  | _ => ⟨0, 30000, .now⟩

/-- The roles a load may take, by its number and the role's code (R45). -/
def roleAllowed (load code : Nat) : Bool :=
  if load < 12 then code ≤ 4 else if load < 18 then code == 0 || code == 5 else code == 6

/-- Page 4 (R76). -/
def spec4 (i : Nat) : ParamSpec :=
  if i ≤ 1 then ⟨100, 20000, .now⟩
  else if i ≤ 7 then ⟨0, 1000, .now⟩
  else if i = 8 then ⟨0, 200, .now⟩
  else if i ≤ 10 then ⟨10000, 14000, .now⟩
  else ⟨1, 16, .now⟩

/-- Page 5: eleven values per line, then the two shared ones (R121). -/
def spec5 (i : Nat) : ParamSpec :=
  if i = 66 then ⟨5, 100, .now⟩
  else if i = 67 then ⟨10, 600, .now⟩
  else match i % 11 with
    | 0 => ⟨0, 1, .byRequest⟩
    | 1 => ⟨0, 2, .offlineLine⟩
    | 2 => ⟨0, 6, .offlineLine⟩
    | 3 => ⟨0, 1, .offlineLine⟩
    | 4 => ⟨0, 15, .offlineLine⟩
    | 7 => ⟨0, 240, .offlineLine⟩
    | 9 => ⟨0, 3, .offlineLine⟩
    | 10 => ⟨0, 3, .offlineLine⟩
    | _ => ⟨0, 255, .offlineLine⟩

/-- Page 6 (R140): a level at even offsets of a point, a volume at odd ones. -/
def spec6 (i : Nat) : ParamSpec :=
  match i with
  | 0 => ⟨0, 97, .now⟩
  | 1 => ⟨3, 100, .now⟩
  | 2 => ⟨100, 25000, .now⟩
  | 3 => ⟨1, 60, .now⟩
  | 4 => ⟨100, 20000, .now⟩
  | 5 => ⟨2, 8, .now⟩
  | 22 => ⟨2, 8, .now⟩
  | _ =>
    let offset := if i < 22 then i - 6 else i - 23
    if offset % 2 = 0 then ⟨0, 100, .now⟩ else ⟨0, 1000, .now⟩

/-- Page 7 (R159). -/
def spec7 : Nat → ParamSpec
  | 0 => ⟨0, 2, .now⟩
  | 1 => ⟨10, 60, .now⟩
  | 2 => ⟨2, 10, .now⟩
  | 3 => ⟨0, 1, .now⟩
  | 4 => ⟨-20, 40, .now⟩
  | 5 => ⟨-40, 30, .now⟩
  | 6 => ⟨2, 10, .now⟩
  | _ => ⟨60, 3600, .now⟩

/-- Page 8 (R177). -/
def spec8 : Nat → ParamSpec
  | 0 => ⟨5, 120, .now⟩
  | 1 => ⟨5, 300, .now⟩
  | 2 => ⟨1, 60, .now⟩
  | _ => ⟨500, 30000, .now⟩

/-- The range and class of a parameter; `none` beyond the page (R205). -/
def paramSpec (page idx : Nat) : Option ParamSpec :=
  if idx < pageLength page then
    match page with
    | 0 => some (spec0 idx)
    | 1 => some (spec1 idx)
    | 2 => some (spec2 idx)
    | 3 => some (spec3 idx)
    | 4 => some (spec4 idx)
    | 5 => some (spec5 idx)
    | 6 => some (spec6 idx)
    | 7 => some (spec7 idx)
    | 8 => some (spec8 idx)
    | _ => some ⟨0, 1000, .now⟩
  else none

/-- A value as its parameter reads it: in two's complement where the range holds negative values. -/
def ParamSpec.read (sp : ParamSpec) (v : Word) : Int := if sp.lo < 0 then v.toInt else v.toNat

/-- Whether a value lies in its parameter's range, with the role limits of R45. -/
def valueInRange (page idx : Nat) (v : Word) : Bool :=
  match paramSpec page idx with
  | none => false
  | some sp =>
    decide (sp.lo ≤ sp.read v) && decide (sp.read v ≤ sp.hi) &&
      (!(page == 3 && idx % 6 == 3) || roleAllowed (idx / 6) v.toNat)

/-- The full-voltage default of a chemistry, in mV (R19). -/
def defaultFullVoltage : Chemistry → Nat
  | .lead => 14200
  | .lithium => 13900

/-- The efficiency default of a chemistry, in ‰ (R19). -/
def defaultEfficiency : Chemistry → Nat
  | .lead => 900
  | .lithium => 990

/-- The undervoltage-cut default of a chemistry, in mV (R76). -/
def defaultCut : Chemistry → Nat
  | .lead => 11300
  | .lithium => 12200

/-- The OCV defaults, LEAD then LITHIUM, voltage then state of charge of each point (R15). -/
def defaultOcv : List Nat :=
  [11800, 0, 11950, 100, 12100, 250, 12250, 400, 12400, 600, 12550, 800, 12650, 900, 12750, 1000,
   12000, 0, 12800, 100, 13000, 150, 13200, 300, 13300, 700, 13350, 900, 13400, 990, 13600, 1000]

/-- Page 1 defaults under a chemistry and two capacities (R19). -/
def default1 (chem : Chemistry) (capA capB i : Nat) : Nat :=
  if i = 0 then 1
  else if i ≤ 2 then 100
  else if i ≤ 4 then 25600
  else if i ≤ 6 then defaultEfficiency chem
  else if i ≤ 8 then defaultFullVoltage chem
  else if i = 9 then capA * 20
  else if i = 10 then capB * 20
  else if i = 11 then 300
  else if i = 12 then 7200
  else if i = 13 then 30
  else defaultOcv.getD (i - 14) 0

/-- Page 3 defaults (R75, R97). -/
def default3 (i : Nat) : Nat :=
  let load := i / 6
  match i % 6 with
  | 0 => if load ≥ 18 then 2 else 3
  | 1 => if 12 ≤ load ∧ load < 18 then 1 else 0
  | 2 => if load = 18 then 10000 else if load = 19 then 6000 else 1000
  | 3 => if load ≥ 18 then 6 else 0
  | 4 => if load = 18 then 15000 else if load = 19 then 9000 else 1500
  | _ => 50

/-- Page 4 defaults under a chemistry (R76). -/
def default4 (chem : Chemistry) : Nat → Nat
  | 0 => 6000 | 1 => 4000
  | 2 => 200 | 3 => 350 | 4 => 500
  | 5 => 200 | 6 => 350 | 7 => 500
  | 8 => 50
  | 9 => defaultCut chem | 10 => defaultCut chem
  | _ => 8

/-- Page 5 defaults (R121). -/
def default5 (i : Nat) : Nat :=
  if i = 66 then 20
  else if i = 67 then 60
  else
    let line := i / 11
    match i % 11 with
    | 0 => 1
    | 1 => if line ≤ 1 then 0 else if line = 2 then 2 else 1
    | 2 => line + 1
    | 3 => 1
    | 4 => 3
    | 5 => 30
    | 6 => 30
    | 7 => 40
    | 8 => 80
    | _ => 1

/-- Page 6 defaults (R140). -/
def default6 : Nat → Nat
  | 0 => 10 | 1 => 90 | 2 => 1000 | 3 => 5 | 4 => 2200
  | 5 => 2 | 8 => 100 | 9 => 120
  | 22 => 2 | 25 => 100 | 26 => 90
  | _ => 0

/-- Page 7 defaults (R159). -/
def default7 : Nat → Nat
  | 0 => 0 | 1 => 40 | 2 => 4 | 3 => 1 | 4 => 12 | 5 => 6 | 6 => 4
  | _ => 600

/-- Page 8 defaults (R177). -/
def default8 : Nat → Nat
  | 0 => 40 | 1 => 60 | 2 => 6 | 3 => 12000
  | _ => 8000

/-- Page 9 defaults: scenes of six levels, then the courtesy level (R187). -/
def default9 (i : Nat) : Nat :=
  if i < 6 then 0 else if i < 12 then 1000 else if i < 18 then 400 else if i < 24 then 150 else 600

/-- The default of a parameter, under the chemistry and the capacities in force (R19). -/
def paramDefault (chem : Chemistry) (capA capB page idx : Nat) : Word :=
  match page with
  | 0 => if idx = 0 then 4810 else if idx = 1 then Config.revision else if idx = 2 then 16383 else 0
  | 1 => BitVec.ofNat 16 (default1 chem capA capB idx)
  | 2 => if idx = 0 then 1 else 0
  | 3 => BitVec.ofNat 16 (default3 idx)
  | 4 => BitVec.ofNat 16 (default4 chem idx)
  | 5 => BitVec.ofNat 16 (default5 idx)
  | 6 => BitVec.ofNat 16 (default6 idx)
  | 7 => BitVec.ofNat 16 (default7 idx)
  | 8 => BitVec.ofNat 16 (default8 idx)
  | _ => BitVec.ofNat 16 (default9 idx)

/-- Every page at its defaults, under the chemistry LITHIUM and the capacities 100 Ah that the defaults bring (R19). -/
def defaultPages : Pages :=
  (List.range 10).map fun page =>
    (List.range (pageLength page)).map fun idx => paramDefault .lithium 100 100 page idx

/-! ### The typed view -/

/-- The number 0 or 1 of a bank (R203). -/
def bankIdx : Bank → Nat
  | .A => 0
  | .B => 1

/-- R19 index 0. -/
def Pages.chemistry (ps : Pages) : Chemistry := if ps.nat 1 0 = 0 then .lead else .lithium
/-- Capacity in Ah (R19). -/
def Pages.capacity (ps : Pages) (b : Bank) : Nat := ps.nat 1 (1 + bankIdx b)
/-- Full content F in charge units (00 "Terms", R21). -/
def Pages.fullContent (ps : Pages) (b : Bank) : Nat := ps.capacity b * 36000000
/-- Gain in force, in 1/1024 mA per count (R19). -/
def Pages.gain (ps : Pages) (b : Bank) : Nat := ps.nat 1 (3 + bankIdx b)
/-- Charge efficiency in force, in ‰ (R19). -/
def Pages.efficiency (ps : Pages) (b : Bank) : Nat := ps.nat 1 (5 + bankIdx b)
/-- Full voltage in mV (R19). -/
def Pages.fullVoltage (ps : Pages) (b : Bank) : Nat := ps.nat 1 (7 + bankIdx b)
/-- Tail current in mA (R19). -/
def Pages.tailCurrent (ps : Pages) (b : Bank) : Nat := ps.nat 1 (9 + bankIdx b)
/-- Rest current in mA (R19). -/
def Pages.restCurrent (ps : Pages) : Nat := ps.nat 1 11
/-- Rest time in sample periods of 100 ms (R12, R19). -/
def Pages.restSamples (ps : Pages) : Nat := ps.nat 1 12 * 10
/-- Correction band in ‰ (R19). -/
def Pages.correctionBand (ps : Pages) : Nat := ps.nat 1 13
/-- A point (mV, ‰) of the OCV table of a chemistry (R14). -/
def Pages.ocvPoint (ps : Pages) (chem : Chemistry) (i : Nat) : Nat × Nat :=
  let base := match chem with | .lead => 14 | .lithium => 30
  (ps.nat 1 (base + 2 * i), ps.nat 1 (base + 2 * i + 1))
/-- The tie setting (R39). -/
def Pages.tieSetting (ps : Pages) : Tie := if ps.nat 2 0 = 0 then .split else .joined
/-- Charge minimum in half degrees (R39). -/
def Pages.chargeMinimum (ps : Pages) : Int := ps.int 2 1

/-- The role that a code names (R75). -/
def roleOfCode : Nat → Role
  | 1 => .pump | 2 => .heater | 3 => .frostValve | 4 => .battPad | 5 => .stepLight | 6 => .motor
  | _ => .general

/-- Configured class of a load (R75). -/
def Pages.loadClass (ps : Pages) (l : LoadId) : Nat := ps.nat 3 (6 * l.val)
/-- Home bus of a load (R75). -/
def Pages.homeBank (ps : Pages) (l : LoadId) : Bank := if ps.nat 3 (6 * l.val + 1) = 0 then .A else .B
/-- Nominal draw of a load in mA (R75). -/
def Pages.nominal (ps : Pages) (l : LoadId) : Nat := ps.nat 3 (6 * l.val + 2)
/-- Role of a load (R75). -/
def Pages.role (ps : Pages) (l : LoadId) : Role := roleOfCode (ps.nat 3 (6 * l.val + 3))
/-- Trip current of a channel in mA (R97). -/
def Pages.tripCurrent (ps : Pages) (l : LoadId) : Nat := ps.nat 3 (6 * l.val + 4)
/-- Open threshold of a channel in mA (R97). -/
def Pages.openThreshold (ps : Pages) (l : LoadId) : Nat := ps.nat 3 (6 * l.val + 5)

/-- Limit of a bank's bus in mA, written in 10 mA steps (R76). -/
def Pages.busLimit (ps : Pages) (b : Bank) : Nat := 10 * ps.nat 4 (bankIdx b)
/-- Floor of a class on a bank's bus in ‰; class 1 has none (R47, R76). -/
def Pages.busFloor (ps : Pages) (b : Bank) (cls : Nat) : Nat :=
  if 2 ≤ cls ∧ cls ≤ 4 then ps.nat 4 (cls + 3 * bankIdx b) else 0
/-- Restore hysteresis in ‰ (R76). -/
def Pages.restoreHysteresis (ps : Pages) : Nat := ps.nat 4 8
/-- Undervoltage cut of a bank's bus in mV (R76). -/
def Pages.busCut (ps : Pages) (b : Bank) : Nat := ps.nat 4 (9 + bankIdx b)
/-- Shed depth warning level of a bank's bus (R76). -/
def Pages.warnLevel (ps : Pages) (b : Bank) : Nat := ps.nat 4 (11 + bankIdx b)

/-- A field of a line (R121). -/
def Pages.lineField (ps : Pages) (s : LineId) (field : Nat) : Nat := ps.nat 5 (11 * s.val + field)
/-- Stored enable of a line (R121). -/
def Pages.lineEnable (ps : Pages) (s : LineId) : Bool := ps.lineField s 0 != 0
/-- Decoding mode of a line (R121). -/
def Pages.lineMode (ps : Pages) (s : LineId) : LineMode :=
  match ps.lineField s 1 with
  | 0 => .level
  | 1 => .width
  | _ => .pulse

/-- The line role that a code names (R121). -/
def lineRoleOfCode : Nat → LineRole
  | 1 => .freshLevel | 2 => .greyLevel | 3 => .flow | 4 => .cabinTemp | 5 => .bayTemp | 6 => .battTemp
  | _ => .none

/-- Role of a line (R121). -/
def Pages.lineRole (ps : Pages) (s : LineId) : LineRole := lineRoleOfCode (ps.lineField s 2)
/-- Whether the line uses the ADAPTIVE threshold method (R121). -/
def Pages.adaptive (ps : Pages) (s : LineId) : Bool := ps.lineField s 3 != 0
/-- Standstill time in ms (R121). -/
def Pages.standstillMs (ps : Pages) : Nat := ps.nat 5 66 * 100
/-- Storage duty period in ms (R121). -/
def Pages.dutyMs (ps : Pages) : Nat := ps.nat 5 67 * 1000

/-- The line that carries a role, the lowest-numbered one (R113 allows one at most). -/
def Pages.lineWith (ps : Pages) (r : LineRole) : Option LineId :=
  (List.finRange 6).find? fun s => ps.lineRole s == r
/-- The load that holds a role, the lowest-numbered one (R45 allows one at most for the unique roles). -/
def Pages.loadWith (ps : Pages) (r : Role) : Option LoadId :=
  (List.finRange 20).find? fun l => ps.role l == r

/-- Low threshold of FRESH in % (R140). -/
def Pages.lowThreshold (ps : Pages) : Nat := ps.nat 6 0
/-- Full threshold of GREY in % (R140). -/
def Pages.fullThreshold (ps : Pages) : Nat := ps.nat 6 1
/-- Running threshold of the pump in mA (R140). -/
def Pages.runningThreshold (ps : Pages) : Nat := ps.nat 6 2
/-- Dry time in ms (R140). -/
def Pages.dryMs (ps : Pages) : Nat := ps.nat 6 3 * 1000
/-- Volume per pulse in µL (R140). -/
def Pages.volumePerPulse (ps : Pages) : Nat := ps.nat 6 4
/-- The points in use of a tank's calibration table (R129). -/
def Pages.tankTable (ps : Pages) (t : Tank) : List (Nat × Nat) :=
  let base := match t with | .fresh => 5 | .grey => 22
  (List.range (ps.nat 6 base)).map fun i => (ps.nat 6 (base + 1 + 2 * i), ps.nat 6 (base + 2 + 2 * i))

/-- Thermostat mode (R159). -/
def Pages.thermoMode (ps : Pages) : ThermoMode :=
  match ps.nat 7 0 with
  | 0 => .off
  | 1 => .comfort
  | _ => .frostHold
/-- Setpoint in half degrees (R159). -/
def Pages.setpoint (ps : Pages) : Int := ps.int 7 1
/-- Thermostat hysteresis in half degrees (R159). -/
def Pages.thermoHysteresis (ps : Pages) : Nat := ps.nat 7 2
/-- Guard enable (R159). -/
def Pages.guardEnabled (ps : Pages) : Bool := ps.nat 7 3 != 0
/-- Warn threshold in half degrees (R159). -/
def Pages.warnThreshold (ps : Pages) : Int := ps.int 7 4
/-- Dump threshold in half degrees (R159). -/
def Pages.dumpThreshold (ps : Pages) : Int := ps.int 7 5
/-- Guard hysteresis in half degrees (R159). -/
def Pages.guardHysteresis (ps : Pages) : Nat := ps.nat 7 6
/-- Risk time in ms (R159). -/
def Pages.riskMs (ps : Pages) : Nat := ps.nat 7 7 * 1000

/-- Awning travel time in ms (R177). -/
def Pages.travelMs (ps : Pages) : Nat := ps.nat 8 0 * 1000
/-- Timeout of an axis in ms (R177). -/
def Pages.axisTimeoutMs (ps : Pages) : Axis → Nat
  | .awn => ps.nat 8 1 * 1000
  | .step => ps.nat 8 2 * 1000
/-- Stall threshold of an axis in mA (R177). -/
def Pages.stallThreshold (ps : Pages) : Axis → Nat
  | .awn => ps.nat 8 3
  | .step => ps.nat 8 4

/-- Level of a scene for a channel (R187). -/
def Pages.sceneLevel (ps : Pages) (scene : Nat) (c : LightId) : Nat := ps.nat 9 (6 * scene + c.val)
/-- Courtesy level (R187). -/
def Pages.courtesyLevel (ps : Pages) : Nat := ps.nat 9 24

/-! ### The stored image -/

/-- The bytes of an image: every writable value (all but the two read-only ones that open page 0), in page and index
order, each low byte first (log 12). -/
def pagesBytes (ps : Pages) : List Byte := ((ps.flatten.drop 2).map fun v => leBytes 2 v.toNat).flatten

/-- The CRC-16 over an image (11 "The settings store"; log 12). -/
def imageCrc (ps : Pages) : Word := crc16 (pagesBytes ps)

end Sys2Proof.Machine
end

