-- ==== Sys2Proof/Machine/State.lean ====
section
/-! DEFINITION. The state of the SZ-4810, block by block, and the state after reset. INVENTORY.md lists every field with the
rule that names it. All times are in ms unless a docstring says otherwise; a countdown is `none` while it is stopped. -/

namespace Sys2Proof.Machine

/-! ### Codes shared by the blocks -/

/-- The status codes of a reply, in the order of the status table (R203). -/
inductive Status
  | ok | linkError | unknownKind | badArg | range | wrongMode | interlock | noBudget | lowCharge | shed
  | faulted | owned | busy | starting | lineEnabled | loadActive | busFull | exerciseActive | dry | storeFail
  deriving DecidableEq, Repr

/-- The operating mode (chapter 10). -/
inductive Mode | start | active | storage | service
  deriving DecidableEq, Repr

/-- The kinds of reset (R192). -/
inductive ResetKind | power | pin | soft
  deriving DecidableEq, Repr

/-- The kinds of notice, 0x40 upward (R203). -/
inductive NoticeKind
  | started | mode | bank | charge | loadState | shedDepth | outputFault | lineFault | tank | frost | heaterState
  | motion | driveWarning | paramApplied
  deriving DecidableEq, Repr

/-- A notice: its kind, the number of its subject and its payload as it stood at posting (R203, R211). -/
structure Notice where
  kind : NoticeKind
  subject : Nat
  data : List Byte
  deriving DecidableEq, Repr

/-! ### BNK -/

/-- The accounting state of a bank (R3). -/
inductive Acct | calibrating | counting
  deriving DecidableEq, Repr

/-- The bank record (chapter 1). Capacity, gain and efficiency in force stand in the parameter pages. -/
structure BankRec where
  /-- Content C in charge units. -/
  content : Nat
  lastCurrent : Option Int
  lastVoltage : Option Nat
  offset : Int
  pendingGain : Option Nat
  pendingEff : Option Nat
  acct : Acct
  calSum : Int
  calSamples : Nat
  estimated : Bool
  full : Bool
  empty : Bool
  currentSat : Bool
  offsetSat : Bool
  atRest : Bool
  /-- In sample periods of 100 ms. -/
  restTimer : Nat
  /-- In sample periods of 100 ms. -/
  fullSyncTimer : Nat
  secondCount : Nat
  minuteCount : Nat
  minuteSum : Int
  /-- In minutes. -/
  timeToEmpty : Option Nat
  deriving DecidableEq, Repr

/-- Which banks a BANK_ZERO in flight selected (R6). -/
structure Zeroing where
  a : Bool
  b : Bool
  deriving DecidableEq, Repr

/-- The Bank Monitor. -/
structure Bnk where
  a : BankRec
  b : BankRec
  /-- The BANK_ZERO whose reply is held (R6). -/
  zeroing : Option Zeroing
  deriving DecidableEq, Repr

/-! ### CHG -/

/-- Why the cold inhibit is SET (R34). -/
inductive InhibitCause | cold | unknown
  deriving DecidableEq, Repr

/-- The state of the battery pad (R35, R36). -/
inductive PadState | noPad | idle | running | waiting | refused (code : Status) | faulted
  deriving DecidableEq, Repr

/-- The charge record (chapter 2). -/
structure Chg where
  shoreEnable : Bool
  solarEnable : Bool
  /-- The split relay is CLOSED. -/
  splitClosed : Bool
  highCount : Nat
  lowCount : Nat
  dplusCount : Nat
  /-- In half degrees; present while known. -/
  battTemp : Option Int
  /-- The staleness timer (R33). -/
  battTimer : Option Nat
  /-- `none` is CLEAR. -/
  coldInhibit : Option InhibitCause
  pad : PadState
  padRetry : Option Nat
  tieRelay : Tie
  /-- The Bank Monitor's calibration hold is raised (R32). -/
  calHold : Bool
  deriving DecidableEq, Repr

/-! ### LDM -/

/-- The state of a load (chapter 3). -/
inductive LoadState | off | on | shed | faulted | exercised
  deriving DecidableEq, Repr

/-- Why a load was shed (R51). -/
inductive ShedCause | room | overload | chargeFloor | undervoltage
  deriving DecidableEq, Repr

/-- The load record (chapter 3). Role, class, home bus and nominal draw stand on page 3. -/
structure LoadRec where
  state : LoadState
  /-- HEATER only (R66). -/
  promoted : Bool
  /-- Light loads only, in ‰. -/
  wantedLevel : Nat
  /-- Uptime at which the load last became ON. -/
  admittedAt : Word32
  measured : Option Nat
  fresh : Bool
  /-- The class MOT asked for, present while a MOTOR load is ON. -/
  motorClass : Option Nat
  deriving DecidableEq, Repr

/-- An entry of a shed stack (R51). -/
structure ShedEntry where
  load : LoadId
  cause : ShedCause
  shedAt : Word32
  deriving DecidableEq, Repr

/-- A bus record with its on-list (oldest first) and its shed stack (bottom first) (R48, R50, R51). -/
structure BusRec where
  /-- Latest publication (R48). -/
  soc : Nat
  voltage : Option Nat
  uvFlag : Bool
  belowCut : Option Nat
  depthMark : Bool
  onList : List LoadId
  stack : List ShedEntry
  deriving DecidableEq, Repr

/-- The Load Manager. The record JOINED is in use while the tie is JOINED, A and B while it is SPLIT (R48). -/
structure Ldm where
  loads : Vector LoadRec 20
  busA : BusRec
  busB : BusRec
  busJ : BusRec
  restoreTimer : Nat
  deriving DecidableEq, Repr

/-! ### OUT -/

/-- The switching state of a channel (R78). -/
inductive Switching | off | on | tripped
  deriving DecidableEq, Repr

/-- A fault cause of a channel (chapter 4, Faults). -/
inductive OutCause | short | overcurrent | openLoad | backfeed | hot
  deriving DecidableEq, Repr

/-- The latched causes of a channel (R92). -/
structure OutLatches where
  short : Bool
  overcurrent : Bool
  openLoad : Bool
  backfeed : Bool
  hot : Bool
  deriving DecidableEq, Repr

/-- The channel record (chapter 4). -/
structure Channel where
  switching : Switching
  /-- Light channels, in ‰. -/
  duty : Nat
  /-- Zero offset in mA. -/
  zero : Int
  zeroSat : Bool
  last : Option Nat
  fresh : Bool
  freshTimer : Option Nat
  overCount : Nat
  openCount : Nat
  /-- Channels 18 and 19. -/
  inrush : Option Nat
  latched : OutLatches
  tripCount : Nat
  /-- The sum of the zero calibration (R86). -/
  calSum : Int
  /-- Whether the channel takes part in the zero calibration (R86). -/
  calTakes : Bool
  /-- The driver's backfeed report stands (R90). -/
  backfeedStands : Bool
  deriving DecidableEq, Repr

/-- Who asked for a measurement (R80). -/
inductive MeasureSource | tracking | spot | sweep
  deriving DecidableEq, Repr

/-- The measurement under way (R80, R84). -/
structure Measuring where
  channel : LoadId
  source : MeasureSource
  /-- The host's SPOT_CHECK waits for it (R82). -/
  host : Bool
  /-- The channel was ON at the grant and has not changed state since (R84). -/
  onThroughout : Bool
  /-- 1 ms, or 3 ms with the multiplexer's settling (R80). -/
  left : Nat
  deriving DecidableEq, Repr

/-- An entry of the spot queue (R82). -/
structure SpotEntry where
  channel : LoadId
  host : Bool
  check : Bool
  deriving DecidableEq, Repr

/-- The Output Monitor. -/
structure Out where
  channels : Vector Channel 20
  /-- A group's temperature warning stands (R91). -/
  groupHot : Vector Bool 5
  running : Option Measuring
  /-- The group of the previous completed measurement (R80). -/
  lastGroup : Option GroupId
  trackingSlot : Option LoadId
  spotQueue : List SpotEntry
  sweepPos : LoadId
  /-- The sweep holds at position 0 in STORAGE (R83). -/
  sweepHeld : Bool
  passTimer : Option Nat
  /-- Passes done while the zero calibration runs (R86). -/
  zeroPass : Option Nat
  exercise : Option LoadId
  deriving DecidableEq, Repr

/-! ### SLI -/

/-- The supply state of a line (R99). -/
inductive Supply | off | settling | on | fault
  deriving DecidableEq, Repr

/-- The level state of a line (R100). -/
inductive LevelState | base | tier1 | tier2
  deriving DecidableEq, Repr

/-- The sender status of a level (R106). -/
inductive SenderStatus | ok | drift
  deriving DecidableEq, Repr

/-- The value of a line, by its mode (chapter 5). -/
inductive LineValue
  | level (percent : Nat) (status : SenderStatus)
  | temp (halfDegrees : Int)
  | rate (perSecond : Nat)
  deriving DecidableEq, Repr

/-- A fault cause of a line (R115). -/
inductive LineCause
  | shortGnd | shortBat | openWire | currentHigh | hot | invalid | pulseOverflow | outOfRange | senderFault
  deriving DecidableEq, Repr

/-- The latched faults of a line (R115). -/
structure LineLatches where
  shortGnd : Bool
  shortBat : Bool
  openWire : Bool
  currentHigh : Bool
  hot : Bool
  invalid : Bool
  pulseOverflow : Bool
  outOfRange : Bool
  senderFault : Bool
  deriving DecidableEq, Repr

/-- The four thresholds in force, in line units (R100, R102, R103). -/
structure Thresholds where
  t1 : Nat
  t2 : Nat
  fall1 : Nat
  fall2 : Nat
  deriving DecidableEq, Repr

/-- The line record (chapter 5), with the decoding under way. Dates are in µs, currents in line units of 0.1 mA. -/
structure LineRec where
  enabled : Bool
  supply : Supply
  settle : Option Nat
  ib : Int
  a1 : Int
  a2 : Int
  baseSat : Bool
  a1Sat : Bool
  a2Sat : Bool
  thr : Thresholds
  level : LevelState
  value : Option LineValue
  age : Option Nat
  bits : Nat
  complete : Bool
  width : Option Nat
  pulseTotal : Word32
  secondCount : Nat
  nodata : Bool
  nodataTimer : Nat
  standstill : Bool
  standstillTimer : Nat
  rateTimer : Option Nat
  openTimer : Nat
  highCount : Nat
  latched : LineLatches
  /-- A pulse whose start was seen, and whether it has entered TIER2 (R100). -/
  pulse : Option Bool
  /-- A stay in TIER2 whose start was seen, and whether it is recognized as a sync (R100). -/
  sync : Option Bool
  /-- The slots sampled so far of the frame under way (R106). -/
  frame : Option (List Bool)
  /-- The date at which the width measurement under way started (R110). -/
  widthStart : Option Nat
  /-- An overflowed WIDTH pulse has not yet returned to BASE (R119). -/
  overflow : Bool
  /-- The level state has stood at BASE since the window began (R101). -/
  windowBase : Bool
  /-- The mean of the last window (R119). -/
  windowMean : Nat
  /-- The line current as last observed (log 29). -/
  current : Nat
  /-- The line voltage over the rail as last judged, in mV (R116, log 28). -/
  overRail : Int
  /-- The value held is a clamped one (R119). -/
  clampedValue : Bool
  /-- The last complete frame with correct parity was judged a sender fault (R119). -/
  lastFault : Bool
  deriving DecidableEq, Repr

/-- The Sensor Line Interface. -/
structure Sli where
  lines : Vector LineRec 6
  /-- The driver's temperature warning stands (R118). -/
  driverHot : Bool
  dutyTimer : Option Nat
  windowTimer : Option Nat
  /-- The model's own: a written standstill time has not yet met an advance of the standstill timers (R121; log 42). -/
  standWritten : Bool
  deriving DecidableEq, Repr

/-! ### WAT -/

/-- The level state of a tank (R125). -/
inductive TankLevel | none | waiting | current | held
  deriving DecidableEq, Repr

/-- The tank record (chapter 6). -/
structure TankRec where
  levelState : TankLevel
  level : Option Nat
  status : SenderStatus
  /-- The level window, oldest first (R127). -/
  window : List Nat
  /-- LOW of the fresh tank, FULL of the grey one (R130). -/
  alarm : Bool
  senderFault : Bool
  deriving DecidableEq, Repr

/-- The state of the pump (R133). -/
inductive PumpState | noPump | off | running | waiting | faulted
  deriving DecidableEq, Repr

/-- The Water Unit. -/
structure Wat where
  fresh : TankRec
  grey : TankRec
  /-- FRESH only (R135). -/
  dry : Bool
  /-- FRESH only (R131). -/
  dumped : Bool
  /-- In mL, wrapping (R132). -/
  total : Word32
  /-- In µL (R132). -/
  remainder : Nat
  rate : Option Nat
  request : Bool
  pump : PumpState
  lastAnswer : Option Status
  dryTimer : Nat
  /-- The model's own: a written running threshold or dry time has not yet met an advance of the dry timer (R140; log 42). -/
  dryWritten : Bool
  deriving DecidableEq, Repr

/-! ### CLM -/

/-- The state of the heater as CLM follows it (R146). -/
inductive HeaterState | noHeater | idle | running | waiting | denied (code : Status) | faulted
  deriving DecidableEq, Repr

/-- A change held by a minimum time (R145). -/
inductive Held | none | heldOn | heldOff
  deriving DecidableEq, Repr

/-- The state of the frost guard (R148). -/
inductive GuardState | off | safe | watch | risk | dumped
  deriving DecidableEq, Repr

/-- The Climate Unit: the thermostat record and the guard record (chapter 7). -/
structure Clm where
  cabin : Option Int
  cabinTimer : Option Nat
  bay : Option Int
  bayTimer : Option Nat
  call : Bool
  hold : Bool
  heatWanted : Bool
  heater : HeaterState
  held : Held
  evalTimer : Option Nat
  minOn : Option Nat
  minOff : Option Nat
  guard : GuardState
  unknownTimer : Nat
  riskTimer : Option Nat
  deriving DecidableEq, Repr

/-! ### MOT -/

/-- The state of an axis (R162). -/
inductive AxisState | retracted | extending | extended | retracting | stoppedMid | blocked | fault
  deriving DecidableEq, Repr

/-- Direction of a motion. -/
inductive Direction | extend | retract
  deriving DecidableEq, Repr

/-- The result of a motion or of a request that ended without a start (R162, R166, R169, R176). `refused` carries the Load
Manager's code. -/
inductive MotionResult
  | reached | target | stopped | reversed | preempted | interlock | blocked | timeout | switchConflict | wrongEnd
  | noTracking | tripped | cut | dropped | wrongMode
  | refused (code : Status)
  deriving DecidableEq, Repr

/-- The axis record (chapter 8). The switches stand in the signals of MDC. -/
structure AxisRec where
  state : AxisState
  /-- AWN only, in ‰. -/
  position : Option Nat
  stall : Nat
  lastResult : Option MotionResult
  lastCurrent : Option Nat
  deriving DecidableEq, Repr

/-- The stage of the active motion (R164). -/
inductive Stage | wait | drive | backoffWait | backoff
  deriving DecidableEq, Repr

/-- The motion in the active slot (R164), with the estimate of its drive (R163). -/
structure Motion where
  axis : Axis
  dir : Direction
  target : Option Nat
  motorClass : Nat
  stage : Stage
  /-- The state of the axis before the motion, for a start that R168 step 2 refuses. -/
  before : AxisState
  /-- Position at the start of the drive (R163). -/
  basePos : Option Nat
  drivenMs : Nat
  /-- The travel time the drive started with (R177). -/
  travelMs : Nat
  deriving DecidableEq, Repr

/-- Where a pending request came from. -/
inductive Origin | host | driveOff
  deriving DecidableEq, Repr

/-- The request in the pending slot (R164). -/
structure PendingMove where
  axis : Axis
  dir : Direction
  target : Option Nat
  origin : Origin
  deriving DecidableEq, Repr

/-- What the bridge does (R164). -/
inductive Bridge | off | brake | outward | inward
  deriving DecidableEq, Repr

/-- The Motion Unit. -/
structure Mot where
  awn : AxisRec
  step : AxisRec
  bridge : Bridge
  active : Option Motion
  pend : Option PendingMove
  dead : Option Nat
  tick : Option Nat
  inrush : Option Nat
  watch : Option Nat
  timeout : Option Nat
  backoff : Option Nat
  deriving DecidableEq, Repr

/-! ### LUX -/

/-- The light channel record (chapter 9). The load state stands in the load record, the duty in the channel record. -/
structure LightRec where
  target : Nat
  present : Nat
  fadeEnd : Nat
  fadeStep : Option Nat
  tick : Option Nat
  courtesy : Option Nat
  deriving DecidableEq, Repr

/-- The Light Unit. -/
structure Lux where
  lights : Vector LightRec 6
  deriving DecidableEq, Repr

/-! ### MDC -/

/-- A vehicle signal: the raw level at its pin, the debounced state and the debounce timer (R189). `true` is active,
applied or asserted. -/
structure SignalRec where
  raw : Bool
  deb : Bool
  timer : Nat
  deriving DecidableEq, Repr

/-- The seven signals (R189). -/
structure Signals where
  dplus : SignalRec
  handbrake : SignalRec
  mainsOk : SignalRec
  awnIn : SignalRec
  awnOut : SignalRec
  stepIn : SignalRec
  stepOut : SignalRec
  deriving DecidableEq, Repr

/-- The settings state of the start-up progress (R193). -/
inductive SettingsState | loaded | defaulted
  deriving DecidableEq, Repr

/-- The snapshot state of the start-up progress (R193). -/
inductive SnapshotState | valid | invalid | notRead
  deriving DecidableEq, Repr

/-- Mode Control. -/
structure Mdc where
  mode : Mode
  signals : Signals
  starterVoltage : Option Nat
  supply : Nat
  supplyWarning : Bool
  /-- `none` until the start-up load (R193). -/
  settings : Option SettingsState
  /-- `none` until the start-up load (R193). -/
  snapshot : Option SnapshotState
  bankDone : Bool
  zeroDone : Bool
  /-- The storage resume flag (R192, R194); clear between a POWER reset and the start-up load (log 77). -/
  resume : Bool
  resetKind : ResetKind
  /-- The record that the frost valve channel was ON at the reset (R192). -/
  valveOn : Bool
  /-- ms since the reset, up to 20 (R193). -/
  sinceReset : Nat
  deriving DecidableEq, Repr

/-! ### LNK -/

/-- The frame receiver (R201): in BODY with LEN and the bytes so far, in CRC with the whole body. -/
inductive Receiver
  | hunt
  | len
  | body (len : Nat) (bytes : List Byte)
  | crc (bytes : List Byte)
  deriving DecidableEq, Repr

/-- A formed reply in the reply slot: reply KIND, status, payload (without segment bytes), the LINK_FLAGS of its header
once its first segment has been formed, and the segments sent (R203, R204). -/
structure ReplySlot where
  kind : Byte
  status : Status
  payload : List Byte
  flags : Option Byte
  sent : Nat
  deriving DecidableEq, Repr

/-- An immediate reply (R203). -/
structure Immediate where
  kind : Byte
  status : Status
  deriving DecidableEq, Repr

/-- What the frame being sent is (R203). -/
inductive TxSource
  | immediate
  | segment (last : Bool)
  | notice (kind : NoticeKind) (subject : Nat)
  deriving DecidableEq, Repr

/-- The frame being sent: SYNC, LEN, BODY and CRC, and whether it carries NOTICE_LOST (R201, R211). -/
structure TxFrame where
  source : TxSource
  carriesLost : Bool
  bytes : List Byte
  deriving DecidableEq, Repr

/-- The settings store: an image and its CRC-16 (11 "The settings store"). -/
structure Store where
  image : Pages
  crc : Word
  deriving DecidableEq, Repr

/-- A snapshot slot (R210). -/
structure Slot where
  contentA : Nat
  contentB : Nat
  resume : Bool
  seq : Word32
  crc : Word
  deriving DecidableEq, Repr

/-- What the non-volatile memory is doing (11 "The settings store"); a snapshot write names its slot (0 or 1). -/
inductive MemoryState | idle | saving | snapshot (one : Bool)
  deriving DecidableEq, Repr

/-- The Control Link. -/
structure Lnk where
  rx : Receiver
  /-- ms since the last byte of the frame under way (R201). -/
  rxTimer : Option Nat
  /-- The rate is 115,200 baud (R201). -/
  fastRate : Bool
  requests : List Request
  /-- The head request is dispatched and waits for its completion (R202). -/
  inFlight : Bool
  reply : Option ReplySlot
  immediate : Option Immediate
  /-- A SOFT reset follows the reply in the slot (R209). -/
  resetPending : Bool
  tx : Option TxFrame
  notices : List Notice
  noticeLost : Bool
  unsaved : Bool
  dflt : Bool
  store : Store
  slot0 : Slot
  slot1 : Slot
  memory : MemoryState
  snapHeld : Bool
  snapTimer : Nat
  deriving DecidableEq, Repr

/-! ### The whole part -/

/-- A report from one block to another that is taken once the reporting block has finished its own work in the event
(log 6). -/
inductive Report
  /-- LDM to MOT: a motor load went OFF with cause CUT (R62, R69). -/
  | motorCut (axis : Axis)
  /-- LDM to MOT: a motor load went FAULTED (R65). -/
  | motorFaulted (axis : Axis)
  /-- LDM to CLM: the valve load went FAULTED (R65, R154). -/
  | valveFaulted
  /-- LDM to CHG: the pad load returned to OFF after its fault was cleared (R36). -/
  | padCleared
  /-- OUT to LDM: an on order met a TRIPPED channel (R78). -/
  | tripped (load : LoadId)
  /-- MOT to LUX: the step entered EXTENDED (R185). -/
  | stepExtended
  deriving DecidableEq, Repr

/-- The records of the eleven blocks, the parameters and the uptime. -/
structure Part where
  uptime : Word32
  subSecond : Nat
  params : Pages
  bnk : Bnk
  chg : Chg
  ldm : Ldm
  out : Out
  sli : Sli
  wat : Wat
  clm : Clm
  mot : Mot
  lux : Lux
  mdc : Mdc
  lnk : Lnk
  outbox : List Report
  deriving DecidableEq, Repr

/-- The state of the machine: the part, and the commands that wait for it, first in first out (log 1). -/
structure State where
  part : Part
  pending : List Instr
  deriving DecidableEq, Repr

/-- No command of the part ends in a fault: every refusal is a reply status and every fault cause a latch. -/
inductive Fault
  deriving DecidableEq, Repr

/-- Why a command would have no meaning. -/
inductive Refusal
  /-- Raised by an arm of `exec` whose command has no meaning in the model yet; safe, since the machine stops. -/
  | notModelled (mnemonic : String)
  deriving DecidableEq, Repr

/-! ### The state after reset -/

/-- A bank record after POWER reset (R24); the content is the value of an invalid snapshot until the load (log 9), and FULL and
EMPTY are clear before they are re-evaluated (log 39). -/
def BankRec.reset : BankRec where
  content := 1800000000
  lastCurrent := none
  lastVoltage := none
  offset := 0
  pendingGain := none
  pendingEff := none
  acct := .calibrating
  calSum := 0
  calSamples := 0
  estimated := true
  full := false
  empty := false
  currentSat := false
  offsetSat := false
  atRest := false
  restTimer := 0
  fullSyncTimer := 0
  secondCount := 0
  minuteCount := 0
  minuteSum := 0
  timeToEmpty := none

/-- CHG after any reset (R43), under the default chemistry LITHIUM and with no pad load. -/
def Chg.reset : Chg where
  shoreEnable := false
  solarEnable := false
  splitClosed := false
  highCount := 0
  lowCount := 0
  dplusCount := 0
  battTemp := none
  battTimer := none
  coldInhibit := some .unknown
  pad := .noPad
  padRetry := none
  tieRelay := .split
  calHold := true

/-- A load after POWER reset (R77). -/
def LoadRec.reset : LoadRec where
  state := .off
  promoted := false
  wantedLevel := 0
  admittedAt := 0
  measured := none
  fresh := false
  motorClass := none

/-- A bus record with nothing on it (R77; log 39 for the state of charge before the first publication). -/
def BusRec.reset : BusRec where
  soc := 0
  voltage := none
  uvFlag := false
  belowCut := none
  depthMark := false
  onList := []
  stack := []

/-- LDM after POWER reset (R77). -/
def Ldm.reset : Ldm where
  loads := Vector.replicate 20 LoadRec.reset
  busA := BusRec.reset
  busB := BusRec.reset
  busJ := BusRec.reset
  restoreTimer := 2000

/-- No cause latched. -/
def OutLatches.none : OutLatches := ⟨false, false, false, false, false⟩

/-- A channel after POWER reset (R98), its offset 0 and ZERO_SAT clear until the zero calibration is done (log 39). -/
def Channel.reset : Channel where
  switching := .off
  duty := 0
  zero := 0
  zeroSat := false
  last := none
  fresh := false
  freshTimer := none
  overCount := 0
  openCount := 0
  inrush := none
  latched := OutLatches.none
  tripCount := 0
  calSum := 0
  calTakes := true
  backfeedStands := false

/-- OUT after POWER reset: the zero calibration has begun with the grant of channel 0, which settles (R80, R86, R98). -/
def Out.reset : Out where
  channels := Vector.replicate 20 Channel.reset
  groupHot := Vector.replicate 5 false
  running := some ⟨0, .sweep, false, false, 3⟩
  lastGroup := none
  trackingSlot := none
  spotQueue := []
  sweepPos := 0
  sweepHeld := false
  passTimer := none
  zeroPass := some 0
  exercise := none

/-- No line fault latched. -/
def LineLatches.none : LineLatches := ⟨false, false, false, false, false, false, false, false, false⟩

/-- A line after reset (R124), with the learned values of the default settings (R103). -/
def LineRec.reset : LineRec where
  enabled := false
  supply := .off
  settle := none
  ib := 40
  a1 := 70
  a2 := 70
  baseSat := false
  a1Sat := false
  a2Sat := false
  thr := ⟨75, 145, 67, 137⟩
  level := .base
  value := none
  age := none
  bits := 0
  complete := false
  width := none
  pulseTotal := 0
  secondCount := 0
  nodata := false
  nodataTimer := 0
  standstill := false
  standstillTimer := 0
  rateTimer := none
  openTimer := 0
  highCount := 0
  latched := LineLatches.none
  pulse := none
  sync := none
  frame := none
  widthStart := none
  overflow := false
  windowBase := true
  windowMean := 0
  current := 0
  overRail := 0
  clampedValue := false
  lastFault := false

/-- SLI after reset (R124). -/
def Sli.reset : Sli where
  lines := Vector.replicate 6 LineRec.reset
  driverHot := false
  dutyTimer := none
  windowTimer := none
  standWritten := false

/-- A tank whose role a line holds, after reset (R141). -/
def TankRec.reset : TankRec where
  levelState := .waiting
  level := none
  status := .ok
  window := []
  alarm := false
  senderFault := false

/-- WAT after POWER reset, with no pump load (R141). -/
def Wat.reset : Wat where
  fresh := TankRec.reset
  grey := TankRec.reset
  dry := false
  dumped := true
  total := 0
  remainder := 0
  rate := none
  request := false
  pump := .noPump
  lastAnswer := none
  dryTimer := 0
  dryWritten := false

/-- CLM after POWER reset, with no heater load (R161). -/
def Clm.reset : Clm where
  cabin := none
  cabinTimer := none
  bay := none
  bayTimer := none
  call := false
  hold := false
  heatWanted := false
  heater := .noHeater
  held := .none
  evalTimer := none
  minOn := none
  minOff := none
  guard := .dumped
  unknownTimer := 0
  riskTimer := none

/-- An axis after reset, both switches taken as inactive (R178). -/
def AxisRec.reset : AxisRec where
  state := .stoppedMid
  position := none
  stall := 0
  lastResult := none
  lastCurrent := none

/-- MOT after reset (R178). -/
def Mot.reset : Mot where
  awn := AxisRec.reset
  step := AxisRec.reset
  bridge := .off
  active := none
  pend := none
  dead := none
  tick := none
  inrush := none
  watch := none
  timeout := none
  backoff := none

/-- A light channel after reset (R188). -/
def LightRec.reset : LightRec where
  target := 0
  present := 0
  fadeEnd := 0
  fadeStep := none
  tick := none
  courtesy := none

/-- A signal at its resting value with its pin resting as well (R189, R200; log 10). -/
def SignalRec.reset : SignalRec := ⟨false, false, 0⟩

/-- The signals after a POWER reset of a part whose pins rest. -/
def Signals.reset : Signals :=
  ⟨SignalRec.reset, SignalRec.reset, SignalRec.reset, SignalRec.reset, SignalRec.reset, SignalRec.reset,
    SignalRec.reset⟩

/-- MDC after POWER reset (R200). DESIGN CHOICE: the storage resume flag is clear until the start-up load gives it (log 77). -/
def Mdc.reset : Mdc where
  mode := .start
  signals := Signals.reset
  starterVoltage := none
  supply := 0
  supplyWarning := false
  settings := none
  snapshot := none
  bankDone := false
  zeroDone := false
  resume := false
  resetKind := .power
  valveOn := false
  sinceReset := 0

/-- A store that has never been written: its CRC is wrong (log 8). -/
def Store.blank : Store := ⟨defaultPages, ~~~imageCrc defaultPages⟩

/-- The bytes of a snapshot that its CRC-16 covers (R210; log 12). -/
def Slot.bytes (contentA contentB : Nat) (resume : Bool) (seq : Word32) : List Byte :=
  n64 contentA ++ n64 contentB ++ bit resume ++ n32 seq.toNat

/-- The CRC-16 that makes a slot valid (R210). -/
def Slot.crcOf (s : Slot) : Word := crc16 (Slot.bytes s.contentA s.contentB s.resume s.seq)

/-- A slot that has never been written: its CRC is wrong (log 8). -/
def Slot.blank : Slot := ⟨0, 0, false, 0, ~~~crc16 (Slot.bytes 0 0 false 0)⟩

/-- The kind of a reset in its code (R203, R192). -/
def resetKindCode : ResetKind → Nat
  | .power => 0
  | .pin => 1
  | .soft => 2

/-- The body of the STARTED notice: the part as subject, the reset kind and the revision (R212). -/
def startedBody (k : ResetKind) : List Byte :=
  [0x40#8, 0x00#8] ++ n8 (resetKindCode k) ++ n16 Config.revision.toNat

/-- LNK after POWER reset: STARTED has been posted and, first in the queue, is being sent (R212). -/
def Lnk.reset : Lnk where
  rx := .hunt
  rxTimer := none
  fastRate := Config.baudHigh
  requests := []
  inFlight := false
  reply := none
  immediate := none
  resetPending := false
  tx := some ⟨.notice .started 0, false, frameOf (startedBody .power)⟩
  notices := []
  noticeLost := false
  unsaved := false
  dflt := false
  store := Store.blank
  slot0 := Slot.blank
  slot1 := Slot.blank
  memory := .idle
  snapHeld := false
  snapTimer := 900000

/-- The part after POWER reset, before the start-up load. -/
def Part.reset : Part where
  uptime := 0
  subSecond := 0
  params := defaultPages
  bnk := ⟨BankRec.reset, BankRec.reset, none⟩
  chg := Chg.reset
  ldm := Ldm.reset
  out := Out.reset
  sli := Sli.reset
  wat := Wat.reset
  clm := Clm.reset
  mot := Mot.reset
  lux := ⟨Vector.replicate 6 LightRec.reset⟩
  mdc := Mdc.reset
  lnk := Lnk.reset
  outbox := []

/-- The machine right after a POWER reset: the part at its reset values, no command waiting. -/
def State.reset : State := ⟨Part.reset, []⟩

end Sys2Proof.Machine
end

