-- ==== Sys2Proof/Machine/Ops.lean ====
section
/-! DEFINITION. The shared operations on the part: reading and writing one record of a block, the derived facts that several
blocks read, and the posting of a notice. -/

namespace Sys2Proof.Machine

/-! ### One record of a block -/

/-- A bank record. -/
def Part.bank (p : Part) : Bank → BankRec
  | .A => p.bnk.a
  | .B => p.bnk.b

/-- Write a bank record. -/
def Part.setBank (p : Part) (b : Bank) (r : BankRec) : Part :=
  match b with
  | .A => { p with bnk := { p.bnk with a := r } }
  | .B => { p with bnk := { p.bnk with b := r } }

/-- A load record. -/
def Part.load (p : Part) (l : LoadId) : LoadRec := p.ldm.loads[l]

/-- Write a load record. -/
def Part.setLoad (p : Part) (l : LoadId) (r : LoadRec) : Part :=
  { p with ldm := { p.ldm with loads := p.ldm.loads.set l r } }

/-- A bus record (R48). -/
def Part.bus (p : Part) : BusName → BusRec
  | .A => p.ldm.busA
  | .B => p.ldm.busB
  | .joined => p.ldm.busJ

/-- Write a bus record. -/
def Part.setBus (p : Part) (b : BusName) (r : BusRec) : Part :=
  match b with
  | .A => { p with ldm := { p.ldm with busA := r } }
  | .B => { p with ldm := { p.ldm with busB := r } }
  | .joined => { p with ldm := { p.ldm with busJ := r } }

/-- A channel record. -/
def Part.chan (p : Part) (c : LoadId) : Channel := p.out.channels[c]

/-- Write a channel record. -/
def Part.setChan (p : Part) (c : LoadId) (r : Channel) : Part :=
  { p with out := { p.out with channels := p.out.channels.set c r } }

/-- A line record. -/
def Part.line (p : Part) (s : LineId) : LineRec := p.sli.lines[s]

/-- Write a line record. -/
def Part.setLine (p : Part) (s : LineId) (r : LineRec) : Part :=
  { p with sli := { p.sli with lines := p.sli.lines.set s r } }

/-- A tank record. -/
def Part.tank (p : Part) : Tank → TankRec
  | .fresh => p.wat.fresh
  | .grey => p.wat.grey

/-- Write a tank record. -/
def Part.setTank (p : Part) (t : Tank) (r : TankRec) : Part :=
  match t with
  | .fresh => { p with wat := { p.wat with fresh := r } }
  | .grey => { p with wat := { p.wat with grey := r } }

/-- An axis record. -/
def Part.axis (p : Part) : Axis → AxisRec
  | .awn => p.mot.awn
  | .step => p.mot.step

/-- Write an axis record. -/
def Part.setAxis (p : Part) (a : Axis) (r : AxisRec) : Part :=
  match a with
  | .awn => { p with mot := { p.mot with awn := r } }
  | .step => { p with mot := { p.mot with step := r } }

/-- A light channel record. -/
def Part.light (p : Part) (c : LightId) : LightRec := p.lux.lights[c]

/-- Write a light channel record. -/
def Part.setLight (p : Part) (c : LightId) (r : LightRec) : Part :=
  { p with lux := { p.lux with lights := p.lux.lights.set c r } }

/-- A signal record. -/
def Part.signal (p : Part) : Signal → SignalRec
  | .dplus => p.mdc.signals.dplus
  | .handbrake => p.mdc.signals.handbrake
  | .mainsOk => p.mdc.signals.mainsOk
  | .awnIn => p.mdc.signals.awnIn
  | .awnOut => p.mdc.signals.awnOut
  | .stepIn => p.mdc.signals.stepIn
  | .stepOut => p.mdc.signals.stepOut

/-- The signals with one record written. -/
def Signals.set (g : Signals) (x : Signal) (r : SignalRec) : Signals :=
  match x with
  | .dplus => { g with dplus := r }
  | .handbrake => { g with handbrake := r }
  | .mainsOk => { g with mainsOk := r }
  | .awnIn => { g with awnIn := r }
  | .awnOut => { g with awnOut := r }
  | .stepIn => { g with stepIn := r }
  | .stepOut => { g with stepOut := r }

/-- Write a signal record. -/
def Part.setSignal (p : Part) (x : Signal) (r : SignalRec) : Part :=
  { p with mdc := { p.mdc with signals := p.mdc.signals.set x r } }

/-- Put a report into the outbox (log 6). -/
def Part.report (p : Part) (r : Report) : Part := { p with outbox := p.outbox ++ [r] }

/-! ### Facts that several blocks read -/

/-- The debounced D+ is active (R189). -/
def Part.dplus (p : Part) : Bool := p.mdc.signals.dplus.deb

/-- The debounced handbrake is applied (R189). -/
def Part.handbrake (p : Part) : Bool := p.mdc.signals.handbrake.deb

/-- The debounced MAINS_OK is asserted (R189). -/
def Part.mains (p : Part) : Bool := p.mdc.signals.mainsOk.deb

/-- The vehicle is parked: the handbrake applied and D+ inactive, both debounced (R191). -/
def Part.parked (p : Part) : Bool := p.handbrake && !p.dplus

/-- The debounced IN switch of an axis (R162). -/
def Part.inSwitch (p : Part) : Axis → Bool
  | .awn => p.mdc.signals.awnIn.deb
  | .step => p.mdc.signals.stepIn.deb

/-- The debounced OUT switch of an axis (R162). -/
def Part.outSwitch (p : Part) : Axis → Bool
  | .awn => p.mdc.signals.awnOut.deb
  | .step => p.mdc.signals.stepOut.deb

/-- The motor load and motor channel of an axis: L18 for AWN, L19 for STEP (chapter 8). -/
def motorOf : Axis → LoadId
  | .awn => 18
  | .step => 19

/-- The load of a light channel: channel c drives L(12 + c) (chapter 9). -/
def lightLoad (c : LightId) : LoadId := ⟨12 + c.val, by omega⟩

/-- The light channel of a load, for L12 to L17. -/
def lightOf? (l : LoadId) : Option LightId :=
  if h : 12 ≤ l.val ∧ l.val < 18 then some ⟨l.val - 12, by omega⟩ else none

/-- The axis whose motor load this is. -/
def axisOf? (l : LoadId) : Option Axis :=
  if l.val = 18 then some .awn else if l.val = 19 then some .step else none

/-- The driver group of a channel (R80). -/
def groupOf (c : LoadId) : GroupId := ⟨c.val / 4, by omega⟩

/-- State of charge floor(C × 1000 / F) ‰ (R9). -/
def socOf (content full : Nat) : Nat := content * 1000 / full

/-- State of charge of a bank (R9). -/
def Part.bankSoc (p : Part) (b : Bank) : Nat := socOf (p.bank b).content (p.params.fullContent b)

/-- The load is ON or SHED: wanted (R58). -/
def LoadRec.wanted (r : LoadRec) : Bool := r.state == .on || r.state == .shed

/-- The bus record names in use for the tie in force (R48). -/
def Part.liveBuses (p : Part) : List BusName :=
  match p.chg.tieRelay with
  | .split => [.A, .B]
  | .joined => [.joined]

/-- The bus of a bank under the tie in force (R48). -/
def Part.busOfBank (p : Part) (b : Bank) : BusName :=
  match p.chg.tieRelay, b with
  | .joined, _ => .joined
  | .split, .A => .A
  | .split, .B => .B

/-- The bus that a load draws from (R48, R50). -/
def Part.busOf (p : Part) (l : LoadId) : BusName := p.busOfBank (p.params.homeBank l)

/-! ### Notices (R211) -/

/-- Position of a notice kind: its code is 0x40 plus it (R203). -/
def noticeIndex : NoticeKind → Nat
  | .started => 0
  | .mode => 1
  | .bank => 2
  | .charge => 3
  | .loadState => 4
  | .shedDepth => 5
  | .outputFault => 6
  | .lineFault => 7
  | .tank => 8
  | .frost => 9
  | .heaterState => 10
  | .motion => 11
  | .driveWarning => 12
  | .paramApplied => 13

/-- Whether the mask lets a kind through; STARTED always passes (R211). -/
def noticeEnabled (ps : Pages) (k : NoticeKind) : Bool :=
  k == .started || (ps.get 0 2).getLsbD (noticeIndex k)

/-- Whether a queued notice has this kind and subject (R211). -/
def Notice.isFor (k : NoticeKind) (subject : Nat) (n : Notice) : Bool := n.kind == k && n.subject == subject

/-- The notice queue after a posting that the mask let through, and whether the posting was dropped (R211). -/
def enqueueNotice (q : List Notice) (n : Notice) : List Notice × Bool :=
  if q.any (Notice.isFor n.kind n.subject) then
    (q.map fun m => if m.isFor n.kind n.subject then n else m, false)
  else if q.length < 16 then (q ++ [n], false)
  else (q, true)

/-- Post a notice: mask, replacement in place, the tail, or a drop with NOTICE_LOST (R211). -/
def Part.post (p : Part) (k : NoticeKind) (subject : Nat) (data : List Byte) : Part :=
  if noticeEnabled p.params k then
    let r := enqueueNotice p.lnk.notices ⟨k, subject, data⟩
    { p with lnk := { p.lnk with notices := r.1, noticeLost := p.lnk.noticeLost || r.2 } }
  else p

/-- Mark the working values as changed since the last SAVE (R204). -/
def Part.markUnsaved (p : Part) : Part := { p with lnk := { p.lnk with unsaved := true } }

/-- Write a parameter value that a request writes, marking SETTINGS_UNSAVED if it changed (R204). -/
def Part.writeSetting (p : Part) (page idx : Nat) (v : Word) : Part :=
  if p.params.get page idx = v then p
  else { p with params := p.params.set page idx v }.markUnsaved

end Sys2Proof.Machine
end

