-- ==== Sys2Proof/Machine/Flags.lean ====
section
/-! DEFINITION. The flag sets of the part as they stand in replies and notices: one bit per flag, in the order in which the
rules list the flags (R203). -/

namespace Sys2Proof.Machine

/-- ESTIMATED, FULL, EMPTY, CURRENT_SAT, OFFSET_SAT, AT_REST (R22). -/
def BankRec.flags (r : BankRec) : Nat :=
  flagBits [r.estimated, r.full, r.empty, r.currentSat, r.offsetSat, r.atRest]

/-- SHORT, OVERCURRENT, OPEN, BACKFEED, HOT (chapter 4, Channels). -/
def OutLatches.bits (x : OutLatches) : Nat :=
  flagBits [x.short, x.overcurrent, x.openLoad, x.backfeed, x.hot]

/-- Whether no cause is latched. -/
def OutLatches.isEmpty (x : OutLatches) : Bool := x == OutLatches.none

/-- Whether a cause is latched. -/
def OutLatches.has (x : OutLatches) : OutCause → Bool
  | .short => x.short
  | .overcurrent => x.overcurrent
  | .openLoad => x.openLoad
  | .backfeed => x.backfeed
  | .hot => x.hot

/-- Latch a cause. -/
def OutLatches.add (x : OutLatches) : OutCause → OutLatches
  | .short => { x with short := true }
  | .overcurrent => { x with overcurrent := true }
  | .openLoad => { x with openLoad := true }
  | .backfeed => { x with backfeed := true }
  | .hot => { x with hot := true }

/-- SHORT_GND, SHORT_BAT, OPEN, CURRENT_HIGH, HOT, INVALID, PULSE_OVERFLOW, OUT_OF_RANGE, SENDER_FAULT: nine bits, so
two bytes (chapter 5). -/
def LineLatches.bits (x : LineLatches) : Nat :=
  flagBits [x.shortGnd, x.shortBat, x.openWire, x.currentHigh, x.hot, x.invalid, x.pulseOverflow, x.outOfRange,
    x.senderFault]

/-- Whether a cause is latched. -/
def LineLatches.has (x : LineLatches) : LineCause → Bool
  | .shortGnd => x.shortGnd
  | .shortBat => x.shortBat
  | .openWire => x.openWire
  | .currentHigh => x.currentHigh
  | .hot => x.hot
  | .invalid => x.invalid
  | .pulseOverflow => x.pulseOverflow
  | .outOfRange => x.outOfRange
  | .senderFault => x.senderFault

/-- Latch a cause. -/
def LineLatches.add (x : LineLatches) : LineCause → LineLatches
  | .shortGnd => { x with shortGnd := true }
  | .shortBat => { x with shortBat := true }
  | .openWire => { x with openWire := true }
  | .currentHigh => { x with currentHigh := true }
  | .hot => { x with hot := true }
  | .invalid => { x with invalid := true }
  | .pulseOverflow => { x with pulseOverflow := true }
  | .outOfRange => { x with outOfRange := true }
  | .senderFault => { x with senderFault := true }

/-- LINK_FLAGS: NOTICE_LOST, SETTINGS_UNSAVED, SETTINGS_DEFAULT (R204). -/
def Lnk.flags (k : Lnk) : Nat := flagBits [k.noticeLost, k.unsaved, k.dflt]

/-- Hold-off flags of the shore-charger enable: NO_MAINS, COLD, CAL_HOLD (R40). -/
def Part.shoreHoldOff (p : Part) : List Bool := [!p.mains, p.chg.coldInhibit.isSome, p.chg.calHold]

/-- Hold-off flags of the solar enable: COLD, CAL_HOLD (R40). -/
def Part.solarHoldOff (p : Part) : List Bool := [p.chg.coldInhibit.isSome, p.chg.calHold]

/-- Hold-off flags of the split relay: NO_DPLUS, DPLUS_SHORT, STARTER_NOT_HIGH, COLD, CAL_HOLD (R40). -/
def Part.splitHoldOff (p : Part) : List Bool :=
  [!p.dplus, p.dplus && decide (p.chg.dplusCount < 50), decide (p.chg.highCount < 50), p.chg.coldInhibit.isSome,
    p.chg.calHold]

/-- The flags of a tank: LOW or FULL, SENDER_FAULT, and for FRESH also DRY and DUMPED (chapter 6, Tank records), packed without a
place for the flag of the other tank (log 51). -/
def Part.tankFlags (p : Part) : Tank → Nat
  | .fresh => flagBits [p.wat.fresh.alarm, p.wat.fresh.senderFault, p.wat.dry, p.wat.dumped]
  | .grey => flagBits [p.wat.grey.alarm, p.wat.grey.senderFault]

end Sys2Proof.Machine
end

