-- ==== Sys2Proof/Machine/Operands.lean ====
section
/-! DEFINITION. The coding of enumerated values and of request arguments (R202, R203): a value is coded by its position in the
list that first gives the values of its field, unless a parameter page codes it (log 16). -/

namespace Sys2Proof.Machine

/-! ### Codes of values in replies and notices -/

/-- The status table (R203). -/
def Status.code : Status → Nat
  | .ok => 0x00
  | .linkError => 0x01
  | .unknownKind => 0x02
  | .badArg => 0x03
  | .range => 0x04
  | .wrongMode => 0x05
  | .interlock => 0x06
  | .noBudget => 0x07
  | .lowCharge => 0x08
  | .shed => 0x09
  | .faulted => 0x0A
  | .owned => 0x0B
  | .busy => 0x0C
  | .starting => 0x0D
  | .lineEnabled => 0x0E
  | .loadActive => 0x0F
  | .busFull => 0x10
  | .exerciseActive => 0x11
  | .dry => 0x12
  | .storeFail => 0x13

/-- START, ACTIVE, STORAGE, SERVICE (00 "Terms"; log 67). -/
def Mode.code : Mode → Nat
  | .start => 0
  | .active => 1
  | .storage => 2
  | .service => 3

/-- LEAD, LITHIUM (R19). -/
def Chemistry.code : Chemistry → Nat
  | .lead => 0
  | .lithium => 1

/-- SPLIT, JOINED (R39). -/
def Tie.code : Tie → Nat
  | .split => 0
  | .joined => 1

/-- CALIBRATING, COUNTING (chapter 1). -/
def Acct.code : Acct → Nat
  | .calibrating => 0
  | .counting => 1

/-- A, B, JOINED (R203). -/
def busNameCode : BusName → Nat
  | .A => 0
  | .B => 1
  | .joined => 2

/-- COLD, UNKNOWN (chapter 2). -/
def InhibitCause.code : InhibitCause → Nat
  | .cold => 0
  | .unknown => 1

/-- NO_PAD, IDLE, RUNNING, WAITING, REFUSED, FAULTED (chapter 2). -/
def PadState.code : PadState → Nat
  | .noPad => 0
  | .idle => 1
  | .running => 2
  | .waiting => 3
  | .refused _ => 4
  | .faulted => 5

/-- The last refusal code, present in REFUSED (R40). -/
def PadState.refusal : PadState → Option Status
  | .refused c => some c
  | _ => none

/-- GENERAL, PUMP, HEATER, FROST_VALVE, BATT_PAD, STEP_LIGHT, MOTOR (R75). -/
def Role.code : Role → Nat
  | .general => 0
  | .pump => 1
  | .heater => 2
  | .frostValve => 3
  | .battPad => 4
  | .stepLight => 5
  | .motor => 6

/-- OFF, ON, SHED, FAULTED, EXERCISED (chapter 3). -/
def LoadState.code : LoadState → Nat
  | .off => 0
  | .on => 1
  | .shed => 2
  | .faulted => 3
  | .exercised => 4

/-- ROOM, OVERLOAD, CHARGE_FLOOR, UNDERVOLTAGE (R51). -/
def ShedCause.code : ShedCause → Nat
  | .room => 0
  | .overload => 1
  | .chargeFloor => 2
  | .undervoltage => 3

/-- OFF, ON, TRIPPED (chapter 4). -/
def Switching.code : Switching → Nat
  | .off => 0
  | .on => 1
  | .tripped => 2

/-- SHORT, OVERCURRENT, OPEN, BACKFEED, HOT (chapter 4). -/
def OutCause.code : OutCause → Nat
  | .short => 0
  | .overcurrent => 1
  | .openLoad => 2
  | .backfeed => 3
  | .hot => 4

/-- OFF, SETTLING, ON, FAULT (chapter 5). -/
def Supply.code : Supply → Nat
  | .off => 0
  | .settling => 1
  | .on => 2
  | .fault => 3

/-- OK, DRIFT (chapter 5). -/
def SenderStatus.code : SenderStatus → Nat
  | .ok => 0
  | .drift => 1

/-- SHORT_GND to SENDER_FAULT (chapter 5). -/
def LineCause.code : LineCause → Nat
  | .shortGnd => 0
  | .shortBat => 1
  | .openWire => 2
  | .currentHigh => 3
  | .hot => 4
  | .invalid => 5
  | .pulseOverflow => 6
  | .outOfRange => 7
  | .senderFault => 8

/-- LEVEL, WIDTH, PULSE (R121). -/
def LineMode.code : LineMode → Nat
  | .level => 0
  | .width => 1
  | .pulse => 2

/-- NONE, FRESH_LEVEL to BATT_TEMP (R121). -/
def LineRole.code : LineRole → Nat
  | .none => 0
  | .freshLevel => 1
  | .greyLevel => 2
  | .flow => 3
  | .cabinTemp => 4
  | .bayTemp => 5
  | .battTemp => 6

/-- FRESH, GREY (R203). -/
def Tank.code : Tank → Nat
  | .fresh => 0
  | .grey => 1

/-- NONE, WAITING, CURRENT, HELD (chapter 6). -/
def TankLevel.code : TankLevel → Nat
  | .none => 0
  | .waiting => 1
  | .current => 2
  | .held => 3

/-- NO_PUMP, OFF, RUNNING, WAITING, FAULTED (chapter 6). -/
def PumpState.code : PumpState → Nat
  | .noPump => 0
  | .off => 1
  | .running => 2
  | .waiting => 3
  | .faulted => 4

/-- OFF, COMFORT, FROST_HOLD (R159). -/
def ThermoMode.code : ThermoMode → Nat
  | .off => 0
  | .comfort => 1
  | .frostHold => 2

/-- NO_HEATER, IDLE, RUNNING, WAITING, DENIED, FAULTED (chapter 7). -/
def HeaterState.code : HeaterState → Nat
  | .noHeater => 0
  | .idle => 1
  | .running => 2
  | .waiting => 3
  | .denied _ => 4
  | .faulted => 5

/-- The denial code, present in DENIED (R157). -/
def HeaterState.denial : HeaterState → Option Status
  | .denied c => some c
  | _ => none

/-- None, HELD_ON, HELD_OFF (chapter 7). -/
def Held.code : Held → Nat
  | .none => 0
  | .heldOn => 1
  | .heldOff => 2

/-- OFF, SAFE, WATCH, RISK, DUMPED (chapter 7). -/
def GuardState.code : GuardState → Nat
  | .off => 0
  | .safe => 1
  | .watch => 2
  | .risk => 3
  | .dumped => 4

/-- AWN, STEP (R203). -/
def axisCode : Axis → Nat
  | .awn => 0
  | .step => 1

/-- RETRACTED to FAULT (chapter 8). -/
def AxisState.code : AxisState → Nat
  | .retracted => 0
  | .extending => 1
  | .extended => 2
  | .retracting => 3
  | .stoppedMid => 4
  | .blocked => 5
  | .fault => 6

/-- EXTEND, RETRACT (R165). -/
def Direction.code : Direction → Nat
  | .extend => 0
  | .retract => 1

/-- WAIT, DRIVE, BACKOFF_WAIT, BACKOFF (chapter 8). -/
def Stage.code : Stage → Nat
  | .wait => 0
  | .drive => 1
  | .backoffWait => 2
  | .backoff => 3

/-- HOST, DRIVE_OFF (chapter 8). -/
def Origin.code : Origin → Nat
  | .host => 0
  | .driveOff => 1

/-- The results of R169 in the order of its table, then DROPPED (R166), WRONG_MODE (R169 step 5), and a refusal, whose
code stands in a field of its own (R176; log 16). -/
def MotionResult.code : MotionResult → Nat
  | .reached => 0
  | .target => 1
  | .stopped => 2
  | .reversed => 3
  | .preempted => 4
  | .interlock => 5
  | .blocked => 6
  | .timeout => 7
  | .switchConflict => 8
  | .wrongEnd => 9
  | .noTracking => 10
  | .tripped => 11
  | .cut => 12
  | .dropped => 13
  | .wrongMode => 14
  | .refused _ => 15

/-- The Load Manager's code of a refusal (R176). -/
def MotionResult.refusal : MotionResult → Option Status
  | .refused c => some c
  | _ => none

/-- LOADED, DEFAULTED (R193). -/
def SettingsState.code : SettingsState → Nat
  | .loaded => 0
  | .defaulted => 1

/-- VALID, INVALID, NOT_READ (R193). -/
def SnapshotState.code : SnapshotState → Nat
  | .valid => 0
  | .invalid => 1
  | .notRead => 2

/-- The settings and snapshot states as they stand in replies and notices (R197, R199, R209); no reply or MODE notice is
formed before the start-up load has set them. -/
def Part.progressStates (p : Part) : List Byte :=
  n8 ((p.mdc.settings.map SettingsState.code).getD 0) ++ n8 ((p.mdc.snapshot.map SnapshotState.code).getD 0)

/-! ### Arguments -/

/-- A bank or bus argument: A 0, B 1 (R203). -/
def bankArg (b : Byte) : Option Bank :=
  match b.toNat with
  | 0 => some .A
  | 1 => some .B
  | _ => none

/-- The argument of BANK_ZERO: A, B or BOTH (R6). -/
def zeroArg (b : Byte) : Option Zeroing :=
  match b.toNat with
  | 0 => some ⟨true, false⟩
  | 1 => some ⟨false, true⟩
  | 2 => some ⟨true, true⟩
  | _ => none

/-- A tie argument: SPLIT 0, JOINED 1 (R203). -/
def tieArg (b : Byte) : Option Tie :=
  match b.toNat with
  | 0 => some .split
  | 1 => some .joined
  | _ => none

/-- A switch argument: ON 0, OFF 1, its positions in "ON or OFF" (R70, R94, R120, R134; log 16). -/
def switchArg (b : Byte) : Option Bool :=
  match b.toNat with
  | 0 => some true
  | 1 => some false
  | _ => none

/-- A flag argument: 0 for clear, 1 for set (R202). -/
def flagArg (b : Byte) : Option Bool :=
  match b.toNat with
  | 0 => some false
  | 1 => some true
  | _ => none

/-- A load or channel number from 0 to 19. -/
def loadArg (b : Byte) : Option LoadId := if h : b.toNat < 20 then some ⟨b.toNat, h⟩ else none

/-- A sensor line number from 0 to 5. -/
def lineArg (b : Byte) : Option LineId := if h : b.toNat < 6 then some ⟨b.toNat, h⟩ else none

/-- A light channel number from 0 to 5. -/
def lightArg (b : Byte) : Option LightId := if h : b.toNat < 6 then some ⟨b.toNat, h⟩ else none

/-- One channel, or all of them for the byte 0xFF (R202). -/
def channelsArg (b : Byte) : Option (List LoadId) :=
  if b = 0xFF#8 then some (List.finRange 20) else (loadArg b).map fun c => [c]

/-- One line, or all of them for the byte 0xFF (R202). -/
def linesArg (b : Byte) : Option (List LineId) :=
  if b = 0xFF#8 then some (List.finRange 6) else (lineArg b).map fun s => [s]

/-- A tank argument: FRESH 0, GREY 1 (R203). -/
def tankArg (b : Byte) : Option Tank :=
  match b.toNat with
  | 0 => some .fresh
  | 1 => some .grey
  | _ => none

/-- A thermostat mode (R147, R159). -/
def thermoArg (b : Byte) : Option ThermoMode :=
  match b.toNat with
  | 0 => some .off
  | 1 => some .comfort
  | 2 => some .frostHold
  | _ => none

/-- An axis argument: AWN 0, STEP 1 (R203). -/
def axisArg (b : Byte) : Option Axis :=
  match b.toNat with
  | 0 => some .awn
  | 1 => some .step
  | _ => none

/-- The command of a MOVE (R165). -/
inductive MoveCmd | extend | retract | stop
  deriving DecidableEq, Repr

/-- EXTEND 0, RETRACT 1, STOP 2 (R165). -/
def moveArg (b : Byte) : Option MoveCmd :=
  match b.toNat with
  | 0 => some .extend
  | 1 => some .retract
  | 2 => some .stop
  | _ => none

/-- The modes that MODE_SET takes (R197), by the codes of the mode (log 67). -/
def modeArg (b : Byte) : Option Mode :=
  match b.toNat with
  | 1 => some .active
  | 2 => some .storage
  | 3 => some .service
  | _ => none

/-- Two bytes, least significant first (R203). -/
def wordOf (lo hi : Byte) : Word := hi.setWidth 16 <<< 8 ||| lo.setWidth 16

/-- The values of a WRITE_PARAM; `none` when a byte is left over (R202). -/
def wordsOf : List Byte → Option (List Word)
  | [] => some []
  | [_] => none
  | lo :: hi :: rest => (wordsOf rest).map fun ws => wordOf lo hi :: ws

/-! ### Requests as bytes (R202, R203) -/

/-- The kind-code table (R203). -/
def requestKind : Request → Byte
  | .identify => 0x01
  | .readParam _ _ _ => 0x02
  | .writeParam _ _ _ _ => 0x03
  | .save => 0x04
  | .loadDefaults => 0x05
  | .reset => 0x06
  | .getBank _ => 0x08
  | .bankZero _ => 0x09
  | .getCharge => 0x0A
  | .tieSet _ => 0x0B
  | .getBus _ => 0x10
  | .loadSet _ _ => 0x11
  | .loadGet _ => 0x12
  | .shedList _ => 0x13
  | .outputStatus _ _ => 0x14
  | .spotCheck _ => 0x15
  | .exercise _ _ => 0x16
  | .lineGet _ _ => 0x18
  | .lineControl _ _ => 0x19
  | .tankGet _ => 0x1A
  | .flowGet => 0x1B
  | .water _ => 0x1C
  | .heatSet _ _ => 0x20
  | .climateGet => 0x21
  | .frostDump => 0x22
  | .frostClose => 0x23
  | .move _ _ _ => 0x28
  | .motionGet => 0x29
  | .lightSet _ _ _ => 0x2A
  | .sceneRecall _ _ => 0x2B
  | .sceneStore _ => 0x2C
  | .modeSet _ => 0x30
  | .noticeMask _ => 0x31
  | .malformed k => k

/-- Whether the kind-code table assigns a request kind (R202, R203). -/
def kindAssigned (k : Byte) : Bool :=
  [0x01, 0x02, 0x03, 0x04, 0x05, 0x06, 0x08, 0x09, 0x0A, 0x0B, 0x10, 0x11, 0x12, 0x13, 0x14, 0x15, 0x16, 0x18, 0x19,
    0x1A, 0x1B, 0x1C, 0x20, 0x21, 0x22, 0x23, 0x28, 0x29, 0x2A, 0x2B, 0x2C, 0x30, 0x31].contains k.toNat

/-- The arguments of a kind without arguments. -/
def noArgs (r : Request) (kind : Byte) : List Byte → Request
  | [] => r
  | _ => .malformed kind

/-- The arguments of a kind with one byte. -/
def oneByte (f : Byte → Request) (kind : Byte) : List Byte → Request
  | [a] => f a
  | _ => .malformed kind

/-- The arguments of a kind with two bytes. -/
def twoBytes (f : Byte → Byte → Request) (kind : Byte) : List Byte → Request
  | [a, b] => f a b
  | _ => .malformed kind

/-- The arguments of READ_PARAM: page, start index, count (R205). -/
def readParamArgs (kind : Byte) : List Byte → Request
  | [p, s, c] => .readParam p s c
  | _ => .malformed kind

/-- The arguments of WRITE_PARAM: page, start index, count, values of two bytes (R206); bytes that end before the count or in half a
value are of the wrong length (log 68). -/
def writeParamArgs (kind : Byte) : List Byte → Request
  | p :: s :: c :: vs =>
    match wordsOf vs with
    | some ws => .writeParam p s c ws
    | none => .malformed kind
  | _ => .malformed kind

/-- The arguments of EXERCISE: a channel and a switch, or the byte 0xFF alone for NONE (R202). -/
def exerciseArgs (kind : Byte) : List Byte → Request
  | [c] => if c = 0xFF#8 then .exercise c none else .malformed kind
  | [c, sw] => .exercise c (some sw)
  | _ => .malformed kind

/-- The arguments of HEAT_SET: a mode and a setpoint of two bytes (R147). -/
def heatSetArgs (kind : Byte) : List Byte → Request
  | [m, lo, hi] => .heatSet m (wordOf lo hi)
  | _ => .malformed kind

/-- The arguments of MOVE: axis, command, and the target behind its presence byte (R165, R202), which is 0 or 1 (log 68). -/
def moveArgs (kind : Byte) : List Byte → Request
  | [a, c, present] => if present = 0 then .move a c none else .malformed kind
  | [a, c, present, lo, hi] => if present = 1 then .move a c (some (wordOf lo hi)) else .malformed kind
  | _ => .malformed kind

/-- The arguments of LIGHT_SET: channel, level, fade time (R181). -/
def lightSetArgs (kind : Byte) : List Byte → Request
  | [c, l0, l1, f0, f1] => .lightSet c (wordOf l0 l1) (wordOf f0 f1)
  | _ => .malformed kind

/-- The arguments of SCENE_RECALL: scene, fade time (R183). -/
def sceneRecallArgs (kind : Byte) : List Byte → Request
  | [s, f0, f1] => .sceneRecall s (wordOf f0 f1)
  | _ => .malformed kind

/-- The argument of NOTICE_MASK: a 16-bit mask (R212). -/
def noticeMaskArgs (kind : Byte) : List Byte → Request
  | [lo, hi] => .noticeMask (wordOf lo hi)
  | _ => .malformed kind

/-- The request that a body of an assigned kind spells (R202). -/
def parseRequest (kind : Byte) (args : List Byte) : Request :=
  match kind.toNat with
  | 0x01 => noArgs .identify kind args
  | 0x02 => readParamArgs kind args
  | 0x03 => writeParamArgs kind args
  | 0x04 => noArgs .save kind args
  | 0x05 => noArgs .loadDefaults kind args
  | 0x06 => noArgs .reset kind args
  | 0x08 => oneByte .getBank kind args
  | 0x09 => oneByte .bankZero kind args
  | 0x0A => noArgs .getCharge kind args
  | 0x0B => oneByte .tieSet kind args
  | 0x10 => oneByte .getBus kind args
  | 0x11 => twoBytes .loadSet kind args
  | 0x12 => oneByte .loadGet kind args
  | 0x13 => oneByte .shedList kind args
  | 0x14 => twoBytes .outputStatus kind args
  | 0x15 => oneByte .spotCheck kind args
  | 0x16 => exerciseArgs kind args
  | 0x18 => twoBytes .lineGet kind args
  | 0x19 => twoBytes .lineControl kind args
  | 0x1A => oneByte .tankGet kind args
  | 0x1B => noArgs .flowGet kind args
  | 0x1C => oneByte .water kind args
  | 0x20 => heatSetArgs kind args
  | 0x21 => noArgs .climateGet kind args
  | 0x22 => noArgs .frostDump kind args
  | 0x23 => noArgs .frostClose kind args
  | 0x28 => moveArgs kind args
  | 0x29 => noArgs .motionGet kind args
  | 0x2A => lightSetArgs kind args
  | 0x2B => sceneRecallArgs kind args
  | 0x2C => oneByte .sceneStore kind args
  | 0x30 => oneByte .modeSet kind args
  | 0x31 => noticeMaskArgs kind args
  | _ => .malformed kind

/-- The argument bytes of a request (R202, R203); a malformed one keeps no bytes. -/
def requestArgs : Request → List Byte
  | .identify => []
  | .readParam p s c => [p, s, c]
  | .writeParam p s c vs => [p, s, c] ++ (vs.map fun v => leBytes 2 v.toNat).flatten
  | .save => []
  | .loadDefaults => []
  | .reset => []
  | .getBank a => [a]
  | .bankZero a => [a]
  | .getCharge => []
  | .tieSet a => [a]
  | .getBus a => [a]
  | .loadSet a b => [a, b]
  | .loadGet a => [a]
  | .shedList a => [a]
  | .outputStatus a b => [a, b]
  | .spotCheck a => [a]
  | .exercise c none => [c]
  | .exercise c (some sw) => [c, sw]
  | .lineGet a b => [a, b]
  | .lineControl a b => [a, b]
  | .tankGet a => [a]
  | .flowGet => []
  | .water a => [a]
  | .heatSet m sp => [m] ++ leBytes 2 sp.toNat
  | .climateGet => []
  | .frostDump => []
  | .frostClose => []
  | .move a c none => [a, c, 0]
  | .move a c (some t) => [a, c, 1] ++ leBytes 2 t.toNat
  | .motionGet => []
  | .lightSet c l f => [c] ++ leBytes 2 l.toNat ++ leBytes 2 f.toNat
  | .sceneRecall s f => [s] ++ leBytes 2 f.toNat
  | .sceneStore s => [s]
  | .modeSet m => [m]
  | .noticeMask m => leBytes 2 m.toNat
  | .malformed _ => []

/-- The body of a request frame: KIND, then the arguments (11 "The line and the frame"). -/
def requestBody (r : Request) : List Byte := requestKind r :: requestArgs r

end Sys2Proof.Machine
end

