-- ==== Sys2Proof/Machine/Channels.lean ====
section
/-! DEFINITION. The Output Monitor's own operations: switching a channel, the spot queue, and the arbiter of the converter
(R78 to R83). -/

namespace Sys2Proof.Machine

/-- L18 and L19: the motor channels (chapter 4, Channels). -/
def isMotorChannel (c : LoadId) : Bool := 18 ≤ c.val

/-- L12 to L17: the light channels. -/
def isLightChannel (c : LoadId) : Bool := 12 ≤ c.val && c.val < 18

/-! ### The arbiter (R80) -/

/-- Grant the converter: 1 ms, and 2 ms more of settling when the group changes (R80). -/
def Part.grant (p : Part) (c : LoadId) (src : MeasureSource) (host : Bool) : Part :=
  let left := if p.out.lastGroup = some (groupOf c) then 1 else 3
  let m : Measuring := ⟨c, src, host, (p.chan c).switching == .on, left⟩
  { p with out := { p.out with running := some m } }

/-- The grant of the next sweep channel, unless the sweep holds (R83). -/
def Part.grantSweep (p : Part) : Part :=
  if p.out.sweepHeld then p else p.grant p.out.sweepPos .sweep false

/-- The next grant of a free converter: the tracking slot, the head of the spot queue, the sweep; sweep only while the zero
calibration runs (R80, R86). -/
def Part.arbiter (p : Part) : Part :=
  if p.out.running.isSome then p
  else if p.out.zeroPass.isSome then p.grantSweep
  else
    match p.out.trackingSlot with
    | some c => ({ p with out := { p.out with trackingSlot := none } }).grant c .tracking false
    | none =>
      match p.out.spotQueue with
      | e :: rest => ({ p with out := { p.out with spotQueue := rest } }).grant e.channel .spot e.host
      | [] => p.grantSweep

/-! ### The spot queue (R82) -/

/-- The spot queue after a posting: a join of the channel's entry, the tail, or nothing when 4 are queued (R82). -/
def postSpotEntry (q : List SpotEntry) (c : LoadId) (host check : Bool) : List SpotEntry :=
  if q.any (fun e => e.channel == c) then
    q.map fun e => if e.channel = c then { e with host := e.host || host, check := e.check || check } else e
  else if q.length < 4 then q ++ [⟨c, host, check⟩]
  else q

/-- Post a switch-on check, which no entry is accepted for during the zero calibration (R82, R86); a free converter grants at
once. -/
def Part.postCheck (p : Part) (c : LoadId) : Part :=
  if p.out.zeroPass.isSome then p
  else ({ p with out := { p.out with spotQueue := postSpotEntry p.out.spotQueue c false true } }).arbiter

/-- Post a host's spot check (R82, R96). -/
def Part.postHostSpot (p : Part) (c : LoadId) : Part :=
  ({ p with out := { p.out with spotQueue := postSpotEntry p.out.spotQueue c true false } }).arbiter

/-- Fill the tracking slot, replacing a request in it; none is taken during the zero calibration (R81, R86). -/
def Part.postTracking (p : Part) (c : LoadId) : Part :=
  if p.out.zeroPass.isSome then p
  else ({ p with out := { p.out with trackingSlot := some c } }).arbiter

/-! ### Switching (R78) -/

/-- A change of a channel's switching state; a measurement of it under way was not ON throughout (R84). -/
def Part.setSwitching (p : Part) (c : LoadId) (w : Switching) : Part :=
  let q := p.setChan c { p.chan c with switching := w }
  { q with out := { q.out with
      running := q.out.running.map fun m => if m.channel = c then { m with onThroughout := false } else m } }

/-- What the change from OFF to ON does to the record: a motor channel starts its inrush blank with the counter at 0, and the
driver withdraws a backfeed report (R78, R88, R90). -/
def Channel.switchedOn (c : LoadId) (r : Channel) : Channel :=
  if isMotorChannel c then { r with inrush := some 150, overCount := 0, backfeedStands := false }
  else { r with backfeedStands := false }

/-- An on order (R78): OFF becomes ON and posts a switch-on check; ON is left; TRIPPED is left and reported to the ordering
block as a trip. -/
def Part.orderOn (p : Part) (c : LoadId) : Part :=
  match (p.chan c).switching with
  | .on => p
  | .tripped => p.report (.tripped c)
  | .off =>
    let q := p.setSwitching c .on
    (q.setChan c ((q.chan c).switchedOn c)).postCheck c

/-- An off order (R78): ON becomes OFF with the open counter at 0; OFF and TRIPPED are left. -/
def Part.orderOff (p : Part) (c : LoadId) : Part :=
  match (p.chan c).switching with
  | .on =>
    let q := p.setSwitching c .off
    q.setChan c { q.chan c with openCount := 0 }
  | _ => p

/-- The duty that the Light Unit hands for a light channel (R78, R179). -/
def Part.setDuty (p : Part) (c : LoadId) (duty : Nat) : Part := p.setChan c { p.chan c with duty := duty }

/-- The level below which a measurement of an ON channel counts as open (R89). -/
def Part.openLevel (p : Part) (c : LoadId) : Nat :=
  if isLightChannel c then p.params.openThreshold c * (p.chan c).duty / 1000 else p.params.openThreshold c

/-- Whether the condition of a cause is present on a channel (R93). -/
def Part.outCondition (p : Part) (c : LoadId) : OutCause → Bool
  | .short => (p.chan c).switching == .on
  | .overcurrent => (p.chan c).switching == .on
  | .openLoad =>
    (p.chan c).switching == .on &&
      (match (p.chan c).last with
        | some m => decide (m < p.openLevel c)
        | none => false)
  | .backfeed => (p.chan c).backfeedStands
  | .hot => p.out.groupHot[groupOf c]

/-- The OUTPUT_FAULT notice of a cause just latched (R92). -/
def Part.postOutputFault (p : Part) (c : LoadId) (cause : OutCause) : Part :=
  let r := p.chan c
  p.post .outputFault c.val
    (n8 cause.code ++ n8 r.latched.bits ++ n8 r.switching.code ++
      n8 r.tripCount ++ optField n16 r.last)

/-- A latch-only cause (OPEN, BACKFEED): it joins the latched causes and posts, unless it is latched already (R92). -/
def Part.latchOnly (p : Part) (c : LoadId) (cause : OutCause) : Part :=
  if (p.chan c).latched.has cause then p
  else (p.setChan c { p.chan c with latched := (p.chan c).latched.add cause }).postOutputFault c cause

end Sys2Proof.Machine
end

