-- ==== Sys2Proof/Machine/Lights.lean ====
section
/-! DEFINITION. The Light Unit's own operations: levels, duties and fades (R179, R180), and what LUX does on a report of the Load
Manager for a light load (R182). -/

namespace Sys2Proof.Machine

/-- What the Load Manager reports to the owner of a load (R58). -/
inductive OwnerReport
  | restored
  | shed (cause : ShedCause)
  | off
  | cut
  | faulted
  | cleared
  | exercised
  | released
  deriving DecidableEq, Repr

/-- Whether the channel of a light is selected for exercise, so that LUX's orders do not reach it (R95, R179). -/
def Part.lightExercised (p : Part) (c : LightId) : Bool := p.out.exercise == some (lightLoad c)

/-- The present level moves; the duty is recomputed and handed to the Output Monitor (R179). -/
def Part.setPresent (p : Part) (c : LightId) (level : Nat) : Part :=
  let q := p.setLight c { p.light c with present := level }
  if q.lightExercised c then q else q.setDuty (lightLoad c) (dutyOf level)

/-- LUX's on order (R179). -/
def Part.lightOn (p : Part) (c : LightId) : Part :=
  if p.lightExercised c then p else p.orderOn (lightLoad c)

/-- LUX's off order (R179). -/
def Part.lightOff (p : Part) (c : LightId) : Part :=
  if p.lightExercised c then p else p.orderOff (lightLoad c)

/-- The distance of a fade (R180). -/
def fadeDistance (fadeEnd present : Nat) : Nat := if present ≤ fadeEnd then fadeEnd - present else present - fadeEnd

/-- The end of a fade: the tick stops and the step is absent; a channel that is dark with its fade end at 0 is ordered OFF
(R179, R180). -/
def Part.endFade (p : Part) (c : LightId) : Part :=
  let q := p.setLight c { p.light c with fadeStep := none, tick := none }
  if (q.light c).fadeEnd = 0 then q.lightOff c else q

/-- Start a fade to `fadeEnd` over `time` ms (R180); a fade end above 0 orders the channel ON (R179). -/
def Part.startFade (p : Part) (c : LightId) (fadeEnd time : Nat) : Part :=
  let q := p.setLight c { p.light c with fadeEnd := fadeEnd }
  let q := if 0 < fadeEnd then q.lightOn c else q
  let d := fadeDistance fadeEnd (q.light c).present
  if time = 0 ∨ d = 0 then (q.setPresent c fadeEnd).endFade c
  else q.setLight c { q.light c with fadeStep := some (ceilDiv (d * 10) time), tick := some 10 }

/-- The present level after one fade step toward the fade end, landing on it instead of passing it (R180). -/
def fadeStepped (present fadeEnd step : Nat) : Nat :=
  if present ≤ fadeEnd then min fadeEnd (present + step) else max fadeEnd (present - step)

/-- One expiry of the fade tick; nothing when no fade runs (R180). -/
def Part.fadeTicked (p : Part) (c : LightId) : Part :=
  match (p.light c).tick, (p.light c).fadeStep with
  | some _, some step =>
    let q := p.setPresent c (fadeStepped (p.light c).present (p.light c).fadeEnd step)
    if (q.light c).present = (q.light c).fadeEnd then q.endFade c
    else q.setLight c { q.light c with tick := some 10 }
  | _, _ => p

/-- The light goes dark at once: target and present level 0, the fade and the courtesy timer stopped (R182). -/
def Part.darken (p : Part) (c : LightId) : Part :=
  let q := p.setPresent c 0
  q.setLight c { q.light c with target := 0, fadeEnd := 0, fadeStep := none, tick := none, courtesy := none }

/-- What LUX does on a report of the Load Manager for a light load (R182). -/
def Part.lightReport (p : Part) (c : LightId) : OwnerReport → Part
  | .restored => p.startFade c (p.light c).target 1000
  | .shed _ => p.startFade c 0 1000
  | .off => (p.darken c).lightOff c
  | .cut => p
  | .faulted => p.darken c
  | .cleared => p
  | .exercised => p.darken c
  | .released => p.setDuty (lightLoad c) 0

end Sys2Proof.Machine
end

