-- ==== Sys2Proof/Machine/Owners.lean ====
section
/-! DEFINITION. What the owner of a load does when the Load Manager reports a change that the owner did not request (R58): LUX
(R182), WAT for the pump (R133), CLM for the heater (R146) and CHG for the pad (R36). Reports that make the owner act on the
Load Manager again (motors, the frost valve, a cleared pad) wait in the outbox until LDM has finished (log 6). -/

namespace Sys2Proof.Machine

/-! ### Notices of CHG and CLM -/

/-- The subjects of a CHARGE notice (R41). -/
inductive ChargeSubject | shore | solar | split | coldInhibit | pad | tie
  deriving DecidableEq, Repr

/-- Position of a subject in the table of R41 (R203). -/
def ChargeSubject.code : ChargeSubject → Nat
  | .shore => 0
  | .solar => 1
  | .split => 2
  | .coldInhibit => 3
  | .pad => 4
  | .tie => 5

/-- The causes of R41. -/
inductive ChargeCause
  | mains | noMains | cold | calHold | closed | noDplus | starterLow | unknown | warm | chemistry | request | start
  deriving DecidableEq, Repr

/-- Position of a cause in its subject's row of R41 (R203). -/
def chargeCauseCode : ChargeSubject → ChargeCause → Nat
  | .shore, .mains => 0
  | .shore, .noMains => 1
  | .shore, .cold => 2
  | .shore, .calHold => 3
  | .solar, .cold => 0
  | .solar, .calHold => 1
  | .split, .closed => 0
  | .split, .noDplus => 1
  | .split, .starterLow => 2
  | .split, .cold => 3
  | .split, .calHold => 4
  | .coldInhibit, .cold => 0
  | .coldInhibit, .unknown => 1
  | .coldInhibit, .warm => 2
  | .coldInhibit, .chemistry => 3
  | .tie, .request => 0
  | .tie, .calHold => 1
  | .tie, .start => 2
  | _, _ => 0

/-- The new state of a CHARGE subject: ON 0 and OFF 1, OPEN 0 and CLOSED 1, SET 0 and CLEAR 1 by the record table of
chapter 2, SPLIT and JOINED as page 2 codes them (R203). -/
def Part.chargeState (p : Part) : ChargeSubject → Nat
  | .shore => if p.chg.shoreEnable then 0 else 1
  | .solar => if p.chg.solarEnable then 0 else 1
  | .split => p.chg.splitClosed.toNat
  | .coldInhibit => if p.chg.coldInhibit.isSome then 0 else 1
  | .pad => p.chg.pad.code
  | .tie => p.chg.tieRelay.code

/-- The hold-off flags of a CHARGE subject; none for COLD_INHIBIT, PAD and TIE (R40, R41). -/
def Part.chargeHoldOff (p : Part) : ChargeSubject → List Byte
  | .shore => n8 (flagBits p.shoreHoldOff)
  | .solar => n8 (flagBits p.solarHoldOff)
  | .split => n8 (flagBits p.splitHoldOff)
  | _ => []

/-- Post a CHARGE notice: the new state, the cause, the hold-off flags as they stand (R41). -/
def Part.postCharge (p : Part) (subject : ChargeSubject) (cause : ChargeCause) : Part :=
  p.post .charge subject.code
    (n8 (p.chargeState subject) ++ n8 (chargeCauseCode subject cause) ++ p.chargeHoldOff subject)

/-- Post the CHARGE notice of the pad: the new state once, and the code when REFUSED behind a presence byte (R41; log 51). -/
def Part.postPad (p : Part) : Part :=
  p.post .charge ChargeSubject.pad.code
    (n8 p.chg.pad.code ++ optField (fun c : Status => n8 c.code) p.chg.pad.refusal)

/-- The pad state takes a value; REFUSED loads the retry timer, every other state stops it, and a change posts (R36). -/
def Part.setPad (p : Part) (st : PadState) : Part :=
  let retry := match st with
    | .refused _ => some 10000
    | _ => none
  let q := { p with chg := { p.chg with pad := st, padRetry := retry } }
  if st = p.chg.pad then q else q.postPad

/-- The heater load's promoted mark, which CLM's record shares (R150). -/
def Part.heaterPromoted (p : Part) : Bool :=
  match p.params.loadWith .heater with
  | some l => (p.load l).promoted
  | none => false

/-- Post a HEATER_STATE notice (R158). -/
def Part.postHeater (p : Part) : Part :=
  p.post .heaterState 0
    (n8 p.clm.heater.code ++ optField (fun c : Status => n8 c.code) p.clm.heater.denial ++
      n8 p.params.thermoMode.code ++ optField (leSigned 2) p.clm.cabin ++ twoWay p.clm.heatWanted ++
      twoWay p.heaterPromoted ++ n8 p.clm.held.code)

/-- The heater state takes a value; a change of it or of its denial code posts (R146). -/
def Part.setHeater (p : Part) (h : HeaterState) : Part :=
  let q := { p with clm := { p.clm with heater := h } }
  if h = p.clm.heater then q else q.postHeater

/-- CLM's demand for the heater stands (R146). -/
def HeaterState.standing : HeaterState → Bool
  | .running => true
  | .waiting => true
  | _ => false

/-! ### Reports to the owners -/

/-- The pump record follows a report (R133). -/
def Part.pumpReport (p : Part) : OwnerReport → Part
  | .restored => { p with wat := { p.wat with pump := .running } }
  | .shed _ => { p with wat := { p.wat with pump := .waiting } }
  | .off => { p with wat := { p.wat with pump := .off, request := false } }
  | .faulted => { p with wat := { p.wat with pump := .faulted, request := false } }
  | .cleared => { p with wat := { p.wat with pump := .off } }
  | _ => p

/-- The heater load has become ON: RUNNING, and the minimum on countdown is loaded (R145, R146). -/
def Part.heaterRunning (p : Part) : Part :=
  ({ p with clm := { p.clm with minOn := some 120000 } }).setHeater .running

/-- The minimum off countdown is loaded when CLM's standing demand ends (R145). -/
def Part.heaterEnded (p : Part) : Part :=
  if p.clm.heater.standing then { p with clm := { p.clm with minOff := some 60000 } } else p

/-- The heater record follows a report (R145, R146). -/
def Part.heaterReport (p : Part) : OwnerReport → Part
  | .restored => p.heaterRunning
  | .shed _ => p.setHeater .waiting
  | .off => p.heaterEnded.setHeater .idle
  | .faulted => p.heaterEnded.setHeater .faulted
  | .cleared => p.setHeater .idle
  | _ => p

/-- The pad state follows a report (R36), except in SERVICE, where it is IDLE (R42); the report OFF counts while CHG's demand
stands. -/
def Part.padReport (p : Part) (r : OwnerReport) : Part :=
  if p.mdc.mode = .service then p
  else
    match r with
    | .restored => p.setPad .running
    | .shed _ => p.setPad .waiting
    | .off =>
      match p.chg.pad with
      | .running => p.setPad (.refused .wrongMode)
      | .waiting => p.setPad (.refused .wrongMode)
      | _ => p
    | .faulted => p.setPad .faulted
    | .cleared => p.report .padCleared
    | _ => p

/-- MOT hears of a cut and of a trip once LDM has finished (R173, log 6). -/
def Part.motorReport (p : Part) (a : Axis) : OwnerReport → Part
  | .off => p.report (.motorCut a)
  | .cut => p.report (.motorCut a)
  | .faulted => p.report (.motorFaulted a)
  | _ => p

/-- CLM hears of a trip of the valve load once LDM has finished (R154, log 6). -/
def Part.valveReport (p : Part) : OwnerReport → Part
  | .faulted => p.report .valveFaulted
  | _ => p

/-- The owner of a load (R44). -/
inductive Owner | host | wat | clm | chg | mot | lux
  deriving DecidableEq, Repr

/-- host, WAT, CLM, CHG, MOT, LUX (chapter 3). -/
def Owner.code : Owner → Nat
  | .host => 0
  | .wat => 1
  | .clm => 2
  | .chg => 3
  | .mot => 4
  | .lux => 5

/-- The owner of a load follows from its output and its role (R44). -/
def ownerOf (ps : Pages) (l : LoadId) : Owner :=
  if isLightChannel l then .lux
  else match ps.role l with
    | .general => .host
    | .pump => .wat
    | .heater => .clm
    | .frostValve => .clm
    | .battPad => .chg
    | .stepLight => .lux
    | .motor => .mot

/-- Tell the owner of a load (R58); a host owner hears through LOAD_STATE notices. -/
def Part.tellOwner (p : Part) (l : LoadId) (r : OwnerReport) : Part :=
  match lightOf? l with
  | some c => p.lightReport c r
  | none =>
    match axisOf? l with
    | some a => p.motorReport a r
    | none =>
      match p.params.role l with
      | .pump => p.pumpReport r
      | .heater => p.heaterReport r
      | .frostValve => p.valveReport r
      | .battPad => p.padReport r
      | _ => p

end Sys2Proof.Machine
end

