-- ==== Sys2Proof/Machine/Loads.lean ====
section
/-! DEFINITION. The Load Manager's own operations: classes and draws, buses, shed stacks, admission, shedding and restore (R44 to
R69). -/

namespace Sys2Proof.Machine

/-! ### Classes and draws (R44, R47) -/

/-- The effective class of a load (R44). -/
def Part.effClass (p : Part) (l : LoadId) : Nat :=
  match p.params.role l with
  | .frostValve => 1
  | .motor => (p.load l).motorClass.getD (p.params.loadClass l)
  | .heater => if (p.load l).promoted then 1 else p.params.loadClass l
  | _ => p.params.loadClass l

/-- Sheddable: effective class 2, 3 or 4, and neither a motor nor the frost valve (R44). -/
def Part.sheddable (p : Part) (l : LoadId) : Bool :=
  decide (2 ≤ p.effClass l) && p.params.role l != .motor && p.params.role l != .frostValve

/-- The base draw of a light load at a level: ceil(nominal × duty / 1000), up to the next 10 mA (R47). -/
def lightDraw (nominal level : Nat) : Nat := ceilTen (ceilDiv (nominal * dutyOf level) 1000)

/-- The base draw of a load at a wanted level, which only a light load heeds (R47). -/
def Part.baseDrawAt (p : Part) (l : LoadId) (level : Nat) : Nat :=
  if isLightChannel l then lightDraw (p.params.nominal l) level else p.params.nominal l

/-- The draw a load commits at a wanted level: the larger of the base draw and a present measured draw (R47). -/
def Part.committedAt (p : Part) (l : LoadId) (level : Nat) : Nat :=
  max (p.baseDrawAt l level) ((p.load l).measured.getD 0)

/-- The committed draw of a load (R47). -/
def Part.committed (p : Part) (l : LoadId) : Nat := p.committedAt l (p.load l).wantedLevel

/-! ### Bus values (R48, R50) -/

/-- The limit of a bus record in mA (R48). -/
def busLimitOf (ps : Pages) : BusName → Nat
  | .A => ps.busLimit .A
  | .B => ps.busLimit .B
  | .joined => ps.busLimit .A + ps.busLimit .B

/-- The bank whose floors and cut a bus record takes (R48). -/
def busParamBank : BusName → Bank
  | .B => .B
  | _ => .A

/-- The floor of a class on a bus record; 0 for class 1 (R48). -/
def busFloorOf (ps : Pages) (b : BusName) (cls : Nat) : Nat := ps.busFloor (busParamBank b) cls

/-- The undervoltage cut of a bus record (R48). -/
def busCutOf (ps : Pages) (b : BusName) : Nat := ps.busCut (busParamBank b)

/-- The warning level of a bus record (R48). -/
def busWarnOf (ps : Pages) : BusName → Nat
  | .A => ps.warnLevel .A
  | .B => ps.warnLevel .B
  | .joined => ps.warnLevel .A + ps.warnLevel .B

/-- The committed sum of a bus: the committed draws on its on-list (R47, R50). -/
def Part.committedSum (p : Part) (b : BusName) : Nat := ((p.bus b).onList.map p.committed).sum

/-! ### Notices (R52, R74) -/

/-- The causes of a LOAD_STATE notice (R74). -/
inductive LoadCause
  | admitted | shed (cause : ShedCause) | restored | off | cut | faulted | faultCleared | exercised | released
  | promoted | demoted
  deriving DecidableEq, Repr

/-- The position of a cause in the table of R74 (R203). -/
def LoadCause.code : LoadCause → Nat
  | .admitted => 0
  | .shed c => 1 + c.code
  | .restored => 5
  | .off => 6
  | .cut => 7
  | .faulted => 8
  | .faultCleared => 9
  | .exercised => 10
  | .released => 11
  | .promoted => 12
  | .demoted => 13

/-- Post a LOAD_STATE notice: new state, cause, wanted, committed draw (R74). -/
def Part.postLoad (p : Part) (l : LoadId) (cause : LoadCause) : Part :=
  p.post .loadState l.val
    (n8 (p.load l).state.code ++ n8 cause.code ++ twoWay (p.load l).wanted ++ n16 (p.committed l))

/-- A stack entry in a notice: load, cause, shed time (R51, R52). -/
def encodeShedEntry (e : ShedEntry) : List Byte := n8 e.load.val ++ n8 e.cause.code ++ n32 e.shedAt.toNat

/-- Post a SHED_DEPTH notice: depth, warning level, top entry with a presence byte, undervoltage flag (R49, R52; log 46). -/
def Part.postDepth (p : Part) (b : BusName) : Part :=
  p.post .shedDepth (busNameCode b)
    (n8 (p.bus b).stack.length ++ n8 (busWarnOf p.params b) ++
      optField encodeShedEntry (p.bus b).stack.getLast? ++ twoWay (p.bus b).uvFlag)

/-- The depth mark is judged: set with a notice at or above the warning level, cleared below it (R52). -/
def Part.depthJudge (p : Part) (b : BusName) : Part :=
  let r := p.bus b
  if busWarnOf p.params b ≤ r.stack.length then
    if r.depthMark then p else (p.setBus b { r with depthMark := true }).postDepth b
  else p.setBus b { r with depthMark := false }

/-! ### Lists and stacks (R50, R51) -/

/-- A load leaves an on-list from wherever it stands (R50). -/
def Part.leaveList (p : Part) (b : BusName) (l : LoadId) : Part :=
  p.setBus b { p.bus b with onList := (p.bus b).onList.filter (· != l) }

/-- A load leaves a shed stack, the entries above it moving down (R51); the depth mark is judged (R52). -/
def Part.leaveStack (p : Part) (b : BusName) (l : LoadId) : Part :=
  (p.setBus b { p.bus b with stack := (p.bus b).stack.filter (·.load != l) }).depthJudge b

/-- A load that is ON or SHED leaves the list or the stack on which it stands (R50, R51). -/
def Part.leave (p : Part) (l : LoadId) : Part :=
  match (p.load l).state with
  | .on => p.leaveList (p.busOf l) l
  | .shed => p.leaveStack (p.busOf l) l
  | _ => p

/-- A load's state changes; a motor class is present only while ON. -/
def Part.setLoadState (p : Part) (l : LoadId) (st : LoadState) : Part :=
  p.setLoad l { p.load l with state := st, motorClass := if st = .on then (p.load l).motorClass else none }

/-- The Load Manager's own off order: a light is left to the Light Unit (R54, R78). -/
def Part.ldmOff (p : Part) (l : LoadId) : Part := if isLightChannel l then p else p.orderOff l

/-- The Load Manager's own on order: a light is left to the Light Unit, a motor to the Motion Unit (R56, R78). -/
def Part.ldmOn (p : Part) (l : LoadId) : Part :=
  if isLightChannel l || isMotorChannel l then p else p.orderOn l

/-! ### Shedding (R53, R54, R59 to R62) -/

/-- The victim order: the sheddable loads of the on-list that `ok` admits by effective class, class 4 first, the most recently
admitted first within a class (R53). -/
def Part.victims (p : Part) (b : BusName) (ok : Nat → Bool) : List LoadId :=
  let recent := (p.bus b).onList.reverse.filter fun l => p.sheddable l && ok (p.effClass l)
  let ofClass := fun c => recent.filter fun l => p.effClass l == c
  ofClass 4 ++ ofClass 3 ++ ofClass 2

/-- Shed one load of a bus (R54). -/
def Part.shed (p : Part) (b : BusName) (cause : ShedCause) (l : LoadId) : Part :=
  let q := (p.leaveList b l).setLoadState l .shed
  let q := q.setBus b { q.bus b with stack := (q.bus b).stack ++ [⟨l, cause, q.uptime⟩] }
  let q := (q.ldmOff l).tellOwner l (.shed cause)
  (q.postLoad l (.shed cause)).depthJudge b

/-- Shed loads in the order given (R53). -/
def Part.shedAll (p : Part) (b : BusName) (cause : ShedCause) (ls : List LoadId) : Part :=
  ls.foldl (fun q l => q.shed b cause l) p

/-- Shed loads in the order given until the committed sum is at or below the limit (R59). -/
def Part.shedToFit (p : Part) (b : BusName) : List LoadId → Part
  | [] => p
  | l :: rest =>
    if p.committedSum b ≤ busLimitOf p.params b then p else (p.shed b .overload l).shedToFit b rest

/-- The conditions under which a class-2 motor is cut, with the draw of an admission under way (R62; log 19). -/
def Part.cutCondition (p : Part) (b : BusName) (extra : Nat) : Bool :=
  decide (busLimitOf p.params b < p.committedSum b + extra) ||
    decide ((p.bus b).soc < busFloorOf p.params b 2) || (p.bus b).uvFlag

/-- Cut one motor load: off the on-list, OFF, its output ordered off, MOT told, LOAD_STATE posted (R62). -/
def Part.cutMotor (p : Part) (b : BusName) (l : LoadId) : Part :=
  ((((p.leaveList b l).setLoadState l .off).orderOff l).tellOwner l .cut).postLoad l .cut

/-- The motor cut of a bus (R62). -/
def Part.motorCut (p : Part) (b : BusName) (extra : Nat) : Part :=
  match (p.bus b).onList.find? fun l => (p.load l).motorClass == some 2 with
  | some l => if p.cutCondition b extra then p.cutMotor b l else p
  | none => p

/-- The overload check of a bus (R59). -/
def Part.overloadCheck (p : Part) (b : BusName) : Part :=
  (p.shedToFit b (p.victims b fun _ => true)).motorCut b 0

/-- The charge-floor check of a bus (R60). -/
def Part.floorCheck (p : Part) (b : BusName) : Part :=
  (p.shedAll b .chargeFloor
    (p.victims b fun cls => decide ((p.bus b).soc < busFloorOf p.params b cls))).motorCut b 0

/-- The undervoltage shedding of a bus (R61). -/
def Part.undervoltageShed (p : Part) (b : BusName) : Part :=
  (p.shedAll b .undervoltage (p.victims b fun _ => true)).motorCut b 0

/-- Undervoltage shedding if the flag is set, then the charge-floor check, then the overload check (R66 to R68). -/
def Part.threeChecks (p : Part) (b : BusName) : Part :=
  let q := if (p.bus b).uvFlag then p.undervoltageShed b else p
  (q.floorCheck b).overloadCheck b

/-! ### Admission (R55 to R58) -/

/-- The refusal by mode of a demand at a class (R55). -/
def Part.modeRefusal (p : Part) (l : LoadId) (cls : Nat) : Option Status :=
  match p.mdc.mode with
  | .start => some .starting
  | .active => none
  | .storage => if 3 ≤ cls then some .wrongMode else none
  | .service =>
    match p.params.role l with
    | .motor => none
    | .frostValve => none
    | .heater => if (p.load l).promoted then none else some .wrongMode
    | _ => some .wrongMode

/-- The checks of R55 before charge and room, for a load that is neither ON nor SHED. -/
def Part.demandRefusal (p : Part) (l : LoadId) (cls : Nat) : Option Status :=
  match p.modeRefusal l cls with
  | some e => some e
  | none =>
    match (p.load l).state with
    | .faulted => some .faulted
    | .exercised => some .exerciseActive
    | _ => none

/-- The fewest victims, from the front, whose draws bring `need` to or below the limit; `none` when all do not (R56). -/
def Part.victimsToFit (p : Part) (limit need : Nat) : List LoadId → Option (List LoadId)
  | [] => if need ≤ limit then some [] else none
  | l :: rest =>
    if need ≤ limit then some []
    else (p.victimsToFit limit (need - p.committed l) rest).map (l :: ·)

/-- The charge check of R56. -/
def Part.chargeRefusal (p : Part) (b : BusName) (cls : Nat) : Bool :=
  decide (2 ≤ cls) && (decide ((p.bus b).soc < busFloorOf p.params b cls) || (p.bus b).uvFlag)

/-- The charge and room checks of R56 for a requester's draw, with the shedding that makes room; OK leaves the admission to the
caller. The requester is no victim of its own (R57). -/
def Part.makeRoom (p : Part) (l : LoadId) (cls draw : Nat) : Part × Status :=
  let b := p.busOf l
  if p.chargeRefusal b cls then (p, .lowCharge)
  else
    let victims := (p.victims b fun c => decide (cls < c)).filter (· != l)
    match p.victimsToFit (busLimitOf p.params b) (p.committedSum b + draw) victims with
    | some taken => (p.shedAll b .room taken, .ok)
    | none =>
      if cls = 1 then ((p.shedAll b .room victims).motorCut b draw, .ok) else (p, .noBudget)

/-- A load becomes ON: at the end of its bus's on-list with the present uptime, its output ordered on (R50, R56). -/
def Part.turnOn (p : Part) (l : LoadId) (motorClass : Option Nat) : Part :=
  let b := p.busOf l
  let q := p.setLoad l { p.load l with state := .on, admittedAt := p.uptime, motorClass := motorClass }
  (q.setBus b { q.bus b with onList := (q.bus b).onList ++ [l] }).ldmOn l

/-- An admission with its notice (R56, R74). -/
def Part.admitLoad (p : Part) (l : LoadId) (motorClass : Option Nat) : Part :=
  (p.turnOn l motorClass).postLoad l .admitted

/-- A demand for a load that is no light; a motor demand names the class asked (R55, R56, R58). -/
def Part.demand (p : Part) (l : LoadId) (motorClass : Option Nat) : Part × Status :=
  let cls := motorClass.getD (p.effClass l)
  match p.demandRefusal l cls with
  | some e => (p, e)
  | none =>
    match (p.load l).state with
    | .shed => (p, .shed)
    | .on => (p, .ok)
    | _ =>
      let r := p.makeRoom l cls (p.committed l)
      if r.2 = .ok then (r.1.admitLoad l motorClass, .ok) else r

/-- The wanted level of a light load is written (R57). -/
def Part.setWantedLevel (p : Part) (l : LoadId) (level : Nat) : Part :=
  p.setLoad l { p.load l with wantedLevel := level }

/-- A light demand at a target level above 0 (R57). -/
def Part.lightDemand (p : Part) (c : LightId) (target : Nat) : Part × Status :=
  let l := lightLoad c
  let cls := p.effClass l
  match p.demandRefusal l cls with
  | some e => (p, e)
  | none =>
    match (p.load l).state with
    | .shed => (p.setWantedLevel l target, .shed)
    | .on =>
      if p.baseDrawAt l target ≤ p.baseDrawAt l (p.load l).wantedLevel then (p.setWantedLevel l target, .ok)
      else
        let r := p.makeRoom l cls (p.baseDrawAt l target - p.committed l)
        if r.2 = .ok then (r.1.setWantedLevel l target, .ok) else r
    | _ =>
      let r := p.makeRoom l cls (p.committedAt l target)
      if r.2 = .ok then ((r.1.setWantedLevel l target).admitLoad l none, .ok) else r

/-- A wanted-off (R64); a light keeps its wanted level (log 59). -/
def Part.wantedOff (p : Part) (l : LoadId) : Part :=
  if (p.load l).wanted then (((p.leave l).setLoadState l .off).ldmOff l).postLoad l .off else p

/-! ### Restore (R63) -/

/-- Whether the top entry of a stack is restored at an examination (R63). -/
def Part.restorable (p : Part) (b : BusName) (e : ShedEntry) : Bool :=
  let cls := p.effClass e.load
  decide (30 ≤ (p.uptime - e.shedAt).toNat) &&
    decide (busFloorOf p.params b cls + p.params.restoreHysteresis ≤ (p.bus b).soc) &&
    !(p.bus b).uvFlag && (p.modeRefusal e.load cls).isNone &&
    decide (p.committedSum b + p.committed e.load ≤ busLimitOf p.params b)

/-- The examination of one stack (R63). -/
def Part.restoreTop (p : Part) (b : BusName) : Part :=
  match (p.bus b).stack.getLast? with
  | some e =>
    if p.restorable b e then
      (((p.leaveStack b e.load).turnOn e.load none).tellOwner e.load .restored).postLoad e.load .restored
    else p
  | none => p

/-- A restore examination: the timer is reloaded and the top of each stack examined, bus A's first (R63; log 61). -/
def Part.restoreExam (p : Part) : Part :=
  p.liveBuses.foldl Part.restoreTop { p with ldm := { p.ldm with restoreTimer := 2000 } }

/-! ### Faults, the exercise facility and promotion (R65, R66) -/

/-- A trip reported by the Output Monitor (R65). -/
def Part.loadTrip (p : Part) (l : LoadId) : Part :=
  if (p.load l).state = .faulted then p
  else (((p.leave l).setLoadState l .faulted).tellOwner l .faulted).postLoad l .faulted

/-- A tripped output has returned to OFF (R65). -/
def Part.loadCleared (p : Part) (l : LoadId) : Part :=
  if (p.load l).state = .faulted then
    ((p.setLoadState l .off).tellOwner l .cleared).postLoad l .faultCleared
  else p

/-- An OFF load is selected for exercise (R65). -/
def Part.loadExercised (p : Part) (l : LoadId) : Part :=
  if (p.load l).state = .off then
    ((p.setLoadState l .exercised).tellOwner l .exercised).postLoad l .exercised
  else p

/-- The exercise selection of a load is released (R65, R95). -/
def Part.loadReleased (p : Part) (l : LoadId) : Part :=
  if (p.load l).state = .exercised then
    ((p.setLoadState l .off).tellOwner l .released).postLoad l .released
  else p

/-- A promotion of the heater load (R66): a SHED heater leaves the stack and is admitted as a class-1 requester (log 20). -/
def Part.promoteLoad (p : Part) (l : LoadId) : Part :=
  let q := (p.setLoad l { p.load l with promoted := true }).postLoad l .promoted
  if (q.load l).state = .shed then
    let q := (q.leave l).setLoadState l .off
    (((q.makeRoom l 1 (q.committed l)).1.turnOn l none).tellOwner l .restored).postLoad l .restored
  else q

/-- Whether a demotion takes an ON heater to OFF: in SERVICE, and in STORAGE at configured class 3 or 4 (R66). -/
def Part.demotionEnds (p : Part) (l : LoadId) : Bool :=
  (p.load l).state == .on &&
    (p.mdc.mode == .service || (p.mdc.mode == .storage && decide (3 ≤ p.params.loadClass l)))

/-- A demotion of the heater load: the DEMOTED notice, then the checks of its bus with their notices (R66; log 20). -/
def Part.demoteLoad (p : Part) (l : LoadId) : Part :=
  let q := (p.setLoad l { p.load l with promoted := false }).postLoad l .demoted
  let q :=
    if q.demotionEnds l then
      ((((q.leave l).setLoadState l .off).ldmOff l).tellOwner l .off).postLoad l .off
    else q
  q.threeChecks (q.busOf l)

/-! ### Publications and measurements (R47 to R49) -/

/-- The undervoltage judgement of a publication (R49). -/
def Part.undervoltageJudge (p : Part) (b : BusName) : Part :=
  let r := p.bus b
  match r.voltage with
  | none => p
  | some v =>
    if v < busCutOf p.params b then
      if r.uvFlag || r.belowCut.isSome then p else p.setBus b { r with belowCut := some 10000 }
    else if r.uvFlag && decide (busCutOf p.params b + 400 ≤ v) then
      (p.setBus b { r with belowCut := none, uvFlag := false }).postDepth b
    else p.setBus b { r with belowCut := none }

/-- A publication of a bus's values: the undervoltage judgement, then the charge-floor check (R48). -/
def Part.publish (p : Part) (b : BusName) (soc : Nat) (voltage : Option Nat) : Part :=
  ((p.setBus b { p.bus b with soc := soc, voltage := voltage }).undervoltageJudge b).floorCheck b

/-- The expiry of a running below-cut timer: the flag is set with its SHED_DEPTH notice, then the undervoltage shedding runs (R49;
log 46). -/
def Part.undervoltageExpire (p : Part) (b : BusName) : Part :=
  if (p.bus b).belowCut.isSome then
    ((p.setBus b { p.bus b with belowCut := none, uvFlag := true }).postDepth b).undervoltageShed b
  else p

/-- A measurement report of a load's output (R47); a raised committed draw of an ON load runs the overload check (R59). -/
def Part.measured (p : Part) (l : LoadId) (ma : Nat) : Part :=
  let q := p.setLoad l { p.load l with measured := some ma, fresh := true }
  if (p.load l).state == .on && decide (p.committed l < q.committed l) then q.overloadCheck (q.busOf l) else q

/-- A freshness expiry reported for a load (R47). -/
def Part.measuredStale (p : Part) (l : LoadId) : Part := p.setLoad l { p.load l with fresh := false }

/-! ### Tie changes (R67, R68) -/

/-- Two on-lists merged by admitted time, an A entry before a B entry of the same time (R67 step 1). -/
def Part.mergeLists (p : Part) : List LoadId → List LoadId → List LoadId
  | [], bs => bs
  | a :: as, bs =>
    let older := bs.takeWhile fun b => decide ((p.load b).admittedAt.toNat < (p.load a).admittedAt.toNat)
    older ++ a :: p.mergeLists as (bs.drop older.length)

/-- The loads that steps 4 of a tie change shed or cut on a bus (R67). -/
def Part.tieChecks (p : Part) (b : BusName) : Part × Nat :=
  let q := p.threeChecks b
  (q, (p.bus b).onList.length - (q.bus b).onList.length)

/-- LDM's part of a join (R67), with the joined values just published; the second value counts the loads shed and cut. A joined
flag that it sets posts no SHED_DEPTH notice of its own (log 46). -/
def Part.ldmJoin (p : Part) (soc : Nat) (voltage : Option Nat) : Part × Nat :=
  let a := p.ldm.busA
  let b := p.ldm.busB
  let j : BusRec := ⟨soc, voltage, a.uvFlag || b.uvFlag, none, false, p.mergeLists a.onList b.onList, a.stack ++ b.stack⟩
  let q := { p with ldm := { p.ldm with busA := BusRec.reset, busB := BusRec.reset, busJ := j } }
  let r := q.tieChecks .joined
  (r.1.depthJudge .joined, r.2)

/-- LDM's part of a split (R68), with the new values of A and B. Their records start with a clear depth mark, and the flag that they
take from the joined record posts no SHED_DEPTH (log 46). -/
def Part.ldmSplit (p : Part) (values : Bank → Nat × Option Nat) : Part × Nat :=
  let j := p.ldm.busJ
  let part := fun (b : Bank) => (⟨(values b).1, (values b).2, j.uvFlag, none, false,
    j.onList.filter fun l => p.params.homeBank l == b,
    j.stack.filter fun e => p.params.homeBank e.load == b⟩ : BusRec)
  let q := { p with ldm := { p.ldm with busA := part .A, busB := part .B, busJ := BusRec.reset } }
  let r := q.tieChecks .A
  let t := r.1.tieChecks .B
  ((t.1.depthJudge .A).depthJudge .B, r.2 + t.2)

/-! ### Mode entries (R69) -/

/-- A mode entry takes one load to OFF, from ON or SHED, without a LOAD_STATE notice (R69). -/
def Part.entryOff (p : Part) (l : LoadId) : Part :=
  if (p.load l).wanted then (((p.leave l).setLoadState l .off).ldmOff l).tellOwner l .off else p

/-- LDM's part of a mode entry, by load number (R69; log 61). -/
def Part.ldmModeEntry (p : Part) (m : Mode) : Part :=
  match m with
  | .storage => ((List.finRange 20).filter fun l => decide (3 ≤ p.effClass l)).foldl Part.entryOff p
  | .service => ((List.finRange 20).filter fun l => p.params.role l != .frostValve).foldl Part.entryOff p
  | _ => p

end Sys2Proof.Machine
end

