-- ==== Sys2Proof/Machine/Outputs.lean ====
section
/-! DEFINITION. The Output Monitor's faults, latches and exercise selection (R87 to R95), over the Load Manager. -/

namespace Sys2Proof.Machine

/-! ### Latching (R92) -/

/-- The channel record after a tripping cause: TRIPPED, the cause latched, and, when it was not TRIPPED already, one more trip
and the open counter at 0 (R92). -/
def Channel.tripped (r : Channel) (cause : OutCause) : Channel :=
  if r.switching = .tripped then { r with latched := r.latched.add cause }
  else { r with switching := .tripped, latched := r.latched.add cause, tripCount := min 255 (r.tripCount + 1), openCount := 0 }

/-- A trip of the channel under exercise clears the selection (R92, R95). -/
def Part.endExerciseOf (p : Part) (c : LoadId) : Part :=
  if p.out.exercise = some c then { p with out := { p.out with exercise := none } } else p

/-- A tripping cause (R92): a cause already latched does nothing; a channel that was not TRIPPED is switched off, leaves a
standing exercise, and is reported to the Load Manager; the new latch posts OUTPUT_FAULT. -/
def Part.trip (p : Part) (c : LoadId) (cause : OutCause) : Part :=
  if (p.chan c).latched.has cause then p
  else
    let was := (p.chan c).switching
    let q := (p.setSwitching c .tripped).setChan c ((p.chan c).tripped cause)
    let q := if was = .tripped then q else (q.endExerciseOf c).loadTrip c
    q.postOutputFault c cause

/-- A short reported by the driver, which sees one only on an ON channel (R87). -/
def Part.shortReport (p : Part) (c : LoadId) : Part :=
  if (p.chan c).switching = .on then p.trip c .short else p

/-- A backfeed report, which the driver makes of a channel that is not ON (R90; log 27). -/
def Part.backfeed (p : Part) (c : LoadId) : Part :=
  if (p.chan c).switching = .on then p
  else (p.setChan c { p.chan c with backfeedStands := true }).latchOnly c .backfeed

/-- The withdrawal of a backfeed report (R90). -/
def Part.backfeedOver (p : Part) (c : LoadId) : Part := p.setChan c { p.chan c with backfeedStands := false }

/-- The channels of a group, in channel order (R80). -/
def groupChannels (g : GroupId) : List LoadId := (List.finRange 20).filter fun c => groupOf c == g

/-- A group's temperature warning is raised: every channel of the group trips with cause HOT (R91). -/
def Part.groupHotRaised (p : Part) (g : GroupId) : Part :=
  (groupChannels g).foldl (fun q c => q.trip c .hot)
    { p with out := { p.out with groupHot := p.out.groupHot.set g true } }

/-- A group's temperature warning is withdrawn, which changes no channel (R91). -/
def Part.groupHotOver (p : Part) (g : GroupId) : Part :=
  { p with out := { p.out with groupHot := p.out.groupHot.set g false } }

/-! ### Clearing (R93) -/

/-- The latches that a clear leaves on a channel: those whose condition is present (R93). -/
def Part.keptLatches (p : Part) (c : LoadId) : OutLatches :=
  let x := (p.chan c).latched
  ⟨x.short && p.outCondition c .short, x.overcurrent && p.outCondition c .overcurrent,
    x.openLoad && p.outCondition c .openLoad, x.backfeed && p.outCondition c .backfeed,
    x.hot && p.outCondition c .hot⟩

/-- A clear of one channel (R93): removed OVERCURRENT and OPEN latches zero their counters; a TRIPPED channel with no cause left
becomes OFF and is reported to the Load Manager. -/
def Part.clearChannel (p : Part) (c : LoadId) : Part :=
  let r := p.chan c
  let kept := p.keptLatches c
  let q := p.setChan c { r with
    latched := kept
    overCount := if r.latched.overcurrent && !kept.overcurrent then 0 else r.overCount
    openCount := if r.latched.openLoad && !kept.openLoad then 0 else r.openCount }
  if r.switching = .tripped ∧ kept.isEmpty then (q.setSwitching c .off).loadCleared c else q

/-! ### Exercise (R94, R95) -/

/-- The checks of a selecting EXERCISE after its arguments and the mode (R94). -/
def Part.exerciseRefusal (p : Part) (c : LoadId) : Option Status :=
  if p.params.role c = .frostValve ∨ isMotorChannel c then some .owned
  else if p.out.exercise.any (· != c) then some .exerciseActive
  else if (p.chan c).switching = .tripped then some .faulted
  else if (p.load c).wanted then some .loadActive
  else none

/-- The selected channel is switched as the argument says (R94). -/
def Part.exerciseSwitch (p : Part) (c : LoadId) (on : Bool) : Part := if on then p.orderOn c else p.orderOff c

/-- An accepted selection (R94): the load becomes EXERCISED, a light is driven at 1000 ‰, and the channel is switched; for the
channel already selected only the switching. -/
def Part.exerciseSelect (p : Part) (c : LoadId) (on : Bool) : Part :=
  if p.out.exercise = some c then p.exerciseSwitch c on
  else
    let q := ({ p with out := { p.out with exercise := some c } }).loadExercised c
    let q := if isLightChannel c then q.setDuty c 1000 else q
    q.exerciseSwitch c on

/-- EXERCISE NONE: the selected channel off, the selection cleared, the release reported (R95). -/
def Part.exerciseRelease (p : Part) : Part :=
  match p.out.exercise with
  | none => p
  | some c =>
    let q := p.orderOff c
    ({ q with out := { q.out with exercise := none } }).loadReleased c

/-! ### Timers of the channels (R83, R85, R88) -/

/-- The expiry of a running freshness countdown (R85). -/
def Part.channelStale (p : Part) (c : LoadId) : Part :=
  if (p.chan c).freshTimer.isSome then
    (p.setChan c { p.chan c with fresh := false, freshTimer := none }).measuredStale c
  else p

/-- The expiry of the running pass timer releases a sweep held at position 0 (R83). -/
def Part.passExpiry (p : Part) : Part :=
  if p.out.passTimer.isSome then
    ({ p with out := { p.out with passTimer := some 1000, sweepHeld := false } }).arbiter
  else p

/-- The expiry of a motor channel's inrush blank (R78, R88). -/
def Part.channelInrushOver (p : Part) (a : Axis) : Part :=
  p.setChan (motorOf a) { p.chan (motorOf a) with inrush := none }

/-- OUT's part of a mode change (R83): entering STORAGE starts the pass timer, leaving it stops the timer and frees a held
sweep. -/
def Part.outModeEntry (p : Part) (m : Mode) : Part :=
  if m = .storage then { p with out := { p.out with passTimer := some 1000 } }
  else ({ p with out := { p.out with passTimer := none, sweepHeld := false } }).arbiter

end Sys2Proof.Machine
end

