-- ==== Sys2Proof/Machine/Motion.lean ====
section
/-! DEFINITION. The Motion Unit's own operations: the switches, drives and their endings, the taking of a MOVE, supervision and
the drive-off (R162 to R174). -/

namespace Sys2Proof.Machine

/-! ### Axis states and positions (R162, R163) -/

/-- An axis takes a state; each entry of the step into EXTENDED is handed to LUX (R185; log 21). -/
def Part.setAxisState (p : Part) (a : Axis) (st : AxisState) : Part :=
  let q := p.setAxis a { p.axis a with state := st }
  if a = .step ∧ st = .extended ∧ (p.axis a).state ≠ .extended then q.report .stepExtended else q

/-- The state of an idle axis as its switches stand (R162, R178). -/
def Part.restState (p : Part) (a : Axis) : AxisState :=
  match p.inSwitch a, p.outSwitch a with
  | true, true => .fault
  | true, false => .retracted
  | false, true => .extended
  | false, false => .stoppedMid

/-- The awning position is written; the step has none (R163). -/
def Part.setPosition (p : Part) (a : Axis) (pos : Option Nat) : Part :=
  match a with
  | .awn => p.setAxis .awn { p.axis .awn with position := pos }
  | .step => p

/-- A drive of the motion runs (R164). -/
def Motion.driving (m : Motion) : Bool := m.stage == .drive || m.stage == .backoff

/-- The active motion stands between a stall and its back-off, which halts its timeout (R172; log 24). -/
def Mot.waitsBackoff (m : Mot) : Bool := m.active.any (·.stage == .backoffWait)

/-- The drive of the motion leads outward: an extension, or a back-off (R163, R171). -/
def Motion.outward (m : Motion) : Bool := m.dir == .extend || m.stage == .backoff

/-- The position estimate of a drive: the base plus or less floor(driven time × 1000 / travel time), in [0, 1000] (R163). -/
def Motion.estimate (m : Motion) : Option Nat :=
  m.basePos.map fun base =>
    let moved := m.drivenMs * 1000 / m.travelMs
    if m.outward then min 1000 (base + moved) else base - moved

/-- The position of the awning is formed from its drive; without a base it stays absent (R163). -/
def Part.formPosition (p : Part) (m : Motion) : Part :=
  match m.estimate with
  | some pos => p.setPosition m.axis (some pos)
  | none => p

/-- The end switch that a direction leads to (R168). -/
def Part.endSwitch (p : Part) (a : Axis) : Direction → Bool
  | .extend => p.outSwitch a
  | .retract => p.inSwitch a

/-- The interlock of an outward step: D+ active or the handbrake released (R165, R168). -/
def Part.stepLocked (p : Part) : Bool := p.dplus || !p.handbrake

/-- The interlock of R165 for an axis and a direction. -/
def Part.interlocked (p : Part) (a : Axis) (d : Direction) : Bool :=
  match a, d with
  | .step, .extend => p.stepLocked
  | .awn, .extend => p.dplus
  | _, .retract => false

/-- The motor class of a motion: 1 for a STEP RETRACT, 2 for every other (R165). -/
def motionClass : Axis → Direction → Nat
  | .step, .retract => 1
  | _, _ => 2

/-- The state of an axis that holds the active slot (R162). -/
def movingState : Direction → AxisState
  | .extend => .extending
  | .retract => .retracting

/-! ### Notices (R176) -/

/-- Post a MOTION notice: result, state, position, last current, and the code of a refusal behind a presence byte (R176; log 66). -/
def Part.postMotion (p : Part) (a : Axis) (r : MotionResult) : Part :=
  let x := p.axis a
  p.post .motion (axisCode a)
    (n8 r.code ++ n8 x.state.code ++ optField n16 x.position ++ optField n16 x.lastCurrent ++
      optField (fun c : Status => n8 c.code) r.refusal)

/-! ### Stops and endings (R169) -/

/-- Step 1 of R169: the channel ordered off, the bridge to brake, the drive timers stopped, the dead time at 200 ms, the position
formed for the last time. The timeout is left to the caller, since a stall only halts it (R172). -/
def Part.stopDrive (p : Part) (m : Motion) : Part :=
  let q := (p.formPosition m).orderOff (motorOf m.axis)
  { q with mot := { q.mot with bridge := .brake, tick := none, inrush := none, watch := none, backoff := none, dead := some 200 } }

/-- The state that an ending gives its axis (R169); TARGET gives STOPPED_MID whatever the switches are (log 72). -/
def Part.endState (p : Part) (m : Motion) (r : MotionResult) : AxisState :=
  match r with
  | .reached =>
    match m.dir with
    | .extend => .extended
    | .retract => .retracted
  | .blocked => .blocked
  | .target => .stoppedMid
  | .timeout => .fault
  | .switchConflict => .fault
  | .wrongEnd => .fault
  | .noTracking => .fault
  | .tripped => .fault
  | .interlock => m.before
  | .preempted =>
    match m.stage with
    | .backoffWait => .blocked
    | .backoff => .blocked
    | _ => p.restState m.axis
  | _ => p.restState m.axis

/-- Steps 1 to 4 of an ending with a result in a state (R169). -/
def Part.endAs (p : Part) (m : Motion) (r : MotionResult) (st : AxisState) : Part :=
  let q := if m.driving then p.stopDrive m else p
  let q := { q with mot := { q.mot with active := none, timeout := none } }
  let q := (q.setAxisState m.axis st).wantedOff (motorOf m.axis)
  let q := q.setAxis m.axis { q.axis m.axis with lastResult := some r }
  q.postMotion m.axis r

/-- Steps 1 to 4 of an ending (R169). -/
def Part.endCore (p : Part) (m : Motion) (r : MotionResult) : Part := p.endAs m r (p.endState m r)

/-- The MOTION notice of an axis that ended a motion earlier in the event is formed again in its place if the axis holds the
active slot again, so that it carries the state after the event (R176; log 52). -/
def Part.restated (p : Part) (a : Axis) : Part :=
  match (p.axis a).lastResult with
  | some r => if p.mot.active.any (·.axis == a) then p.postMotion a r else p
  | none => p

/-- The axis that held the active slot before and does not hold it after: its motion has ended in between (R169). -/
def Part.endedSince (before after : Part) : Option Axis :=
  match before.mot.active with
  | some m => if after.mot.active.any (·.axis == m.axis) then none else some m.axis
  | none => none

/-- The notice of an axis that may have ended a motion earlier in the event (R176). -/
def Part.restatedOf (p : Part) : Option Axis → Part
  | some a => p.restated a
  | none => p

/-! ### Starting (R165, R168, R171) -/

/-- The drive timers and the bridge at the start of a drive or a back-off (R168, R171). -/
def Part.startBridge (p : Part) (m : Motion) (b : Bridge) : Part :=
  let q := { p with mot := { p.mot with
    active := some m, bridge := b, tick := some 10, inrush := some 150, watch := some 50 } }
  q.orderOn (motorOf m.axis)

/-- The start of a drive, without step 5 of an ending it may make (R168). -/
def Part.startCore (p : Part) (m : Motion) : Part :=
  if p.endSwitch m.axis m.dir then p.endCore m .reached
  else if m.axis = .step ∧ m.dir = .extend ∧ p.stepLocked then p.endCore m .interlock
  else
    let driven : Motion := { m with
      stage := .drive, basePos := (p.axis m.axis).position, drivenMs := 0, travelMs := p.params.travelMs }
    let q := p.startBridge driven (if m.dir = .extend then .outward else .inward)
    let q := { q with mot := { q.mot with timeout := some (q.params.axisTimeoutMs m.axis) } }
    q.setAxis m.axis { q.axis m.axis with stall := 0 }

/-- A motion in stage WAIT starts its drive if the dead time is stopped (R168). -/
def Part.startWaiting (p : Part) : Part :=
  match p.mot.active with
  | some m => if m.stage = .wait ∧ p.mot.dead.isNone then p.startCore m else p
  | none => p

/-- The demand of a motion and, on OK, its entry into the active slot (R165). A target without a position is lost. -/
def Part.demandMotion (p : Part) (a : Axis) (d : Direction) (target : Option Nat) : Part × Status :=
  let cls := motionClass a d
  let r := p.demand (motorOf a) (some cls)
  if r.2 = .ok then
    let x := r.1.axis a
    let m : Motion := ⟨a, d, if x.position.isSome then target else none, cls, .wait, x.state, none, 0, 1⟩
    let q := { r.1 with mot := { r.1.mot with active := some m } }
    ((q.setAxisState a (movingState d)).startWaiting, .ok)
  else r

/-- The refusal of a pending request at its taking: interlock, mode (R169 step 5; log 25). -/
def Part.pendingRefusal (p : Part) (x : PendingMove) : Option MotionResult :=
  if p.mdc.mode = .storage then some .wrongMode
  else if p.interlocked x.axis x.dir then some .interlock
  else if p.inSwitch x.axis ∧ p.outSwitch x.axis then some (.refused .faulted)
  else none

/-- Step 5 of an ending: with the active slot empty, the pending request is taken (R169). -/
def Part.takePending (p : Part) : Part :=
  match p.mot.active, p.mot.pend with
  | none, some x =>
    let q := { p with mot := { p.mot with pend := none } }
    match q.pendingRefusal x with
    | some r => q.postMotion x.axis r
    | none =>
      let r := q.demandMotion x.axis x.dir x.target
      if r.2 = .ok then r.1 else r.1.postMotion x.axis (.refused r.2)
  | _, _ => p

/-- Step 5 of an ending of an axis, whose own pending request is taken too (R169, R176). -/
def Part.stepFive (p : Part) (a : Axis) : Part := p.takePending.restated a

/-- An ending with its step 5 (R169). -/
def Part.endMotion (p : Part) (m : Motion) (r : MotionResult) : Part := (p.endCore m r).stepFive m.axis

/-- The start of a back-off drive (R171), whatever switch has become active in BACKOFF_WAIT (R172; log 54). -/
def Part.startBackoff (p : Part) (m : Motion) : Part :=
  if m.axis = .step ∧ p.stepLocked then p.endMotion m .blocked
  else
    let driven : Motion := { m with
      stage := .backoff, basePos := (p.axis m.axis).position, drivenMs := 0, travelMs := p.params.travelMs }
    let q := p.startBridge driven .outward
    { q with mot := { q.mot with backoff := some 300 } }

/-! ### Taking a MOVE (R165 to R167) -/

/-- The refusals of a MOVE after its arguments (R165). -/
def Part.moveRefusal (p : Part) (a : Axis) : Option Direction → Option Status
  | none =>
    match p.mdc.mode with
    | .start => some .starting
    | .storage => some .wrongMode
    | _ => none
  | some d =>
    match p.mdc.mode with
    | .start => some .starting
    | .storage => some .wrongMode
    | _ =>
      if p.interlocked a d then some .interlock
      else if p.inSwitch a ∧ p.outSwitch a then some .faulted
      else none

/-- A MOVE that starts nothing on an idle bridge (R165, R166). -/
def Part.nothingToStart (p : Part) (a : Axis) (d : Direction) (target : Option Nat) : Bool :=
  let x := p.axis a
  match d with
  | .retract => x.state == .retracted
  | .extend =>
    x.state == .extended ||
      (match target, x.position with
        | some t, some pos => decide (t ≤ pos)
        | _, _ => false)

/-- A MOVE taken as on an idle bridge (R165). -/
def Part.idleMove (p : Part) (a : Axis) (d : Direction) (target : Option Nat) : Part × Status :=
  if p.nothingToStart a d target then (p, .ok) else p.demandMotion a d target

/-- A request is placed in the pending slot; the request it replaces is dropped with a notice (R166). -/
def Part.placePending (p : Part) (x : PendingMove) : Part :=
  let q := { p with mot := { p.mot with pend := some x } }
  match p.mot.pend with
  | some old => q.postMotion old.axis .dropped
  | none => q

/-- A MOVE STOP removes a pending request of its axis (R165, R166). -/
def Part.dropPendingOf (p : Part) (a : Axis) : Part :=
  if p.mot.pend.any (·.axis == a) then { p with mot := { p.mot with pend := none } } else p

/-- A MOVE for the axis that does not hold the active slot (R166); one that starts nothing leaves a pending target (log 35). -/
def Part.pendingMove (p : Part) (a : Axis) (d : Direction) (target : Option Nat) : Part :=
  if p.nothingToStart a d target then p
  else
    match p.mot.pend with
    | some x =>
      if x.axis = a ∧ x.dir = d then { p with mot := { p.mot with pend := some { x with target := target } } }
      else p.placePending ⟨a, d, target, .host⟩
    | none => p.placePending ⟨a, d, target, .host⟩

/-- An awning target is met on the estimate; only the switch ends an extension without a target below 1000 (R169; log 35). -/
def targetMet (t pos : Nat) : Bool := decide (t ≤ pos) && decide (t < 1000)

/-- A same-direction MOVE in stage WAIT or DRIVE (R167; log 35). -/
def Part.retarget (p : Part) (m : Motion) (target : Option Nat) : Part :=
  match target with
  | none => p
  | some t =>
    let m' : Motion := { m with target := some t }
    let q := { p with mot := { p.mot with active := some m' } }
    match (q.axis m.axis).position with
    | some pos => if targetMet t pos then q.endMotion m' .target else q
    | none => q

/-- The active motion ends with a result and a new request for its axis is taken as on an idle bridge, then step 5 of the ending
(R167, R176). -/
def Part.endAndMove (p : Part) (m : Motion) (r : MotionResult) (d : Direction) (target : Option Nat) : Part × Status :=
  let x := (p.endCore m r).idleMove m.axis d target
  (x.1.stepFive m.axis, x.2)

/-- A MOVE EXTEND or RETRACT for the axis that holds the active slot (R167). -/
def Part.activeMove (p : Part) (m : Motion) (d : Direction) (target : Option Nat) : Part × Status :=
  if m.stage = .backoffWait ∨ m.stage = .backoff then p.endAndMove m .blocked d target
  else if m.dir = d then (p.retarget m target, .ok)
  else p.endAndMove m .reversed d target

/-- A MOVE EXTEND or RETRACT that passed the checks (R165 to R167). -/
def Part.moveAxis (p : Part) (a : Axis) (d : Direction) (target : Option Nat) : Part × Status :=
  match p.mot.active with
  | none => p.idleMove a d target
  | some m => if m.axis = a then p.activeMove m d target else (p.pendingMove a d target, .ok)

/-- A MOVE STOP that passed the checks (R165 to R167). -/
def Part.stopAxis (p : Part) (a : Axis) : Part :=
  match p.mot.active with
  | none => p.dropPendingOf a
  | some m =>
    if m.axis = a then
      p.endMotion m (if m.stage = .backoffWait ∨ m.stage = .backoff then .blocked else .stopped)
    else p.dropPendingOf a

/-! ### Supervision (R168, R170 to R173) -/

/-- An expiry of the running tick (R168, R163): the tick reloads, a tracking request is posted, the awning's driven time and
position advance, and an awning target is met. -/
def Part.driveTicked (p : Part) : Part :=
  match p.mot.tick, p.mot.active with
  | some _, some m =>
    let m' : Motion := if m.axis = .awn then { m with drivenMs := m.drivenMs + 10 } else m
    let q := { p with mot := { p.mot with tick := some 10, active := some m' } }
    let q := (q.postTracking (motorOf m.axis)).formPosition m'
    match m'.target, (q.axis m.axis).position with
    | some t, some pos => if m'.stage = .drive ∧ targetMet t pos then q.endMotion m' .target else q
    | _, _ => q
  | _, _ => p

/-- A stall (R171): an extension and an unparked retraction end BLOCKED; a parked retraction stops for a back-off. -/
def Part.stalled (p : Part) (m : Motion) : Part :=
  if m.dir = .retract ∧ p.parked then
    let q := p.stopDrive m
    { q with mot := { q.mot with active := some { m with stage := .backoffWait } } }
  else p.endMotion m .blocked

/-- The stall counter after a tracking result (R170). -/
def stallCount (count : Nat) (blank : Bool) (ma threshold : Nat) : Nat :=
  if blank then 0 else if threshold < ma then count + 1 else count - 1

/-- A tracking result for the axis that drives (R170; log 24). -/
def Part.trackingResult (p : Part) (m : Motion) (ma : Nat) : Part :=
  if m.driving then
    let q := { p with mot := { p.mot with watch := some 50 } }
    if m.stage = .drive then
      let x := q.axis m.axis
      let count := stallCount x.stall q.mot.inrush.isSome ma (q.params.stallThreshold m.axis)
      let q := q.setAxis m.axis { x with stall := count }
      if 3 ≤ count then q.stalled m else q
    else q
  else p

/-- A measurement of a motor channel reaches MOT, marked as tracking or not (R170). -/
def Part.motorMeasured (p : Part) (a : Axis) (ma : Nat) (tracking : Bool) : Part :=
  let q := p.setAxis a { p.axis a with lastCurrent := some ma }
  match q.mot.active with
  | some m => if m.axis = a ∧ tracking then q.trackingResult m ma else q
  | none => q

/-- The expiry of the running dead time (R164). -/
def Part.deadTimeOver (p : Part) : Part :=
  if p.mot.dead.isSome then
    let q := { p with mot := { p.mot with dead := none } }
    match q.mot.active with
    | some m =>
      match m.stage with
      | .wait =>
        let r := q.startCore m
        if r.mot.active.isNone then r.stepFive m.axis else r
      | .backoffWait => q.startBackoff m
      | _ => q
    | none => q
  else p

/-- The expiry of a running timer of the active motion ends it with a result (R171, R172). -/
def Part.motionTimerOver (p : Part) (running : Bool) (r : MotionResult) : Part :=
  match p.mot.active with
  | some m => if running ∧ m.driving then p.endMotion m r else p
  | none => p

/-- The expiry of the running back-off countdown: BLOCKED, in state EXTENDED if OUT has become active meanwhile, which the model
takes from OUT as it stands at the expiry (R171; log 54). -/
def Part.backoffOver (p : Part) : Part :=
  match p.mot.active with
  | some m =>
    if p.mot.backoff.isSome ∧ m.driving then
      (p.endAs m .blocked (if p.outSwitch m.axis then .extended else .blocked)).stepFive m.axis
    else p
  | none => p

/-- A report of the Load Manager for a motor load ends the motion of its axis (R173). -/
def Part.motorReported (p : Part) (a : Axis) (r : MotionResult) : Part :=
  match p.mot.active with
  | some m => if m.axis = a then p.endMotion m r else p
  | none => p

/-! ### Switch events (R162, R172) -/

/-- The awning's position where a switch has just become active: 0 at IN, 1000 at OUT; a drive's estimate runs on from there
(R163; with both switches active the model does not form it, log 76). -/
def Part.positionAtSwitch (p : Part) (a : Axis) (pos : Nat) : Part :=
  let q := p.setPosition a (some pos)
  match q.mot.active with
  | some m =>
    if m.axis = a then { q with mot := { q.mot with active := some { m with basePos := some pos, drivenMs := 0 } } } else q
  | none => q

/-- A switch event of the axis that holds the active slot; `isOut` names the switch, `on` its new state (R172). DESIGN CHOICE: a
second switch that becomes active gives the awning neither 0 nor 1000; the conflict leaves it the last estimate of the drive, or its
position where no drive runs (R163; log 76). -/
def Part.activeSwitch (p : Part) (m : Motion) (isOut on : Bool) : Part :=
  if p.inSwitch m.axis ∧ p.outSwitch m.axis then p.endMotion m .switchConflict
  else if on then
    let q := p.positionAtSwitch m.axis (if isOut then 1000 else 0)
    let m' := q.mot.active.getD m
    match m.stage with
    | .drive =>
      if isOut = (m.dir == .extend) then q.endMotion m' .reached else q.endMotion m' .wrongEnd
    | .backoff => if isOut then q else q.endMotion m' .wrongEnd
    | _ => q
  else p

/-- The position of an idle awning as its switches stand, 0 or 1000 at the one that is active (R162, R163; log 64). -/
def Part.restPosition (p : Part) (a : Axis) : Option Nat :=
  match p.inSwitch a, p.outSwitch a with
  | true, false => some 0
  | false, true => some 1000
  | true, true => (p.axis a).position
  | false, false => none

/-- A switch event of an idle axis (R162). DESIGN CHOICE: with both switches active the awning keeps its position, as the conflict
row of R162 names none (log 76). -/
def Part.idleSwitch (p : Part) (a : Axis) : Part :=
  if p.inSwitch a ∧ p.outSwitch a then
    let was := (p.axis a).state
    let q := p.setAxis a { p.axis a with state := .fault, lastResult := some .switchConflict }
    if was = .fault then q else q.postMotion a .switchConflict
  else
    let q := p.setPosition a (p.restPosition a)
    match (p.axis a).state with
    | .blocked => q
    | .fault => q
    | _ => q.setAxisState a (q.restState a)

/-- A change of a debounced end switch (R162, R172). -/
def Part.switchEvent (p : Part) (a : Axis) (isOut on : Bool) : Part :=
  match p.mot.active with
  | some m => if m.axis = a then p.activeSwitch m isOut on else p.idleSwitch a
  | none => p.idleSwitch a

/-! ### Drive-off (R174) -/

/-- The event behind a drive-off: the subject of its DRIVE_WARNING (R176). -/
inductive DriveOffCause | dplus | handbrake
  deriving DecidableEq, Repr

/-- DPLUS, HANDBRAKE (R176). -/
def DriveOffCause.code : DriveOffCause → Nat
  | .dplus => 0
  | .handbrake => 1

/-- A demand of the drive-off, refused with FAULTED while both switches are active; a refusal posts MOTION (R174). -/
def Part.driveOffDemand (p : Part) (a : Axis) : Part × Option Status :=
  if p.inSwitch a ∧ p.outSwitch a then (p.postMotion a (.refused .faulted), some .faulted)
  else
    let r := p.demandMotion a .retract none
    (if r.2 = .ok then r.1 else r.1.postMotion a (.refused r.2), some r.2)

/-- A retraction of the axis in WAIT or DRIVE, which a drive-off leaves to run (R174). -/
def Motion.retracting (m : Motion) : Bool := m.dir == .retract && (m.stage == .wait || m.stage == .drive)

/-- Step 1 of R174: the step takes the active slot. -/
def Part.driveOffStep (p : Part) : Part × Option Status :=
  if (p.axis .step).state = .retracted then (p, none)
  else
    match p.mot.active with
    | some m =>
      if m.axis = .step ∧ m.retracting then (p, none)
      else
        let r := (p.endCore m .preempted).driveOffDemand .step
        (r.1.restated m.axis, r.2)
    | none => p.driveOffDemand .step

/-- Whether the pending slot holds an AWN RETRACT (R174). -/
def Part.pendingAwnRetract (p : Part) : Bool := p.mot.pend.any fun x => x.axis == .awn && x.dir == .retract

/-- Step 2 of R174: the awning's retraction is arranged. -/
def Part.driveOffAwning (p : Part) : Part × Option Status :=
  if (p.axis .awn).state = .retracted then (p, none)
  else
    match p.mot.active with
    | some m =>
      if m.axis = .step then
        (if p.pendingAwnRetract then p else p.placePending ⟨.awn, .retract, none, .driveOff⟩, none)
      else if m.retracting then (p, none)
      else
        let r := (p.endCore m .preempted).driveOffDemand .awn
        (r.1.restated m.axis, r.2)
    | none => p.driveOffDemand .awn

/-- The active slot in a reply or notice: axis, direction, target, motor class, stage (R175). -/
def encodeActive (m : Motion) : List Byte :=
  n8 (axisCode m.axis) ++ n8 m.dir.code ++ optField n16 m.target ++ n8 m.motorClass ++ n8 m.stage.code

/-- The pending slot in a reply or notice: axis, direction, target, origin (R175). -/
def encodePending (x : PendingMove) : List Byte :=
  n8 (axisCode x.axis) ++ n8 x.dir.code ++ optField n16 x.target ++ n8 x.origin.code

/-- Post a DRIVE_WARNING: the states, the slots, and the answers of the demands made, the step's and the awning's, each optional
(R176; log 66). -/
def Part.postDriveWarning (p : Part) (cause : DriveOffCause) (step awn : Option Status) : Part :=
  p.post .driveWarning cause.code
    (n8 (p.axis .awn).state.code ++ n8 (p.axis .step).state.code ++ optField encodeActive p.mot.active ++
      optField encodePending p.mot.pend ++ optField (fun c : Status => n8 c.code) step ++
      optField (fun c : Status => n8 c.code) awn)

/-- A drive-off (R174). A motion that step 1 ended may start anew in step 2 or from the pending slot (R176). -/
def Part.driveOff (p : Part) (cause : DriveOffCause) : Part :=
  if (p.axis .awn).state = .retracted ∧ (p.axis .step).state = .retracted then p
  else
    let s := p.driveOffStep
    let a := s.1.driveOffAwning
    ((a.1.takePending).restatedOf (p.endedSince s.1)).postDriveWarning cause s.2 a.2

/-! ### Modes (R178) -/

/-- MOT's part of a mode change: the end of START applies the drive-off rule once; STORAGE and SERVICE drop the pending request
with WRONG_MODE (R178). DESIGN CHOICE: a START that ends in STORAGE has the drive-off only, and the AWN RETRACT that it places stays
pending: the drop is taken as done before it, on a slot that START has left empty (log 75). -/
def Part.motModeEntry (p : Part) (before after : Mode) : Part :=
  if before = .start then
    if p.parked then p else p.driveOff (if p.dplus then .dplus else .handbrake)
  else if after = .storage ∨ after = .service then
    match p.mot.pend with
    | some x => ({ p with mot := { p.mot with pend := none } }).postMotion x.axis .wrongMode
    | none => p
  else p

end Sys2Proof.Machine
end

