-- ==== Sys2Proof/Machine/Charge.lean ====
section
/-! DEFINITION. Charge Control's own operations: the enables and the split relay, the tie relay, the cold inhibit and the battery
pad (R27 to R38). -/

namespace Sys2Proof.Machine

/-! ### Shore charger, solar and split relay (R27 to R31) -/

/-- The shore-charger enable is re-evaluated; an OFF change carries the cause given (R27, R41). -/
def Part.evalShore (p : Part) (cause : ChargeCause) : Part :=
  let on := p.mains && p.chg.coldInhibit.isNone && !p.chg.calHold
  if on = p.chg.shoreEnable then p
  else ({ p with chg := { p.chg with shoreEnable := on } }).postCharge .shore (if on then .mains else cause)

/-- The solar enable is re-evaluated (R28, R41). -/
def Part.evalSolar (p : Part) (cause : ChargeCause) : Part :=
  let on := p.chg.coldInhibit.isNone && !p.chg.calHold
  if on = p.chg.solarEnable then p
  else ({ p with chg := { p.chg with solarEnable := on } }).postCharge .solar cause

/-- The split relay closes when every condition of R30 holds. -/
def Part.evalSplitClose (p : Part) : Part :=
  if !p.chg.splitClosed && p.dplus && p.chg.dplusCount == 50 && p.chg.highCount == 50 && p.chg.coldInhibit.isNone &&
      !p.chg.calHold then
    ({ p with chg := { p.chg with splitClosed := true } }).postCharge .split .closed
  else p

/-- A CLOSED split relay opens with a cause (R31). -/
def Part.openSplit (p : Part) (cause : ChargeCause) : Part :=
  if p.chg.splitClosed then ({ p with chg := { p.chg with splitClosed := false } }).postCharge .split cause else p

/-- The three outputs follow an inhibit or a hold that has come to stand (R27, R28, R31). -/
def Part.sourcesOff (p : Part) (cause : ChargeCause) : Part := ((p.evalShore cause).evalSolar cause).openSplit cause

/-- The three outputs are re-evaluated when an inhibit or a hold has been lifted (R27, R28, R30). -/
def Part.sourcesOn (p : Part) (cause : ChargeCause) : Part := ((p.evalShore cause).evalSolar cause).evalSplitClose

/-- The three counts after a starter sample (R29). -/
def Chg.counted (c : Chg) (mv : Nat) (dplus : Bool) : Chg :=
  { c with
    highCount := if 13200 ≤ mv then min 50 (c.highCount + 1) else 0
    lowCount := if mv < 12700 then min 100 (c.lowCount + 1) else 0
    dplusCount := if dplus then min 50 (c.dplusCount + 1) else c.dplusCount }

/-- A starter sample: the voltage, the counts, then the split relay (R29 to R31). -/
def Part.starterSampled (p : Part) (mv : Nat) : Part :=
  let q := { p with mdc := { p.mdc with starterVoltage := some mv }, chg := p.chg.counted mv p.dplus }
  let q := if q.chg.lowCount = 100 then q.openSplit .starterLow else q
  q.evalSplitClose

/-! ### The tie relay (R37) and the bus values of a tie state (R18) -/

/-- The joined state of charge (R18). -/
def Part.joinedSoc (p : Part) : Nat :=
  socOf ((p.bank .A).content + (p.bank .B).content) (p.params.fullContent .A + p.params.fullContent .B)

/-- The joined voltage: the lower of the two, or the one that is present (R18). -/
def Part.joinedVoltage (p : Part) : Option Nat :=
  match (p.bank .A).lastVoltage, (p.bank .B).lastVoltage with
  | some a, some b => some (min a b)
  | some a, none => some a
  | none, v => v

/-- A change of the tie relay (R37); the second value counts the loads shed and cut. -/
def Part.setTie (p : Part) (t : Tie) (cause : ChargeCause) : Part × Nat :=
  if p.chg.tieRelay = t then (p, 0)
  else
    let q := { p with chg := { p.chg with tieRelay := t } }
    let r := match t with
      | .joined => q.ldmJoin q.joinedSoc q.joinedVoltage
      | .split => q.ldmSplit fun b => (q.bankSoc b, (q.bank b).lastVoltage)
    (r.1.postCharge .tie cause, r.2)

/-! ### The calibration hold (R32) -/

/-- The calibration hold is raised: sources off, split open, tie SPLIT. -/
def Part.raiseCalHold (p : Part) : Part :=
  if p.chg.calHold then p
  else
    let q := ({ p with chg := { p.chg with calHold := true } }).sourcesOff .calHold
    (q.setTie .split .calHold).1

/-- The calibration hold is lowered: sources and split evaluated, the tie relay to the setting, with cause START when the
lowering ends the START calibration (R32, R37). -/
def Part.lowerCalHold (p : Part) : Part :=
  if p.chg.calHold then
    let q := ({ p with chg := { p.chg with calHold := false } }).sourcesOn .calHold
    (q.setTie q.params.tieSetting (if q.mdc.mode = .start then .start else .calHold)).1
  else p

/-! ### The battery pad (R35, R36) -/

/-- The clear point of the inhibit and the drop point of the pad (R34, R35). -/
def Pages.warmPoint (ps : Pages) : Int := ps.chargeMinimum + 6

/-- The conditions of the pad demand (R35). -/
def Part.padConditions (p : Part) : Bool :=
  p.params.chemistry == .lithium &&
    (match p.chg.battTemp with
      | some t => decide (t < p.params.warmPoint)
      | none => false) &&
    (p.mains || p.dplus) && (p.mdc.mode == .active || p.mdc.mode == .storage)

/-- CHG demands the pad load and takes the answer (R36; log 37). -/
def Part.demandPad (p : Part) (l : LoadId) : Part :=
  let r := p.demand l none
  r.1.setPad (match r.2 with
    | .ok => .running
    | .shed => .waiting
    | .faulted => .faulted
    | e => .refused e)

/-- CHG drops its demand for the pad load (R35). -/
def Part.dropPad (p : Part) (l : LoadId) : Part := (p.wantedOff l).setPad .idle

/-- The conditions of R35 are judged: a demand from IDLE when they hold, a drop when they fail. -/
def Part.padJudge (p : Part) : Part :=
  match p.params.loadWith .battPad with
  | none => p
  | some l =>
    if p.padConditions then (if p.chg.pad = .idle then p.demandPad l else p)
    else
      match p.chg.pad with
      | .running => p.dropPad l
      | .waiting => p.dropPad l
      | .refused _ => p.dropPad l
      | _ => p

/-- The expiry of the running pad retry timer (R36). -/
def Part.padRetried (p : Part) : Part :=
  if p.chg.padRetry.isSome then
    match p.params.loadWith .battPad with
    | some l => if p.padConditions then p.demandPad l else p.dropPad l
    | none => p
  else p

/-- The Load Manager reports the pad load OFF after its fault was cleared: R35 is judged afresh (R36). -/
def Part.padFaultCleared (p : Part) : Part :=
  (if p.chg.pad = .faulted then p.setPad .idle else p).padJudge

/-- An accepted role write that gives or removes BATT_PAD (R35). -/
def Part.padRoleChanged (p : Part) (before : Option LoadId) : Part :=
  let after := p.params.loadWith .battPad
  if after = before then p
  else
    match after with
    | none => p.setPad .noPad
    | some _ => (p.setPad .idle).padJudge

/-! ### Battery temperature and the cold inhibit (R33, R34) -/

/-- The staleness limit of a temperature in ms (R33, R142). -/
def Part.staleLimit (p : Part) : Nat := if p.mdc.mode = .storage then 2 * p.params.dutyMs else 10000

/-- The temperature of the line with a role while it is known: a value, no FAULT of the supply, an age within the limit in force
(R33, R142). -/
def Part.knownTemp (p : Part) (r : LineRole) : Option Int :=
  match p.params.lineWith r with
  | none => none
  | some s =>
    match (p.line s).value, (p.line s).age with
    | some (.temp t), some a => if (p.line s).supply ≠ .fault ∧ a < p.staleLimit then some t else none
    | _, _ => none

/-- The staleness countdown from a value's present age under the limit in force (R33, R142); a value past the limit leaves a
countdown that runs at its expiry, and one that has expired stopped (log 41). -/
def staleTimer (limit : Nat) (age timer : Option Nat) : Option Nat :=
  match age with
  | some a => if a < limit then some (limit - a) else timer.map fun _ => 0
  | none => timer.map fun _ => 0

/-- The age of the value of the line with a role (chapter 5). -/
def Part.ageOf (p : Part) (r : LineRole) : Option Nat :=
  match p.params.lineWith r with
  | some s => (p.line s).age
  | none => none

/-- The staleness countdown of a role, formed anew (R33, R142). -/
def Part.staleFor (p : Part) (r : LineRole) (timer : Option Nat) : Option Nat := staleTimer p.staleLimit (p.ageOf r) timer

/-- The rules of R34 for a chemistry, an inhibit, a temperature and the charge minimum. -/
def coldRule (chem : Chemistry) (inhibit : Option InhibitCause) (temp : Option Int) (minimum : Int) :
    Option InhibitCause :=
  match chem with
  | .lead => none
  | .lithium =>
    match temp with
    | none => some .unknown
    | some t =>
      if t < (if inhibit.isSome then minimum + 6 else minimum) then some .cold else none

/-- The cause of a COLD_INHIBIT notice (R41). -/
def inhibitNoticeCause (chem : Chemistry) : Option InhibitCause → ChargeCause
  | some .cold => .cold
  | some .unknown => .unknown
  | none => if chem = .lead then .chemistry else .warm

/-- The cold inhibit is judged, with the outputs that follow it (R34). -/
def Part.inhibitJudge (p : Part) : Part :=
  let new := coldRule p.params.chemistry p.chg.coldInhibit p.chg.battTemp p.params.chargeMinimum
  if new = p.chg.coldInhibit then p
  else
    let q := ({ p with chg := { p.chg with coldInhibit := new } }).postCharge .coldInhibit
      (inhibitNoticeCause p.params.chemistry new)
    if new.isSome then q.sourcesOff .cold else q.sourcesOn .cold

/-- The battery temperature is re-judged, then the inhibit and the pad (R33 to R35). -/
def Part.battTempJudge (p : Part) : Part :=
  (({ p with chg := { p.chg with battTemp := p.knownTemp .battTemp } }).inhibitJudge).padJudge

/-- A new valid value on the BATT_TEMP line restarts the staleness timer (R33). -/
def Part.battTempValue (p : Part) : Part :=
  ({ p with chg := { p.chg with battTimer := some p.staleLimit } }).battTempJudge

/-- The battery temperature's staleness timer is formed anew from the value's age and the temperature judged (R33). -/
def Part.battTempRejudge (p : Part) : Part :=
  ({ p with chg := { p.chg with battTimer := p.staleFor .battTemp none } }).battTempJudge

/-- The expiry of the running staleness timer (R33). -/
def Part.battTempExpired (p : Part) : Part := if p.chg.battTimer.isSome then p.battTempRejudge else p

/-- CHG's part of a mode change, which measures the new limit against the value's present age; the pad is taken after the inhibit
and its outputs (R33, R35, R41, R42). -/
def Part.chgModeEntry (p : Part) : Part :=
  let q := { p with chg := { p.chg with battTimer := p.staleFor .battTemp none, battTemp := p.knownTemp .battTemp } }
  let q := q.inhibitJudge
  let q := if q.mdc.mode = .service ∧ q.chg.pad ≠ .noPad then q.setPad .idle else q
  q.padJudge

/-- D+ has become active or inactive: the D+ count, the split relay, the pad (R29, R31, R35). -/
def Part.chgDplus (p : Part) : Part :=
  if p.dplus then p.padJudge
  else (({ p with chg := { p.chg with dplusCount := 0 } }).openSplit .noDplus).padJudge

/-- MAINS_OK has been asserted or withdrawn (R27, R35). -/
def Part.chgMains (p : Part) : Part := (p.evalShore .noMains).padJudge

end Sys2Proof.Machine
end

