-- ==== Sys2Proof/Machine/Banks.lean ====
section
/-! DEFINITION. The Bank Monitor's own operations: the counting sample in the order of R17, calibration, corrections and the
publication of bus values (R1 to R21). -/

namespace Sys2Proof.Machine

/-! ### Notices (R23, R10) -/

/-- The causes of a BANK notice (R23). -/
inductive BankCause | calibrated | full | notFull | empty | notEmpty | fullSync | restCal | capacity
  deriving DecidableEq, Repr

/-- The position of a cause in the table of R23 (R203). -/
def BankCause.code : BankCause → Nat
  | .calibrated => 0
  | .full => 1
  | .notFull => 2
  | .empty => 3
  | .notEmpty => 4
  | .fullSync => 5
  | .restCal => 6
  | .capacity => 7

/-- Post a BANK notice: cause, state of charge, flags (R23). -/
def Part.postBank (p : Part) (b : Bank) (cause : BankCause) : Part :=
  p.post .bank (bankIdx b) (n8 cause.code ++ n16 (p.bankSoc b) ++ n8 (p.bank b).flags)

/-- Post a PARAM_APPLIED notice: the page, the index, the value now in force (R10, R206). -/
def Part.postApplied (p : Part) (page idx : Nat) : Part :=
  p.post .paramApplied page (n8 idx ++ n16 (p.params.nat page idx))

/-! ### FULL and EMPTY (R8) -/

/-- FULL takes a value; a change posts (R8). -/
def Part.setFull (p : Part) (b : Bank) (v : Bool) : Part :=
  if (p.bank b).full = v then p
  else (p.setBank b { p.bank b with full := v }).postBank b (if v then .full else .notFull)

/-- EMPTY takes a value; a change posts (R8). -/
def Part.setEmpty (p : Part) (b : Bank) (v : Bool) : Part :=
  if (p.bank b).empty = v then p
  else (p.setBank b { p.bank b with empty := v }).postBank b (if v then .empty else .notEmpty)

/-- FULL after content was set directly: set at F, cleared below 995 ‰ of it (R8). -/
def fullRule (content full : Nat) (was : Bool) : Bool :=
  if content = full then true else if content * 1000 < full * 995 then false else was

/-- EMPTY after content was set directly: set at 0, cleared above 5 ‰ of F (R8). -/
def emptyRule (content full : Nat) (was : Bool) : Bool :=
  if content = 0 then true else if full * 5 < content * 1000 then false else was

/-- The re-evaluation of both flags after content was set directly (R8). -/
def Part.reevaluate (p : Part) (b : Bank) : Part :=
  let f := p.params.fullContent b
  let q := p.setFull b (fullRule (p.bank b).content f (p.bank b).full)
  q.setEmpty b (emptyRule (q.bank b).content f (q.bank b).empty)

/-- The re-evaluation at a reset, which posts nothing (R8, R24). -/
def BankRec.reevaluated (r : BankRec) (full : Nat) : BankRec :=
  { r with full := fullRule r.content full r.full, empty := emptyRule r.content full r.empty }

/-! ### The counting sample (R17) -/

/-- The current of a sample in mA, rounded half away from zero (R2). -/
def sampleCurrent (count offset : Int) (gain : Nat) : Int := divHalfAway ((count - offset) * gain) 1024

/-- The charge increment of a current (R7). -/
def chargeIncrement (i : Int) (efficiency : Nat) : Int := if 0 < i then i * efficiency / 1000 else i

/-- CURRENT_SAT of a raw count (R2). -/
def saturated (count : Int) : Bool := count == -32768 || count == 32767

/-- Step 1: a pending gain becomes the value in force (R10). -/
def Part.applyGain (p : Part) (b : Bank) : Part :=
  match (p.bank b).pendingGain with
  | some v =>
    let q := p.setBank b { p.bank b with pendingGain := none }
    ({ q with params := q.params.set 1 (3 + bankIdx b) (BitVec.ofNat 16 v) }).postApplied 1 (3 + bankIdx b)
  | none => p

/-- Step 1: a pending efficiency becomes the value in force (R10). -/
def Part.applyEff (p : Part) (b : Bank) : Part :=
  match (p.bank b).pendingEff with
  | some v =>
    let q := p.setBank b { p.bank b with pendingEff := none }
    ({ q with params := q.params.set 1 (5 + bankIdx b) (BitVec.ofNat 16 v) }).postApplied 1 (5 + bankIdx b)
  | none => p

/-- Steps 2 and 3: voltage, current, CURRENT_SAT, minute sum and content (R1, R2, R7). -/
def BankRec.accumulated (r : BankRec) (count : Int) (mv : Nat) (i d : Int) (full : Nat) : BankRec :=
  { r with
    lastVoltage := some mv
    lastCurrent := some i
    currentSat := saturated count
    minuteSum := r.minuteSum + d
    content := clampToNat full (r.content + d) }

/-- Step 4: FULL and EMPTY of a counting sample; `raw` is C + ΔC before the clamp (R8). -/
def Part.countFlags (p : Part) (b : Bank) (raw d : Int) : Part :=
  let f := p.params.fullContent b
  let c := (p.bank b).content
  let setF : Bool := decide (0 < d) && decide ((f : Int) ≤ raw)
  let setE : Bool := decide (d < 0) && decide (raw ≤ 0)
  let q := p.setFull b (if c * 1000 < f * 995 then false else (p.bank b).full || setF)
  q.setEmpty b (if f * 5 < c * 1000 then false else (q.bank b).empty || setE)

/-- Whether a sample qualifies for full sync (R11). -/
def Part.syncQualifies (p : Part) (b : Bank) (mv : Nat) (i : Int) : Bool :=
  decide (0 < i) && decide (p.params.fullVoltage b ≤ mv) && decide (i ≤ p.params.tailCurrent b)

/-- A full sync (R11). -/
def Part.fullSync (p : Part) (b : Bank) : Part :=
  (p.setBank b { p.bank b with
    content := p.params.fullContent b, full := true, empty := false, estimated := false, fullSyncTimer := 0 }).postBank b
    .fullSync

/-- Step 5: the full-sync timer, and the full sync it brings; the second value says that one was performed (R11). -/
def Part.syncStep (p : Part) (b : Bank) (mv : Nat) (i : Int) : Part × Bool :=
  if p.syncQualifies b mv i then
    let q := p.setBank b { p.bank b with fullSyncTimer := (p.bank b).fullSyncTimer + 1 }
    if 600 ≤ (q.bank b).fullSyncTimer then (q.fullSync b, true) else (q, false)
  else (p.setBank b { p.bank b with fullSyncTimer := 0 }, false)

/-- The value of an OCV table between two adjacent points (R15). -/
def ocvBetween (v0 s0 v1 s1 v : Nat) : Nat := s0 + (v - v0) * (s1 - s0) / (v1 - v0)

/-- An OCV lookup over the points of a table (R15): below the first point its value, above the last point its value. -/
def ocvLookup : List (Nat × Nat) → Nat → Nat
  | [], _ => 0
  | [(_, s)], _ => s
  | (v0, s0) :: (v1, s1) :: rest, v =>
    if v ≤ v0 then s0
    else if v ≤ v1 then ocvBetween v0 s0 v1 s1 v
    else ocvLookup ((v1, s1) :: rest) v

/-- The eight points of the active table (R14). -/
def Pages.ocvTable (ps : Pages) : List (Nat × Nat) := (List.range 8).map (ps.ocvPoint ps.chemistry)

/-- A rest recalibration (R13). -/
def Part.restRecal (p : Part) (b : Bank) (mv : Nat) : Part :=
  let ocv := ocvLookup p.params.ocvTable mv
  let soc := p.bankSoc b
  let r := { p.bank b with estimated := false, restTimer := 0 }
  if p.params.correctionBand < (if soc ≤ ocv then ocv - soc else soc - ocv) then
    ((p.setBank b { r with content := ocv * p.params.fullContent b / 1000 }).reevaluate b).postBank b .restCal
  else p.setBank b r

/-- Step 6: the rest timer, AT_REST, and the rest recalibration or its skip (R12, R13). -/
def Part.restStep (p : Part) (b : Bank) (mv : Nat) (i : Int) (synced : Bool) : Part :=
  if i.natAbs ≤ p.params.restCurrent then
    let q := p.setBank b { p.bank b with restTimer := (p.bank b).restTimer + 1 }
    if q.params.restSamples ≤ (q.bank b).restTimer then
      let q := q.setBank b { q.bank b with atRest := true }
      if synced then q.setBank b { q.bank b with restTimer := 0 } else q.restRecal b mv
    else q
  else p.setBank b { p.bank b with restTimer := 0, atRest := false }

/-- The time to empty of a minute sum and a content, in minutes (R16). -/
def emptyMinutes (minuteSum : Int) (content : Nat) : Option Nat :=
  let avg := minuteSum.tdiv 600
  if avg < 0 then some (min 65535 (content / (600 * avg.natAbs))) else none

/-- Step 8: the second and minute counts, and the time to empty at a minute's end (R10, R16). -/
def BankRec.timed (r : BankRec) : BankRec :=
  let second := if r.secondCount = 9 then 0 else r.secondCount + 1
  if 599 ≤ r.minuteCount then
    { r with secondCount := second, minuteCount := 0, minuteSum := 0, timeToEmpty := emptyMinutes r.minuteSum r.content }
  else { r with secondCount := second, minuteCount := r.minuteCount + 1 }

/-- Steps 1 to 8 of a COUNTING sample (R17); a pending gain is applied before a pending efficiency (log 69). -/
def Part.countingSample (p : Part) (b : Bank) (count : Int) (mv : Nat) : Part :=
  let q := if (p.bank b).secondCount = 0 then (p.applyGain b).applyEff b else p
  let r := q.bank b
  let i := sampleCurrent count r.offset (q.params.gain b)
  let d := chargeIncrement i (q.params.efficiency b)
  let q := q.setBank b (r.accumulated count mv i d (q.params.fullContent b))
  let q := q.countFlags b (r.content + d) d
  let s := q.syncStep b mv i
  let q := s.1.restStep b mv i s.2
  q.setBank b (q.bank b).timed

/-! ### Calibration (R3 to R6) -/

/-- A bank enters CALIBRATING (R3). -/
def BankRec.calibrating (r : BankRec) : BankRec := { r with acct := .calibrating, calSum := 0, calSamples := 0 }

/-- A calibration sample before its completion (R3). -/
def BankRec.calibrated1 (r : BankRec) (count : Int) (mv : Nat) : BankRec :=
  { r with
    lastVoltage := some mv, currentSat := saturated count, calSum := r.calSum + count, calSamples := r.calSamples + 1 }

/-- The completion of a calibration (R5). -/
def BankRec.counting (r : BankRec) : BankRec :=
  let mean := r.calSum.tdiv 8
  { r with
    offset := clampInt (-512) 512 mean, offsetSat := decide (mean < -512) || decide (512 < mean), acct := .counting
    secondCount := 0, minuteCount := 0, minuteSum := 0 }

/-- A CALIBRATING sample; the second value says that it completed the bank's calibration (R3, R5). -/
def Part.calibrationSample (p : Part) (b : Bank) (count : Int) (mv : Nat) : Part × Bool :=
  let r := (p.bank b).calibrated1 count mv
  if 8 ≤ r.calSamples then ((p.setBank b r.counting).postBank b .calibrated, true) else (p.setBank b r, false)

/-- No bank is CALIBRATING (R4). -/
def Part.allCounting (p : Part) : Bool := (p.bank .A).acct == .counting && (p.bank .B).acct == .counting

/-- Every bank that a BANK_ZERO selected is COUNTING again (R6). -/
def Part.zeroingDone (p : Part) (z : Zeroing) : Bool :=
  (!z.a || (p.bank .A).acct == .counting) && (!z.b || (p.bank .B).acct == .counting)

/-- An accepted BANK_ZERO: each selected bank enters CALIBRATING and the hold is raised (R6). -/
def Part.startZeroing (p : Part) (z : Zeroing) : Part :=
  let q := if z.a then p.setBank .A (p.bank .A).calibrating else p
  let q := if z.b then q.setBank .B (q.bank .B).calibrating else q
  ({ q with bnk := { q.bnk with zeroing := some z } }).raiseCalHold

/-! ### Publication (R18) -/

/-- A sample of a bank publishes the bus that the bank feeds (R18). -/
def Part.publishBank (p : Part) (b : Bank) : Part :=
  match p.busOfBank b with
  | .joined => p.publish .joined p.joinedSoc p.joinedVoltage
  | name => p.publish name (p.bankSoc b) (p.bank b).lastVoltage

/-! ### Writes (R20, R21) -/

/-- The content under a new full content (R21). -/
def rescaled (content full full' : Nat) : Nat := content * full' / full

/-- The consequence of a capacity write: the content rescaled, ESTIMATED, CAPACITY posted (R21); `full` is the full content
before the write. -/
def Part.capacityChanged (p : Part) (b : Bank) (full : Nat) : Part :=
  ((p.setBank b { p.bank b with
    content := rescaled (p.bank b).content full (p.params.fullContent b), estimated := true }).reevaluate b).postBank b
    .capacity

end Sys2Proof.Machine
end

