-- ==== Sys2Proof/Machine/Water.lean ====
section
/-! DEFINITION. The Water Unit's own operations: publication of the levels, volumes and alarms, the DUMPED mark, flow, the pump
and its dry-run protection (R125 to R136). -/

namespace Sys2Proof.Machine

/-! ### Volumes and notices (R129, R139) -/

/-- The volume at a level, over the points in use (R129). -/
def volumeLookup : List (Nat × Nat) → Nat → Nat
  | [], _ => 0
  | [(_, v)], _ => v
  | (l0, v0) :: (l1, v1) :: rest, l =>
    if l ≤ l0 then v0
    else if l ≤ l1 then v0 + (l - l0) * (v1 - v0) / (l1 - l0)
    else volumeLookup ((l1, v1) :: rest) l

/-- The volume of a tank, present with its level (R129). -/
def Part.volume (p : Part) (t : Tank) : Option Nat := (p.tank t).level.map (volumeLookup (p.params.tankTable t))

/-- The causes of a TANK notice (R139). -/
inductive TankCause
  | low | notLow | full | notFull | senderFault | senderOk | dry | notDry | dumped | notDumped
  deriving DecidableEq, Repr

/-- The position of a cause in the table of R139 (R203). -/
def TankCause.code : TankCause → Nat
  | .low => 0
  | .notLow => 1
  | .full => 2
  | .notFull => 3
  | .senderFault => 4
  | .senderOk => 5
  | .dry => 6
  | .notDry => 7
  | .dumped => 8
  | .notDumped => 9

/-- Post a TANK notice: cause, level, level state, volume, flags (R139). -/
def Part.postTank (p : Part) (t : Tank) (cause : TankCause) : Part :=
  p.post .tank t.code
    (n8 cause.code ++ optField n8 (p.tank t).level ++ n8 (p.tank t).levelState.code ++ optField n16 (p.volume t) ++
      n8 (p.tankFlags t))

/-! ### Levels (R126 to R128, R130, R136) -/

/-- The line role of a tank (R125). -/
def tankRole : Tank → LineRole
  | .fresh => .freshLevel
  | .grey => .greyLevel

/-- LOW under its threshold, with 3 % of hysteresis (R130). -/
def lowRule (level threshold : Nat) (was : Bool) : Bool :=
  if level ≤ threshold then true else if threshold + 3 ≤ level then false else was

/-- FULL over its threshold, with 3 % of hysteresis (R130). -/
def fullAlarmRule (level threshold : Nat) (was : Bool) : Bool :=
  if threshold ≤ level then true else if level + 3 ≤ threshold then false else was

/-- The alarm of a tank at a level (R130). -/
def Part.alarmAt (p : Part) (t : Tank) (level : Nat) : Bool :=
  match t with
  | .fresh => lowRule level p.params.lowThreshold (p.tank t).alarm
  | .grey => fullAlarmRule level p.params.fullThreshold (p.tank t).alarm

/-- The cause of a change of an alarm (R130). -/
def alarmCause : Tank → Bool → TankCause
  | .fresh, true => .low
  | .fresh, false => .notLow
  | .grey, true => .full
  | .grey, false => .notFull

/-- The alarm of a tank is judged against its level; a change posts (R130). -/
def Part.judgeAlarm (p : Part) (t : Tank) : Part :=
  match (p.tank t).level with
  | none => p
  | some level =>
    let a := p.alarmAt t level
    if a = (p.tank t).alarm then p else (p.setTank t { p.tank t with alarm := a }).postTank t (alarmCause t a)

/-- A threshold write judges the alarm unless the level is HELD or absent (R130). -/
def Part.thresholdWritten (p : Part) (t : Tank) : Part :=
  if (p.tank t).levelState = .held then p else p.judgeAlarm t

/-- DRY is cleared (R136). -/
def Part.clearDry (p : Part) : Part :=
  if p.wat.dry then ({ p with wat := { p.wat with dry := false } }).postTank .fresh .notDry else p

/-- DRY is judged for clearing at a publication of the fresh level (R136). -/
def Part.judgeDry (p : Part) (t : Tank) : Part :=
  match t, (p.tank .fresh).level with
  | .fresh, some level => if p.params.lowThreshold + 3 ≤ level then p.clearDry else p
  | _, _ => p

/-- SENDER_FAULT takes a value; a change posts (R128). -/
def Part.setSenderFault (p : Part) (t : Tank) (v : Bool) : Part :=
  if (p.tank t).senderFault = v then p
  else (p.setTank t { p.tank t with senderFault := v }).postTank t (if v then .senderFault else .senderOk)

/-- The last eight of the levels (R127). -/
def windowAppend (window : List Nat) (level : Nat) : List Nat :=
  let w := window ++ [level]
  if 8 < w.length then w.drop 1 else w

/-- The mean of a window, truncated (R127). -/
def windowMeanOf (window : List Nat) : Nat := window.sum / window.length

/-- A valid level: SENDER_FAULT cleared with its notice (log 50), then published at once while parked and through the window
otherwise; alarm and DRY judged (R126 to R128). -/
def Part.levelHanded (p : Part) (t : Tank) (level : Nat) (status : SenderStatus) : Part :=
  let q := p.setSenderFault t false
  let r := q.tank t
  let window := if q.parked then r.window else windowAppend r.window level
  let published := if q.parked then level else windowMeanOf window
  let q := q.setTank t { r with levelState := .current, level := some published, status := status, window := window }
  (q.judgeAlarm t).judgeDry t

/-- A CURRENT level is no longer renewed (R125). -/
def Part.holdTank (p : Part) (t : Tank) : Part :=
  if (p.tank t).levelState = .current then p.setTank t { p.tank t with levelState := .held } else p

/-- A sender fault frame (R128): HELD first, then the flag with its notice; a tank without a published level stays WAITING (R125;
log 50). -/
def Part.senderFaultHanded (p : Part) (t : Tank) : Part := (p.holdTank t).setSenderFault t true

/-- A tank after its role was given to a line, or taken from every line (R125). -/
def TankRec.roleChanged (r : TankRec) (has : Bool) : TankRec :=
  { r with levelState := if has then .waiting else .none, level := none, window := [] }

/-- The tank whose level a line role carries (R125). -/
def tankOfRole : LineRole → Option Tank
  | .freshLevel => some .fresh
  | .greyLevel => some .grey
  | _ => none

/-- The vehicle has become parked: both windows are emptied (R127). -/
def Part.watParked (p : Part) : Part :=
  { p with wat := { p.wat with
    fresh := { p.wat.fresh with window := [] }, grey := { p.wat.grey with window := [] } } }

/-! ### Flow (R132) -/

/-- A pulse of the FLOW line (R132). -/
def Part.flowPulse (p : Part) : Part :=
  let micro := p.wat.remainder + p.params.volumePerPulse
  { p with wat := { p.wat with
    total := p.wat.total + BitVec.ofNat 32 (micro / 1000), remainder := micro % 1000 } }

/-- A rate of the FLOW line, in pulses per second (R132). -/
def Part.flowRate (p : Part) (perSecond : Nat) : Part :=
  { p with wat := { p.wat with rate := some (perSecond * p.params.volumePerPulse * 60 / 1000) } }

/-! ### The pump (R131, R133 to R136) -/

/-- The dry condition but for the comparison of the measured draw with the running threshold (R135). -/
def Part.dryBase (p : Part) : Bool :=
  match p.params.loadWith .pump, p.params.lineWith .flow with
  | some l, some s =>
    (p.load l).state == .on && (p.line s).supply == .on && (p.line s).standstill && (p.load l).fresh &&
      (p.load l).measured.isSome
  | _, _ => false

/-- The pump load's measured draw is at or above the running threshold (R135). -/
def Part.drawsRunning (p : Part) : Bool :=
  match p.params.loadWith .pump with
  | some l => (p.load l).measured.any fun ma => decide (p.params.runningThreshold ≤ ma)
  | none => false

/-- The dry condition (R135). -/
def Part.dryCondition (p : Part) : Bool := p.dryBase && p.drawsRunning

/-- The dry condition as a written running threshold leaves it until the next advance of the dry timer: the measured draw is
not yet compared with the new threshold (R140; log 42). -/
def Part.dryHolds (p : Part) : Bool := p.dryBase && (p.drawsRunning || p.wat.dryWritten)

/-- WAT's demand for the pump no longer stands: the request OFF, a standing demand dropped with a wanted-off, the dry timer at 0
(R131, R134, R135). -/
def Part.dropPump (p : Part) : Part :=
  let q := { p with wat := { p.wat with request := false, dryTimer := 0 } }
  match p.params.loadWith .pump with
  | none => q
  | some l =>
    match p.wat.pump with
    | .running => ({ q with wat := { q.wat with pump := .off } }).wantedOff l
    | .waiting => ({ q with wat := { q.wat with pump := .off } }).wantedOff l
    | _ => q

/-- WAT demands the pump and takes the answer, which is stored as the last one (R133). -/
def Part.demandPump (p : Part) (l : LoadId) : Part × Status :=
  let r := ({ p with wat := { p.wat with request := true } }).demand l none
  let w := { r.1.wat with lastAnswer := some r.2 }
  match r.2 with
  | .ok => ({ r.1 with wat := { w with pump := .running } }, .ok)
  | .shed => ({ r.1 with wat := { w with pump := .waiting } }, .shed)
  | e => ({ r.1 with wat := { w with request := false } }, e)

/-- WATER ON (R134): the checks in their order; a RUNNING pump is left as it is, and any other is demanded. -/
def Part.waterOn (p : Part) : Part × Status :=
  match p.mdc.mode with
  | .start => (p, .starting)
  | _ =>
    match p.params.loadWith .pump with
    | none => (p, .range)
    | some l =>
      if p.wat.dumped then (p, .interlock)
      else if p.wat.dry ∧ p.wat.fresh.levelState = .current then (p, .dry)
      else if p.wat.pump = .running then (p, .ok)
      else p.clearDry.demandPump l

/-- The dry timer has reached the dry time (R135). -/
def Part.dryExpired (p : Part) : Part :=
  if p.dryCondition then
    (({ p with wat := { p.wat with dry := true } }).dropPump).postTank .fresh .dry
  else p

/-- A dry timer whose condition has failed returns to 0 (R135, R140). -/
def Part.dryCheck (p : Part) : Part :=
  if p.dryHolds then p else { p with wat := { p.wat with dryTimer := 0 } }

/-- A measurement of the pump load reaches WAT, which judges the dry condition (R135, R140). -/
def Part.dryMeasured (p : Part) (l : LoadId) : Part :=
  if p.params.loadWith .pump = some l ∧ p.dryCondition = false then { p with wat := { p.wat with dryTimer := 0 } } else p

/-- A write of the running threshold or the dry time waits for the next advance of the dry timer (R140; log 42). -/
def Part.dryParamWritten (p : Part) : Part := { p with wat := { p.wat with dryWritten := true } }

/-- The guard has entered DUMPED (R131). -/
def Part.watDumped (p : Part) : Part :=
  let q := { p with wat := { p.wat with dumped := true, dryTimer := 0 } }
  (if q.wat.request then q.dropPump else q).postTank .fresh .dumped

/-- The guard has left DUMPED (R131). -/
def Part.watRefilled (p : Part) : Part :=
  ({ p with wat := { p.wat with dumped := false } }).postTank .fresh .notDumped

/-- An accepted role write that gives or removes PUMP (R133). -/
def Part.pumpRoleChanged (p : Part) (before : Option LoadId) : Part :=
  let after := p.params.loadWith .pump
  if after = before then p
  else { p with wat := { p.wat with request := false, pump := if after.isSome then .off else .noPump } }

end Sys2Proof.Machine
end

