-- ==== Sys2Proof/Machine/Climate.lean ====
section
/-! DEFINITION. The Climate Unit's own operations: temperatures, the thermostat and its heater demand, the frost guard and its valve
(R142 to R160). -/

namespace Sys2Proof.Machine

/-! ### Notices (R158) -/

/-- The causes of a FROST notice (R158). -/
inductive FrostCause
  | cold | warm | unknown | riskTimer | dumpRequest | closeRequest | valveFault | setting | start
  deriving DecidableEq, Repr

/-- The position of a cause in the list of R158 (R203). -/
def FrostCause.code : FrostCause → Nat
  | .cold => 0
  | .warm => 1
  | .unknown => 2
  | .riskTimer => 3
  | .dumpRequest => 4
  | .closeRequest => 5
  | .valveFault => 6
  | .setting => 7
  | .start => 8

/-- The state of the valve load with a presence byte, absent with none (R155 to R158; log 55). -/
def Part.valveState (p : Part) : List Byte :=
  optField (fun l : LoadId => n8 (p.load l).state.code) (p.params.loadWith .frostValve)

/-- Seconds, truncated, of a countdown in ms. -/
def secondsLeft (timer : Option Nat) : Option Nat := timer.map (· / 1000)

/-- Post a FROST notice: the states before and after, the cause, the bay temperature, the risk remaining, the valve (R158). -/
def Part.postFrost (p : Part) (before : GuardState) (cause : FrostCause) : Part :=
  p.post .frost 0
    (n8 before.code ++ n8 p.clm.guard.code ++ n8 cause.code ++ optField (leSigned 2) p.clm.bay ++
      optField n16 (secondsLeft p.clm.riskTimer) ++ p.valveState)

/-! ### The thermostat (R143 to R146) -/

/-- A call on a setpoint with hysteresis; `unknown` is its value without a temperature (R143). -/
def callRule (setpoint : Int) (hysteresis : Nat) (temp : Option Int) (last unknown : Bool) : Bool :=
  match temp with
  | none => unknown
  | some t =>
    if t < setpoint - (hysteresis / 2 : Nat) then true
    else if setpoint + (hysteresis / 2 : Nat) ≤ t then false
    else last

/-- The thermostat call (R143). -/
def Part.thermostatCall (p : Part) : Bool :=
  match p.params.thermoMode with
  | .off => false
  | .comfort => callRule p.params.setpoint p.params.thermoHysteresis p.clm.cabin p.clm.call false
  | .frostHold => callRule 10 p.params.thermoHysteresis p.clm.cabin p.clm.call false

/-- The hold call from a last value; off outside WATCH (R143). -/
def Part.holdCall (p : Part) (last : Bool) : Bool :=
  p.clm.guard == .watch && callRule 10 p.params.thermoHysteresis p.clm.cabin last true

/-- Both calls are formed (R143, R144). -/
def Part.formCalls (p : Part) : Part :=
  { p with clm := { p.clm with call := p.thermostatCall, hold := p.holdCall p.clm.hold } }

/-- Heat is wanted (R144). -/
def Part.wantsHeat (p : Part) : Bool := p.clm.call || p.clm.hold || p.clm.guard == .risk

/-- CLM demands the heater and takes the answer (R146). -/
def Part.demandHeater (p : Part) (l : LoadId) : Part :=
  let r := p.demand l none
  match r.2 with
  | .ok => r.1.heaterRunning
  | .shed => r.1.setHeater .waiting
  | .faulted => r.1.setHeater .faulted
  | e => r.1.setHeater (.denied e)

/-- CLM drops its heater demand (R145, R146). -/
def Part.dropHeater (p : Part) (l : LoadId) : Part := ((p.wantedOff l).heaterEnded).setHeater .idle

/-- The held mark is written (R145). -/
def Part.setHeld (p : Part) (h : Held) : Part := { p with clm := { p.clm with held := h } }

/-- A judgement of the heater demand (R144, R145); none in START (R160). -/
def Part.heaterJudge (p : Part) : Part :=
  if p.mdc.mode = .start then p
  else
    let wanted := p.wantsHeat
    let q := ({ p with clm := { p.clm with heatWanted := wanted } }).setHeld .none
    match q.params.loadWith .heater with
    | none => q
    | some l =>
      match q.clm.heater with
      | .noHeater => q
      | .faulted => q
      | .idle =>
        if wanted then
          if q.clm.minOff.isSome ∧ q.clm.guard ≠ .risk then q.setHeld .heldOff else q.demandHeater l
        else q
      | .denied _ =>
        if wanted then
          if q.clm.minOff.isSome ∧ q.clm.guard ≠ .risk then q.setHeld .heldOff else q.demandHeater l
        else q.setHeater .idle
      | .running => if wanted then q else if q.clm.minOn.isSome then q.setHeld .heldOn else q.dropHeater l
      | .waiting => if wanted then q else if q.clm.minOn.isSome then q.setHeld .heldOn else q.dropHeater l

/-- An evaluation of the thermostat (R144). -/
def Part.evaluateThermostat (p : Part) : Part :=
  (({ p with clm := { p.clm with evalTimer := some 10000 } }).formCalls).heaterJudge

/-- The expiry of the running evaluation countdown (R144). -/
def Part.evaluationExpired (p : Part) : Part := if p.clm.evalTimer.isSome then p.evaluateThermostat else p

/-- The expiry of the running minimum on countdown (R145). -/
def Part.minOnExpired (p : Part) : Part :=
  if p.clm.minOn.isSome then
    ({ p with clm := { p.clm with minOn := none, held := if p.clm.held = Held.heldOn then .none else p.clm.held } }).heaterJudge
  else p

/-- The expiry of the running minimum off countdown (R145). -/
def Part.minOffExpired (p : Part) : Part :=
  if p.clm.minOff.isSome then
    ({ p with clm := { p.clm with
      minOff := none, held := if p.clm.held = Held.heldOff then .none else p.clm.held } }).heaterJudge
  else p

/-! ### Promotion (R150) -/

/-- CLM promotes the heater load, with its HEATER_STATE notice (R150, R158). -/
def Part.promoteHeater (p : Part) : Part :=
  match p.params.loadWith .heater with
  | none => p
  | some l => if (p.load l).promoted then p else (p.promoteLoad l).postHeater

/-- CLM demotes a promoted heater load, with its HEATER_STATE notice (R150, R158). -/
def Part.demoteHeater (p : Part) : Part :=
  match p.params.loadWith .heater with
  | none => p
  | some l => if (p.load l).promoted then (p.demoteLoad l).postHeater else p

/-! ### The frost guard (R148 to R150) -/

/-- The guard enters WATCH and forms the hold call from its off value (R143). -/
def Part.enterWatch (p : Part) : Part :=
  let q := { p with clm := { p.clm with guard := .watch } }
  { q with clm := { q.clm with hold := q.holdCall false } }

/-- The transition of R149 that holds, with its cause. -/
def Part.guardStep (p : Part) : Option (GuardState × FrostCause) :=
  match p.clm.guard, p.clm.bay with
  | .safe, none => some (.watch, .unknown)
  | .safe, some t => if t < p.params.warnThreshold then some (.watch, .cold) else none
  | .watch, none => if 60000 ≤ p.clm.unknownTimer then some (.risk, .unknown) else none
  | .watch, some t =>
    if p.params.warnThreshold + p.params.guardHysteresis ≤ t then some (.safe, .warm)
    else if t < p.params.dumpThreshold then some (.risk, .cold)
    else none
  | .risk, some t =>
    if p.params.dumpThreshold + p.params.guardHysteresis ≤ t then some (.watch, .warm) else none
  | _, _ => none

/-- The work of a transition: RISK as R150 orders it, the leaving of RISK, WATCH with its hold call; the heater is judged at
each (R144, R150). -/
def Part.guardEnter (p : Part) (g : GuardState) : Part :=
  match g with
  | .risk =>
    let q := { p with clm := { p.clm with guard := .risk, hold := false, riskTimer := some p.params.riskMs } }
    q.promoteHeater.heaterJudge
  | .watch =>
    let q := if p.clm.guard = .risk then
        ({ p with clm := { p.clm with guard := .watch, riskTimer := none } }).demoteHeater
      else p
    q.enterWatch.heaterJudge
  | g => ({ p with clm := { p.clm with guard := g, hold := false } }).heaterJudge

/-- Transitions until none holds, at most `fuel` of them, with the last cause (R148; log 33). -/
def Part.guardLoop : Nat → Part → Option FrostCause → Part × Option FrostCause
  | 0, p, c => (p, c)
  | fuel + 1, p, c =>
    match p.guardStep with
    | none => (p, c)
    | some (g, cause) => (p.guardEnter g).guardLoop fuel (some cause)

/-- The transitions of one judgement, without their notice; none in START (R148). -/
def Part.guardSettle (p : Part) : Part × Option FrostCause :=
  if p.mdc.mode = .start then (p, none) else p.guardLoop 4 none

/-- The states of the guard before and after an event are posted with a cause, if the event has one (R148). -/
def Part.postGuard (p : Part) (before : GuardState) : Option FrostCause → Part
  | none => p
  | some cause => p.postFrost before cause

/-- A judgement of the guard: its transitions, then one FROST notice with the states before and after the event (R148). -/
def Part.guardJudge (p : Part) : Part :=
  let r := p.guardSettle
  r.1.postGuard p.clm.guard r.2

/-- The unknown timer has reached 60 s (R149). -/
def Part.unknownRuns (p : Part) : Bool :=
  p.mdc.mode != .start && p.clm.bay.isNone &&
    (p.clm.guard == .safe || p.clm.guard == .watch || p.clm.guard == .risk)

/-- The unknown timer has reached 60 s, which is a judgement event (R149). -/
def Part.unknownReached (p : Part) : Part :=
  if p.unknownRuns then ({ p with clm := { p.clm with unknownTimer := 60000 } }).guardJudge else p

/-! ### Entering and leaving DUMPED (R151 to R156) -/

/-- The guard enters DUMPED (R153). -/
def Part.enterDumped (p : Part) (cause : FrostCause) : Part :=
  let before := p.clm.guard
  let q := match p.params.loadWith .frostValve with
    | some l => p.wantedOff l
    | none => p
  let q := { q with clm := { q.clm with guard := .dumped, hold := false, riskTimer := none, unknownTimer := 0 } }
  (q.demoteHeater.heaterJudge.watDumped).postFrost before cause

/-- The expiry of the running risk timer (R150). -/
def Part.riskExpired (p : Part) : Part := if p.clm.riskTimer.isSome then p.enterDumped .riskTimer else p

/-- A trip of the valve load is reported (R154). -/
def Part.valveTripped (p : Part) : Part := if p.clm.guard = .dumped then p else p.enterDumped .valveFault

/-- CLM demands the valve load, with none there nothing (R151, R156). -/
def Part.closeValve (p : Part) : Part :=
  match p.params.loadWith .frostValve with
  | some l => (p.demand l none).1
  | none => p

/-- The valve load is FAULTED (R156). -/
def Part.valveFaulted (p : Part) : Bool :=
  match p.params.loadWith .frostValve with
  | some l => (p.load l).state == .faulted
  | none => false

/-- An accepted FROST_CLOSE (R156). -/
def Part.closeFrost (p : Part) : Part :=
  let q := p.closeValve
  let q :=
    if q.params.guardEnabled then (q.enterWatch.heaterJudge).guardSettle.1
    else ({ q with clm := { q.clm with guard := .off } }).heaterJudge
  q.watRefilled.postFrost .dumped .closeRequest

/-- The refusal of FROST_CLOSE in DUMPED (R156). -/
def Part.closeRefusal (p : Part) : Option Status :=
  if p.valveFaulted then some .faulted
  else if p.params.guardEnabled then
    match p.clm.bay with
    | none => some .interlock
    | some t => if t < p.params.warnThreshold then some .interlock else none
  else none

/-- FROST_CLOSE (R156). -/
def Part.frostClosed (p : Part) : Part × Status :=
  if p.mdc.mode = .start then (p, .starting)
  else if p.clm.guard ≠ .dumped then (p, .ok)
  else
    match p.closeRefusal with
    | some e => (p, e)
    | none => (p.closeFrost, .ok)

/-- FROST_DUMP (R155). -/
def Part.frostDumped (p : Part) : Part × Status :=
  if p.mdc.mode = .start then (p, .starting)
  else
    match p.clm.guard with
    | .off => (p, .interlock)
    | .dumped => (p, .ok)
    | _ => (p.enterDumped .dumpRequest, .ok)

/-! ### The guard enable (R159, R160) -/

/-- A disabled guard in SAFE, WATCH or RISK becomes OFF, demoting a heater of RISK (R159). -/
def Part.guardDisable (p : Part) : Part :=
  let was := p.clm.guard
  let q := { p with clm := { p.clm with guard := .off, hold := false, riskTimer := none, unknownTimer := 0 } }
  (if was = .risk then q.demoteHeater else q).heaterJudge

/-- An accepted write of the guard enable, with one FROST notice of cause SETTING for all that it brings about (R159; log 63). -/
def Part.guardEnableWritten (p : Part) : Part :=
  let before := p.clm.guard
  match before, p.params.guardEnabled with
  | .dumped, _ => p
  | .off, true => ((p.enterWatch.heaterJudge).guardSettle.1).postFrost before .setting
  | .off, false => p
  | _, false => p.guardDisable.postFrost before .setting
  | _, true => p

/-- Step 1 of the end of START: the guard settles to its loaded setting (R160), without a heater judgement of its own (log 44). -/
def Part.guardStart (p : Part) : Part :=
  match p.clm.guard, p.params.guardEnabled with
  | .dumped, _ => p
  | .off, true => p.enterWatch
  | .off, false => p
  | _, false => p.guardDisable
  | _, true => p

/-- CLM's part of the end of START (R160); a change of the guard posts one FROST notice, with cause START when step 1 changed it
(R148; log 44). -/
def Part.clmStart (p : Part) : Part :=
  let q := p.guardStart
  let r := (if q.clm.guard = .risk then q.promoteHeater else q).guardSettle
  (r.1.postGuard p.clm.guard (if q.clm.guard = p.clm.guard then r.2 else some .start)).evaluateThermostat

/-! ### Temperatures (R142) -/

/-- The cabin temperature is judged (R142). -/
def Part.cabinJudge (p : Part) : Part :=
  { p with clm := { p.clm with cabin := p.knownTemp .cabinTemp } }

/-- The bay temperature is judged known or unknown (R142); a known temperature zeroes the unknown timer (R149). -/
def Part.formBay (p : Part) : Part :=
  let t := p.knownTemp .bayTemp
  { p with clm := { p.clm with bay := t, unknownTimer := if t.isSome then 0 else p.clm.unknownTimer } }

/-- The bay temperature is judged, then the guard (R142). -/
def Part.bayJudge (p : Part) : Part := p.formBay.guardJudge

/-- A new valid value on the CABIN_TEMP line (R142). -/
def Part.cabinValue (p : Part) : Part :=
  ({ p with clm := { p.clm with cabinTimer := some p.staleLimit } }).cabinJudge

/-- A new valid value on the BAY_TEMP line (R142). -/
def Part.bayValue (p : Part) : Part :=
  ({ p with clm := { p.clm with bayTimer := some p.staleLimit } }).bayJudge

/-- The cabin temperature's countdown is formed anew from the value's age and the temperature judged (R142). -/
def Part.cabinRejudge (p : Part) : Part :=
  ({ p with clm := { p.clm with cabinTimer := p.staleFor .cabinTemp none } }).cabinJudge

/-- The bay temperature's countdown is formed anew from the value's age and the temperature judged (R142). -/
def Part.bayRejudge (p : Part) : Part :=
  ({ p with clm := { p.clm with bayTimer := p.staleFor .bayTemp none } }).bayJudge

/-- The expiry of a running staleness countdown (R142). -/
def Part.climateStale (p : Part) : ClimateTemp → Part
  | .cabin => if p.clm.cabinTimer.isSome then p.cabinRejudge else p
  | .bay => if p.clm.bayTimer.isSome then p.bayRejudge else p

/-- CLM's part of a mode change: the staleness countdowns under the new limit, both judgements (R142), and at the end of START
the steps of R160, whose third judges the guard. -/
def Part.clmModeEntry (p : Part) (before : Mode) : Part :=
  let q := { p with clm := { p.clm with
    cabinTimer := p.staleFor .cabinTemp none, bayTimer := p.staleFor .bayTemp none } }
  if before = .start then q.cabinJudge.formBay.clmStart else q.cabinJudge.bayJudge

/-- An accepted role write that gives or removes HEATER (R146); a promotion that stands is cleared without a notice (log 65). -/
def Part.heaterRoleChanged (p : Part) (before : Option LoadId) : Part :=
  let after := p.params.loadWith .heater
  if after = before then p
  else
    let q := match before with
      | some l => p.setLoad l { p.load l with promoted := false }
      | none => p
    match after with
    | none => q.setHeater .noHeater
    | some _ => (q.setHeater .idle).heaterJudge

/-- An accepted role write that gives FROST_VALVE (R151). -/
def Part.valveRoleChanged (p : Part) (before : Option LoadId) : Part :=
  if p.params.loadWith .frostValve = before ∨ p.clm.guard = .dumped then p else p.closeValve

end Sys2Proof.Machine
end

