-- ==== Sys2Proof/Machine/SensorLines.lean ====
section
/-! DEFINITION. The Sensor Line Interface's own operations: supply, crossings and learning, the three decodings, faults, control
and the storage duty cycle (R99 to R123). -/

namespace Sys2Proof.Machine

/-! ### Hand-overs to the role holders (R114) -/

/-- A change of a line's supply state is handed to its role holder (R99, R125, R33, R142). -/
def Part.handSupply (p : Part) (s : LineId) : Part :=
  let dark := (p.line s).supply == .off || (p.line s).supply == .fault
  match p.params.lineRole s with
  | .freshLevel => if dark then p.holdTank .fresh else p
  | .greyLevel => if dark then p.holdTank .grey else p
  | .cabinTemp => p.cabinJudge
  | .bayTemp => p.bayJudge
  | .battTemp => p.battTempJudge
  | _ => p

/-- A change of NODATA is handed to the role holder (R109, R125, R142). -/
def Part.handNodata (p : Part) (s : LineId) : Part :=
  match p.params.lineRole s with
  | .freshLevel => if (p.line s).nodata then p.holdTank .fresh else p
  | .greyLevel => if (p.line s).nodata then p.holdTank .grey else p
  | .cabinTemp => p.cabinJudge
  | .bayTemp => p.bayJudge
  | _ => p

/-- A valid datum is handed to the role holder (R107, R111, R112). -/
def Part.handValue (p : Part) (s : LineId) (v : LineValue) : Part :=
  match p.params.lineRole s, v with
  | .freshLevel, .level percent st => p.levelHanded .fresh percent st
  | .greyLevel, .level percent st => p.levelHanded .grey percent st
  | .flow, .rate n => p.flowRate n
  | .cabinTemp, .temp _ => p.cabinValue
  | .bayTemp, .temp _ => p.bayValue
  | .battTemp, .temp _ => p.battTempValue
  | _, _ => p

/-- A sender fault frame is handed to the role holder (R107, R128). -/
def Part.handSenderFault (p : Part) (s : LineId) : Part :=
  match tankOfRole (p.params.lineRole s) with
  | some t => p.senderFaultHanded t
  | none => p

/-! ### Latches (R115) -/

/-- Latch a line fault and post LINE_FAULT: the cause, all causes, the supply state, the role; a cause already latched does
nothing (R115). -/
def Part.latchLine (p : Part) (s : LineId) (cause : LineCause) : Part :=
  let r := p.line s
  if r.latched.has cause then p
  else
    let q := p.setLine s { r with latched := r.latched.add cause }
    q.post .lineFault s.val
      (n8 cause.code ++ n16 (q.line s).latched.bits ++ n8 r.supply.code ++ n8 (q.params.lineRole s).code)

/-! ### Thresholds and learning (R102 to R105) -/

/-- The limits of an amplitude code (R103). -/
def amplitudeLimits : Nat → Int × Int
  | 0 => (60, 80)
  | 1 => (50, 90)
  | 2 => (40, 100)
  | _ => (30, 110)

/-- The thresholds of the FIXED method (R102). -/
def fixedThresholds (f1 off : Nat) : Thresholds :=
  let t1 := 40 + f1
  let t2 := t1 + 40 + off
  ⟨t1, t2, t1 - 8, t2 - 8⟩

/-- The thresholds of the ADAPTIVE method (R103). -/
def adaptiveThresholds (ib a1 a2 : Int) : Thresholds :=
  let t1 := ib + a1.tdiv 2
  let t2 := ib + a1 + a2.tdiv 2
  ⟨t1.toNat, t2.toNat, (t1 - a1.tdiv 8).toNat, (t2 - a2.tdiv 8).toNat⟩

/-- The thresholds of a line derived anew by its method (R102, R103). -/
def LineRec.derived (r : LineRec) (ps : Pages) (s : LineId) : LineRec :=
  { r with thr :=
      if ps.adaptive s then adaptiveThresholds r.ib r.a1 r.a2
      else fixedThresholds (ps.lineField s 5) (ps.lineField s 6) }

/-- The learned values at their initial values, saturation flags clear (R103). -/
def LineRec.initial (r : LineRec) (ps : Pages) (s : LineId) : LineRec :=
  ({ r with ib := ps.lineField s 7, a1 := 70, a2 := 70, baseSat := false, a1Sat := false, a2Sat := false }).derived ps s

/-- Whether a clamp acts. -/
def outside (lo hi x : Int) : Bool := decide (x < lo) || decide (hi < x)

/-- IB learns the mean of a base window (R104). -/
def LineRec.learnBase (r : LineRec) (ps : Pages) (s : LineId) (mean : Nat) : LineRec :=
  if ps.adaptive s then
    let lo : Int := ps.lineField s 7
    let hi : Int := lo + ps.lineField s 8
    let x := learnStep r.ib mean 8
    ({ r with ib := clampInt lo hi x, baseSat := outside lo hi x }).derived ps s
  else r

/-- A1 learns the plateau mean of a tier-1 pulse (R105). -/
def LineRec.learnA1 (r : LineRec) (ps : Pages) (s : LineId) (mean : Nat) : LineRec :=
  if ps.adaptive s then
    let lim := amplitudeLimits (ps.lineField s 9)
    let x := learnStep r.a1 (mean - r.ib) 4
    ({ r with a1 := clampInt lim.1 lim.2 x, a1Sat := outside lim.1 lim.2 x }).derived ps s
  else r

/-- A2 learns the plateau mean of a sync pulse (R105). -/
def LineRec.learnA2 (r : LineRec) (ps : Pages) (s : LineId) (mean : Nat) : LineRec :=
  if ps.adaptive s then
    let lim := amplitudeLimits (ps.lineField s 10)
    let x := learnStep r.a2 (mean - r.ib - r.a1) 4
    ({ r with a2 := clampInt lim.1 lim.2 x, a2Sat := outside lim.1 lim.2 x }).derived ps s
  else r

/-! ### Supply (R99) -/

/-- The line is powered (R99). -/
def LineRec.powered (r : LineRec) : Bool := r.supply == .settling || r.supply == .on

/-- Entering SETTLING starts the countdown and the windows (R99, R101). -/
def LineRec.settling (r : LineRec) : LineRec := { r with supply := .settling, settle := some 20, windowBase := true }

/-- Leaving SETTLING or ON for OFF or FAULT: the countdown stops, a frame or pulse in progress is abandoned (R99, R112). -/
def LineRec.unpowered (r : LineRec) (w : Supply) : LineRec :=
  { r with
    supply := w, settle := none, rateTimer := none, pulse := none, sync := none, frame := none, widthStart := none,
    overflow := false }

/-- The expiry of the settling countdown: ON, the level state at BASE, the PULSE timers restarted (R99, R112). -/
def LineRec.settled (r : LineRec) (mode : LineMode) : LineRec :=
  let q : LineRec := { r with supply := .on, settle := none, level := .base, windowBase := true, openTimer := 0 }
  if mode = .pulse then { q with rateTimer := some 1000, standstillTimer := 0, secondCount := 0 } else q

/-- What shows of a line's current: it is held as last observed (log 29), and a `peak` of 2 mA or more, seen while the line is ON,
sets the open timer to 0 (R117). -/
def LineRec.observed (r : LineRec) (current peak : Nat) : LineRec :=
  { r with current := current, openTimer := if r.supply = .on ∧ 20 ≤ peak then 0 else r.openTimer }

/-- The line enters SETTLING, handed over (R99). -/
def Part.settleLine (p : Part) (s : LineId) : Part := (p.setLine s (p.line s).settling).handSupply s

/-- The line is unpowered, handed over (R99). -/
def Part.darkenLine (p : Part) (s : LineId) (w : Supply) : Part := (p.setLine s ((p.line s).unpowered w)).handSupply s

/-- The expiry of the running settling countdown (R99). -/
def Part.lineSettled (p : Part) (s : LineId) : Part :=
  if (p.line s).supply = .settling then
    (p.setLine s ((p.line s).settled (p.params.lineMode s))).handSupply s
  else p

/-- A duty line: enabled, with one of the three temperature roles (R122). -/
def Part.isDuty (p : Part) (s : LineId) : Bool :=
  (p.line s).enabled &&
    (match p.params.lineRole s with
      | .cabinTemp => true
      | .bayTemp => true
      | .battTemp => true
      | _ => false)

/-- STORAGE holds the line unpowered (R122). -/
def Part.heldByStorage (p : Part) (s : LineId) : Bool :=
  p.mdc.mode == .storage && !(p.isDuty s && p.sli.windowTimer.isSome)

/-! ### Valid data (R107, R109) -/

/-- A value stored as valid: age and no-data timer at 0, NODATA clear (R107, R109). -/
def LineRec.stored (r : LineRec) (v : LineValue) (clamped : Bool) : LineRec :=
  { r with value := some v, age := some 0, nodataTimer := 0, nodata := false, clampedValue := clamped }

/-- A valid datum: record, latch when clamped, hand-over (R107, R111, R114). -/
def Part.storeValue (p : Part) (s : LineId) (v : LineValue) (clamped : Bool) : Part :=
  let q := p.setLine s ((p.line s).stored v clamped)
  (if clamped then q.latchLine s .outOfRange else q).handValue s v

/-! ### LEVEL frames (R106 to R108) -/

/-- The number that slots spell, the first slot least significant (R106). -/
def slotsValue (slots : List Bool) : Nat := flagBits slots

/-- The judgement of a complete frame (R107). -/
def Part.judgeFrame (p : Part) (s : LineId) (slots : List Bool) : Part :=
  let q := p.setLine s { p.line s with frame := none, bits := 10, complete := true }
  let level := slotsValue (slots.take 7)
  let status := slotsValue ((slots.drop 7).take 2)
  if (slots.count true) % 2 = 1 then q.latchLine s .invalid
  else if 2 ≤ status ∨ level = 127 then
    ((q.setLine s { q.line s with lastFault := true }).latchLine s .senderFault).handSenderFault s
  else
    let st : SenderStatus := if status = 1 then .drift else .ok
    let q := q.setLine s { q.line s with lastFault := false }
    if 100 < level then q.storeValue s (.level 100 st) true else q.storeValue s (.level level st) false

/-- A slot sample of the frame under way on a LEVEL line that is ON (R106). -/
def Part.slotSample (p : Part) (s : LineId) (current : Nat) : Part :=
  match (p.line s).frame with
  | some slots =>
    let slots := slots ++ [decide ((p.line s).thr.fall1 < current)]
    let q := p.setLine s { (p.line s).observed current current with frame := some slots }
    if 10 ≤ slots.length then q.judgeFrame s slots else q
  | none => p

/-- A sync is recognized: its stay in TIER2, whose start was seen, has reached 40 µs; a frame under way is truncated (R100,
R108). -/
def LineRec.synced (r : LineRec) : LineRec :=
  match r.sync with
  | none => r
  | some _ =>
    match r.frame with
    | some slots => { r with sync := some true, frame := none, bits := slots.length, complete := false }
    | none => { r with sync := some true }

/-! ### WIDTH and PULSE (R110 to R112) -/

/-- A completed width measurement in counts of 5 µs (R111). -/
def Part.widthMeasured (p : Part) (s : LineId) (count : Nat) : Part :=
  let q := p.setLine s { p.line s with width := some count }
  let clamped := if count < 80 then 80 else if 410 < count then 410 else count
  q.storeValue s (.temp ((clamped : Int) - 160)) (clamped != count)

/-- A pulse of a PULSE line (R112). -/
def Part.pulseCounted (p : Part) (s : LineId) : Part :=
  let r := p.line s
  let q := p.setLine s { r with
    pulseTotal := r.pulseTotal + 1, secondCount := r.secondCount + 1, standstillTimer := 0, standstill := false }
  if q.params.lineRole s = .flow then q.flowPulse else q

/-- The expiry of the running rate countdown (R112). -/
def Part.rateExpired (p : Part) (s : LineId) : Part :=
  let r := p.line s
  if r.rateTimer.isSome then
    let v : LineValue := .rate r.secondCount
    (p.setLine s { r with
      value := some v, age := some 0, secondCount := 0, rateTimer := some 1000, clampedValue := false }).handValue s v
  else p

/-- The standstill time is reached on a PULSE line that is ON (R112). -/
def Part.standstillAt (p : Part) (s : LineId) : Part :=
  let r := p.line s
  if p.params.lineMode s = .pulse ∧ r.supply = .on then
    p.setLine s { r with standstill := true, standstillTimer := max r.standstillTimer p.params.standstillMs }
  else p

/-! ### Crossings (R100) -/

/-- A rising crossing shows a current above its threshold (log 29; R117). -/
def LineRec.raised (r : LineRec) (threshold : Nat) : LineRec :=
  let current := max r.current (threshold + 1)
  { r.observed current current with windowBase := false }

/-- A falling crossing shows a current no longer above its threshold, and the mean of the plateau that it ends (log 29; R117). -/
def LineRec.lowered (r : LineRec) (threshold mean : Nat) : LineRec := r.observed (min r.current threshold) mean

/-- BASE to TIER1: the start of a pulse, and of a width measurement on a WIDTH line (R100, R110, R112). -/
def Part.enterTier1 (p : Part) (s : LineId) (date : Nat) : Part :=
  let r := (p.line s).raised (p.line s).thr.t1
  let q := p.setLine s { r with
    level := .tier1, pulse := some false
    widthStart := if p.params.lineMode s = .width then some date else none }
  if q.params.lineMode s = .pulse then q.pulseCounted s else q

/-- TIER1 to TIER2: the start of a stay that may be a sync (R100). -/
def LineRec.enterTier2 (r : LineRec) : LineRec :=
  { r.raised r.thr.t2 with level := .tier2, pulse := r.pulse.map fun _ => true, sync := some false }

/-- The end of a stay in TIER2: a recognized sync teaches A2 and starts a frame on a LEVEL line (R105, R106). -/
def LineRec.leaveTier2 (r : LineRec) (ps : Pages) (s : LineId) (mean : Nat) : LineRec :=
  let r := r.lowered r.thr.fall2 mean
  if r.sync = some true ∧ ps.lineMode s = .level then
    { r.learnA2 ps s mean with level := .tier1, sync := none, frame := some [] }
  else { r with level := .tier1, sync := none }

/-- The return to BASE: a tier-1 pulse teaches A1, and a width measurement ends (R105, R110). -/
def Part.enterBase (p : Part) (s : LineId) (date mean : Nat) : Part :=
  let r := (p.line s).lowered (p.line s).thr.fall1 mean
  let r' := if r.pulse = some false then r.learnA1 p.params s mean else r
  let q := p.setLine s { r' with level := .base, pulse := none, sync := none, widthStart := none, overflow := false }
  match r.widthStart with
  | some start => q.widthMeasured s (min 511 ((date - start) / 5))
  | none => q

/-- A current already above T1, or T2, as the line becomes ON: the level state without a pulse or sync whose start was seen
(R99; log 30). -/
def LineRec.highAtOn (r : LineRec) (tier2 : Bool) : LineRec :=
  { r.raised (if tier2 then r.thr.t2 else r.thr.t1) with
    level := if tier2 then .tier2 else .tier1, pulse := none, sync := none, widthStart := none }

/-- A recognized crossing moves the level state of an ON line (R100). -/
def Part.crossing (p : Part) (s : LineId) (c : Crossing) (date mean : Nat) : Part :=
  let r := p.line s
  if r.supply ≠ .on then p
  else
    match r.level, c with
    | .base, .risingT1 => p.enterTier1 s date
    | .base, .highAtOn tier2 => p.setLine s (r.highAtOn tier2)
    | .tier1, .risingT2 => p.setLine s r.enterTier2
    | .tier1, .fallingT1 => p.enterBase s date mean
    | .tier2, .fallingT2 => p.setLine s (r.leaveTier2 p.params s mean)
    | .tier2, .fallingT1 => (p.setLine s (r.leaveTier2 p.params s mean)).enterBase s date mean
    | _, _ => p

/-- 2,555 µs have passed in a width measurement (R110). -/
def Part.widthOverflow (p : Part) (s : LineId) : Part :=
  match (p.line s).widthStart with
  | some _ => (p.setLine s { p.line s with widthStart := none, overflow := true }).latchLine s .pulseOverflow
  | none => p

/-! ### Windows and supply faults (R101, R116 to R118) -/

/-- The current-high counter after a window of an ON line (R117). -/
def highCounted (count mean : Nat) : Nat := if 400 < mean then min 16 (count + 1) else count - 1

/-- The end of a window of a SETTLING or ON line: base learning, then the CURRENT_HIGH check of an ON line; a mean or a current of
2 mA or more sets the open timer of an ON line to 0 (R101, R104, R117). -/
def Part.windowEnd (p : Part) (s : LineId) (mean current : Nat) : Part :=
  let r := p.line s
  if r.powered then
    let r' := if r.supply = .settling ∨ r.windowBase then r.learnBase p.params s mean else r
    let r' := { r'.observed current (max current mean) with windowMean := mean, windowBase := r'.level == .base }
    if r.supply = .on then
      let count := highCounted r.highCount mean
      let q := p.setLine s { r' with highCount := count }
      if 16 ≤ count then q.latchLine s .currentHigh else q
    else p.setLine s r'
  else p

/-- A supply fault: record, latch, hand-over in that order; a powered line becomes FAULT (R114, R116, R118). -/
def Part.supplyFault (p : Part) (s : LineId) (cause : LineCause) : Part :=
  if (p.line s).powered then
    ((p.setLine s ((p.line s).unpowered .fault)).latchLine s cause).handSupply s
  else p.latchLine s cause

/-- A current above 60 mA held for 200 µs on a powered line, which is above 2 mA too (R116, R117). -/
def Part.shortToGround (p : Part) (s : LineId) (current : Nat) : Part :=
  if (p.line s).powered ∧ 600 < current then
    (p.setLine s ((p.line s).observed current current)).supplyFault s .shortGnd
  else p

/-- The line voltage over the rail is judged (R116; log 28). -/
def Part.shortToBattery (p : Part) (s : LineId) (overRail : Int) : Part :=
  let q := p.setLine s { p.line s with overRail := overRail }
  if 500 < overRail then q.supplyFault s .shortBat else q

/-- The open timer reaches 20 ms on an ON line below 2 mA (R117). -/
def Part.openReached (p : Part) (s : LineId) : Part :=
  if (p.line s).supply = .on ∧ (p.line s).current < 20 then
    (p.setLine s { p.line s with openTimer := 20 }).latchLine s .openWire
  else p

/-- The shared driver's temperature warning is raised: line by line, each with its latch, notice and supply change (R118, R114;
log 57). -/
def Part.linesHot (p : Part) : Part :=
  (List.finRange 6).foldl (fun q s => q.supplyFault s .hot) { p with sli := { p.sli with driverHot := true } }

/-- The warning is withdrawn, which changes no line (R118). -/
def Part.linesCool (p : Part) : Part := { p with sli := { p.sli with driverHot := false } }

/-! ### NODATA (R109) -/

/-- The no-data limit of a line in ms (R109, R122). -/
def Part.nodataLimit (p : Part) (s : LineId) : Nat :=
  if p.mdc.mode = .storage ∧ p.isDuty s then 2 * p.params.dutyMs else 1000

/-- NODATA applies: an enabled LEVEL or WIDTH line (R109). -/
def Part.usesNodata (p : Part) (s : LineId) : Bool := (p.line s).enabled && p.params.lineMode s != .pulse

/-- The no-data limit is reached on a line that uses NODATA (R109). -/
def Part.nodataAt (p : Part) (s : LineId) : Part :=
  if p.usesNodata s then
    let q := p.setLine s { p.line s with nodata := true, nodataTimer := max (p.line s).nodataTimer (p.nodataLimit s) }
    if (p.line s).nodata then q else q.handNodata s
  else p

/-- NODATA of every line is judged against a changed limit (R109). -/
def Part.nodataJudge (p : Part) : Part :=
  (List.finRange 6).foldl
    (fun q s => if decide (q.nodataLimit s ≤ (q.line s).nodataTimer) && !(q.line s).nodata then q.nodataAt s else q) p

/-! ### LINE_GET and LINE_CONTROL (R119, R120) -/

/-- Whether the condition of a latched cause is present (R119). -/
def Part.lineCondition (p : Part) (s : LineId) : LineCause → Bool
  | .shortGnd => (p.line s).powered && decide (600 < (p.line s).current)
  | .shortBat => decide (500 < (p.line s).overRail)
  | .openWire => (p.line s).supply == .on && decide ((p.line s).current < 20)
  | .currentHigh => (p.line s).supply == .on && decide (400 < (p.line s).windowMean)
  | .hot => p.sli.driverHot
  | .invalid => false
  | .pulseOverflow => (p.line s).overflow
  | .outOfRange => (p.line s).clampedValue
  | .senderFault => (p.line s).lastFault

/-- The latches that a clear leaves on a line (R119). -/
def Part.keptLineLatches (p : Part) (s : LineId) : LineLatches :=
  let x := (p.line s).latched
  let keep := fun c => x.has c && p.lineCondition s c
  ⟨keep .shortGnd, keep .shortBat, keep .openWire, keep .currentHigh, keep .hot, keep .invalid, keep .pulseOverflow,
    keep .outOfRange, keep .senderFault⟩

/-- A clear of one line (R119). -/
def Part.clearLine (p : Part) (s : LineId) : Part :=
  let r := p.line s
  let kept := p.keptLineLatches s
  p.setLine s { r with
    latched := kept
    openTimer := if r.latched.openWire && !kept.openWire then 0 else r.openTimer
    highCount := if r.latched.currentHigh && !kept.currentHigh then 0 else r.highCount }

/-- What a disable clears (R120). -/
def LineRec.disabled (r : LineRec) : LineRec :=
  { r.unpowered .off with
    enabled := false, value := none, age := none, width := none, bits := 0, complete := false, pulseTotal := 0
    secondCount := 0, nodata := false, standstill := false, nodataTimer := 0, standstillTimer := 0, openTimer := 0
    highCount := 0, clampedValue := false }

/-- A line is enabled, or taken out of FAULT: learned values initialized, SETTLING unless STORAGE holds it (R120). -/
def Part.powerLine (p : Part) (s : LineId) : Part :=
  let q := p.setLine s ((p.line s).initial p.params s)
  if q.heldByStorage s then q.darkenLine s .off else q.settleLine s

/-- LINE_CONTROL ON refused: a supply fault is latched (R120). -/
def LineRec.controlFaulted (r : LineRec) : Bool := r.latched.shortGnd || r.latched.shortBat || r.latched.hot

/-- An accepted LINE_CONTROL ON: the four rows of R120. DESIGN CHOICE: one that finds the line SETTLING, ON or held by STORAGE keeps
the learned values, as those rows have it, though R103 initializes them at each accepted ON (log 74). -/
def Part.lineOn (p : Part) (s : LineId) : Part :=
  let q := p.writeSetting 5 (11 * s.val) 1
  let r := q.line s
  if !r.enabled then (q.setLine s { r with enabled := true, nodataTimer := 0 }).powerLine s
  else if r.supply = .fault then q.powerLine s
  else q

/-- An accepted LINE_CONTROL OFF (R120). -/
def Part.lineOff (p : Part) (s : LineId) : Part :=
  let q := p.writeSetting 5 (11 * s.val) 0
  (q.setLine s (q.line s).disabled).handSupply s

/-- The start-up enable of a line whose stored enable is set (R124). -/
def Part.startLine (p : Part) (s : LineId) : Part :=
  let q := p.setLine s ((p.line s).initial p.params s)
  if q.params.lineEnable s then (q.setLine s { q.line s with enabled := true }).settleLine s else q

/-! ### The storage duty cycle (R122, R123) -/

/-- A duty line that is OFF goes to SETTLING (R122). -/
def Part.openDuty (p : Part) (s : LineId) : Part :=
  if p.isDuty s ∧ (p.line s).supply = .off then p.settleLine s else p

/-- The expiry of the running window countdown (R122). -/
def Part.windowExpired (p : Part) : Part :=
  if p.sli.windowTimer.isSome then
    (List.finRange 6).foldl (fun q s => if q.isDuty s ∧ (q.line s).powered then q.darkenLine s .off else q)
      { p with sli := { p.sli with windowTimer := none } }
  else p

/-- The duty countdown is loaded and a window opens (R122). -/
def Part.loadDuty (p : Part) : Part :=
  { p with sli := { p.sli with dutyTimer := some p.params.dutyMs, windowTimer := some 500 } }

/-- The expiry of the running duty countdown (R122). -/
def Part.dutyExpired (p : Part) : Part :=
  if p.sli.dutyTimer.isSome then (List.finRange 6).foldl Part.openDuty p.loadDuty else p

/-- A line at the entry to STORAGE (R122). -/
def Part.storageLine (p : Part) (s : LineId) : Part :=
  if p.isDuty s then p.openDuty s
  else if (p.line s).enabled ∧ (p.line s).powered then p.darkenLine s .off
  else p

/-- An enabled line that is OFF goes to SETTLING as STORAGE is left (R123). -/
def Part.resumeLine (p : Part) (s : LineId) : Part :=
  if (p.line s).enabled ∧ (p.line s).supply = .off then p.settleLine s else p

/-- SLI's part of a mode change (R122, R123, R109). -/
def Part.sliModeEntry (p : Part) (before : Mode) : Part :=
  let q :=
    if p.mdc.mode = .storage then (List.finRange 6).foldl Part.storageLine p.loadDuty
    else if before = .storage then
      (List.finRange 6).foldl Part.resumeLine { p with sli := { p.sli with dutyTimer := none, windowTimer := none } }
    else p
  q.nodataJudge

end Sys2Proof.Machine
end

