-- ==== Sys2Proof/Machine/LightLevels.lean ====
section
/-! DEFINITION. The Light Unit over the Load Manager: a level set, scenes and the courtesy light (R181, R183 to R186). -/

namespace Sys2Proof.Machine

/-- A level as LIGHT_SET takes it (R181). -/
def clampLevel (level : Nat) : Nat := min 1000 level

/-- A fade time as LIGHT_SET and SCENE_RECALL take it (R181, R183). -/
def clampFade (fade : Nat) : Nat := min 10000 fade

/-- The target of a light channel is written. -/
def Part.setTarget (p : Part) (c : LightId) (target : Nat) : Part := p.setLight c { p.light c with target := target }

/-- A level set with a fade time, up to the Load Manager's answer (R181). -/
def Part.levelDemand (p : Part) (c : LightId) (level fade : Nat) : Part × Status :=
  let l := lightLoad c
  if (p.load l).state = .exercised then (p, .exerciseActive)
  else if level = 0 then
    if (p.load l).wanted then (((p.wantedOff l).setTarget c 0).startFade c 0 fade, .ok) else (p, .ok)
  else
    let r := p.lightDemand c level
    match r.2 with
    | .ok => ((r.1.setTarget c level).startFade c level fade, .ok)
    | .shed => (r.1.setTarget c level, .shed)
    | e => (r.1, e)

/-- A courtesy timer is stopped. -/
def Part.stopCourtesy (p : Part) (c : LightId) : Part := p.setLight c { p.light c with courtesy := none }

/-- The level of a channel is set as LIGHT_SET does; an answer of OK or SHED stops the courtesy timer (R181). -/
def Part.setLevel (p : Part) (c : LightId) (level fade : Nat) : Part × Status :=
  let r := p.levelDemand c level fade
  if r.2 = .ok ∨ r.2 = .shed then (r.1.stopCourtesy c, r.2) else r

/-- The channels of a scene in order, with each channel's answer (R183). -/
def Part.recallFrom (p : Part) (scene fade : Nat) : List LightId → Part × List Status
  | [] => (p, [])
  | c :: rest =>
    let r := p.setLevel c (p.params.sceneLevel scene c) fade
    let t := r.1.recallFrom scene fade rest
    (t.1, r.2 :: t.2)

/-- A scene is stored from the six targets (R184). -/
def Part.storeScene (p : Part) (scene : Nat) : Part :=
  (List.finRange 6).foldl
    (fun q c => q.writeSetting 9 (6 * scene + c.val) (BitVec.ofNat 16 (q.light c).target)) p

/-- The light channel with the role STEP_LIGHT (R185). -/
def Part.stepLight (p : Part) : Option LightId :=
  (List.finRange 6).find? fun c => p.params.role (lightLoad c) == .stepLight

/-- The courtesy timer of a channel starts with 120 s (R185). -/
def Part.startCourtesy (p : Part) (c : LightId) : Part := p.setLight c { p.light c with courtesy := some 120000 }

/-- The step has entered EXTENDED (R185). -/
def Part.courtesyStep (p : Part) : Part :=
  match p.stepLight with
  | none => p
  | some c =>
    let level := p.params.courtesyLevel
    if level = 0 then p
    else if (p.light c).courtesy.isSome then p.startCourtesy c
    else if level ≤ (p.light c).target then p
    else
      let r := p.levelDemand c level 1000
      if r.2 = .ok ∨ r.2 = .shed then r.1.startCourtesy c else r.1

/-- The expiry of a running courtesy timer on the STEP_LIGHT channel (R186). -/
def Part.courtesyExpired (p : Part) : Part :=
  match p.stepLight with
  | none => p
  | some c =>
    if (p.light c).courtesy.isSome then
      (((p.stopCourtesy c).wantedOff (lightLoad c)).setTarget c 0).startFade c 0 1000
    else p

end Sys2Proof.Machine
end

