-- ==== Sys2Proof/Machine/Modes.lean ====
section
/-! DEFINITION. Mode Control's own operations: the delivery of reports between blocks (log 6), mode changes, the end of START and
the debounced signals (R189 to R197). -/

namespace Sys2Proof.Machine

/-! ### Reports between blocks (log 6) -/

/-- The receiving block takes one report as one event. -/
def Part.takeReport (p : Part) : Report → Part
  | .motorCut a => p.motorReported a .cut
  | .motorFaulted a => p.motorReported a .tripped
  | .valveFaulted => p.valveTripped
  | .padCleared => p.padFaultCleared
  | .tripped l => p.loadTrip l
  | .stepExtended => p.courtesyStep

/-- Reports are taken oldest first until none is left, at most `fuel` of them (log 6). -/
def Part.deliver : Nat → Part → Part
  | 0, p => { p with outbox := [] }
  | fuel + 1, p =>
    match p.outbox with
    | [] => p
    | r :: rest => (({ p with outbox := rest }).takeReport r).deliver fuel

/-- The reports of an event are delivered (log 6). -/
def Part.delivered (p : Part) : Part := p.deliver 64

/-! ### Mode changes (R194, R196, R199) -/

/-- The causes of a MODE notice (R196). -/
inductive ModeCause | startDone | request | dplus
  deriving DecidableEq, Repr

/-- START_DONE, REQUEST, DPLUS (R199). -/
def ModeCause.code : ModeCause → Nat
  | .startDone => 0
  | .request => 1
  | .dplus => 2

/-- The storage resume flag after a change of mode: set into STORAGE, cleared out of it (R196; log 26). -/
def resumeAfter (before after : Mode) (was : Bool) : Bool :=
  if after = .storage then true else if before = .storage then false else was

/-- A mode change, handed to every block with the reports between them, then the resume flag and the MODE notice (R196, R199;
logs 6, 22). -/
def Part.setMode (p : Part) (after : Mode) (cause : ModeCause) : Part :=
  let before := p.mdc.mode
  let q := { p with mdc := { p.mdc with mode := after } }
  let q := (((q.ldmModeEntry after).chgModeEntry).outModeEntry after).sliModeEntry before
  let q := ((q.clmModeEntry before).motModeEntry before after).delivered
  let q := { q with mdc := { q.mdc with resume := resumeAfter before after q.mdc.resume } }
  q.post .mode 0 (n8 before.code ++ n8 after.code ++ n8 cause.code ++ q.progressStates)

/-- The mode in which START ends: STORAGE with the resume flag set and D+ inactive, ACTIVE otherwise (R194). -/
def Part.modeAfterStart (p : Part) : Mode := if p.mdc.resume && !p.dplus then .storage else .active

/-- START ends in the event that sets the second done mark (R194). -/
def Part.startDone (p : Part) : Part :=
  if p.mdc.mode = .start ∧ p.mdc.bankDone ∧ p.mdc.zeroDone then p.setMode p.modeAfterStart .startDone else p

/-- The Bank Monitor reports its START calibration done (R193). -/
def Part.bankCalibrated (p : Part) : Part :=
  if p.mdc.mode = .start then ({ p with mdc := { p.mdc with bankDone := true } }).startDone else p

/-- The Output Monitor reports its zero calibration done (R193). -/
def Part.zeroCalibrated (p : Part) : Part := ({ p with mdc := { p.mdc with zeroDone := true } }).startDone

/-! ### Debounced signals (R189, R191) -/

/-- The debounce time of a signal in ms (R189). -/
def debounceMs : Signal → Nat
  | .dplus => 500
  | .handbrake => 200
  | .mainsOk => 2000
  | _ => 20

/-- A change of the raw level restarts the debounce timer (R189). -/
def Part.rawChanged (p : Part) (x : Signal) (level : Bool) : Part :=
  if (p.signal x).raw = level then p else p.setSignal x { p.signal x with raw := level, timer := 0 }

/-- The parked flag is handed to the Water Unit when it has become set (R191, R127). -/
def Part.parkedHanded (p : Part) (was : Bool) : Part := if p.parked && !was then p.watParked else p

/-- D+ has changed (R189, R196; log 23); what CHG's actions report is taken before the drive-off (log 6), which may start the axis
of a motion cut by it anew (R176). -/
def Part.dplusChanged (p : Part) (wasParked : Bool) : Part :=
  let c := p.chgDplus.delivered
  let q := if c.dplus ∧ c.mdc.mode = .storage then c.setMode .active .dplus else c
  let q := q.parkedHanded wasParked
  if q.dplus ∧ q.mdc.mode ≠ .start then (q.driveOff .dplus).restatedOf (p.endedSince c) else q

/-- The handbrake has changed (R189, R191). -/
def Part.handbrakeChanged (p : Part) (wasParked : Bool) : Part :=
  let q := p.parkedHanded wasParked
  if !q.handbrake ∧ q.mdc.mode ≠ .start then q.driveOff .handbrake else q

/-- A debounced change is handed to the blocks that act on it (R189). -/
def Part.signalHanded (p : Part) (x : Signal) (wasParked : Bool) : Part :=
  match x with
  | .dplus => p.dplusChanged wasParked
  | .handbrake => p.handbrakeChanged wasParked
  | .mainsOk => p.chgMains
  | .awnIn => p.switchEvent .awn false (p.inSwitch .awn)
  | .awnOut => p.switchEvent .awn true (p.outSwitch .awn)
  | .stepIn => p.switchEvent .step false (p.inSwitch .step)
  | .stepOut => p.switchEvent .step true (p.outSwitch .step)

/-- The debounce timer of a signal reaches its debounce time (R189). -/
def Part.debounced (p : Part) (x : Signal) : Part :=
  let r := p.signal x
  let q := p.setSignal x { r with deb := r.raw, timer := debounceMs x }
  if r.raw = r.deb then q else q.signalHanded x p.parked

/-! ### MODE_SET (R197) -/

/-- The answer of MODE_SET after its argument: OK for the present mode, else the first refusal (R197). -/
def Part.modeSetRefusal (p : Part) (m : Mode) : Option Status :=
  if p.mdc.mode = .start then some .starting
  else if m = p.mdc.mode then none
  else if p.mdc.mode = .service ∧ p.out.exercise.isSome then some .exerciseActive
  else if (m = .storage ∧ p.mdc.mode = .service) ∨ (m = .service ∧ p.mdc.mode = .storage) then some .wrongMode
  else if m = .storage ∧ p.dplus then some .interlock
  else if m = .service ∧ !p.parked then some .interlock
  else none

/-- MODE_SET after its argument (R197). -/
def Part.modeAsked (p : Part) (m : Mode) : Part × Status :=
  match p.modeSetRefusal m with
  | some e => (p, e)
  | none => if m = p.mdc.mode then (p, .ok) else (p.setMode m .request, .ok)

end Sys2Proof.Machine
end

