-- ==== Sys2Proof/Machine/ParamWrite.lean ====
section
/-! DEFINITION. Writes of parameters: the checks of WRITE_PARAM in their order, the application of a page's values with the
consequences that each chapter gives, and LOAD_DEFAULTS (R205, R206, R208). -/

namespace Sys2Proof.Machine

/-- The index and value pairs that a write names. -/
abbrev Writes := List (Nat × Word)

/-- The pairs of a start index and its values. -/
def writesFrom : Nat → List Word → Writes
  | _, [] => []
  | i, v :: vs => (i, v) :: writesFrom (i + 1) vs

/-- The pages as they would stand after a write (R206). -/
def Pages.written (ps : Pages) (page : Nat) (ws : Writes) : Pages :=
  ws.foldl (fun q w => q.set page w.1 w.2) ps

/-! ### Checks (R206) -/

/-- Steps 1: an index beyond the page or read only (R206). -/
def badIndex (page idx : Nat) : Bool :=
  match paramSpec page idx with
  | none => true
  | some sp => sp.cls == .readOnly

/-- Step 3: an index written by a request (R206). -/
def requestIndex (page idx : Nat) : Bool := (paramSpec page idx).any (·.cls == .byRequest)

/-- The load of an index of page 3. -/
def loadOfIndex (idx : Nat) : Option LoadId := if h : idx / 6 < 20 then some ⟨idx / 6, h⟩ else none

/-- The line of an index of page 5. -/
def lineOfIndex (idx : Nat) : Option LineId := if h : idx / 11 < 6 then some ⟨idx / 11, h⟩ else none

/-- Step 4: the refusal of a value by its class (R206). -/
def Part.classRefusal (p : Part) (page idx : Nat) : Option Status :=
  match (paramSpec page idx).map ParamSpec.cls with
  | some .parked => if p.parked then none else some .interlock
  | some .offlineLoad =>
    match loadOfIndex idx with
    | some l => if (p.load l).state = .off then none else some .loadActive
    | none => none
  | some .offlineLine =>
    match lineOfIndex idx with
    | some s => if (p.line s).enabled then some .lineEnabled else none
    | none => none
  | _ => none

/-- A broken cross check: the status it gives and the indices it involves. -/
structure Break where
  status : Status
  indices : List Nat

/-- A break when a condition holds. -/
def breakIf (c : Bool) (st : Status) (indices : List Nat) : List Break := if c then [⟨st, indices⟩] else []

/-- The breaks of an OCV table: voltages strictly ascending, states of charge non-decreasing (R14). -/
def ocvBreaks (ps : Pages) (base : Nat) : List Break :=
  (List.range 7).flatMap fun i =>
    let v := base + 2 * i
    breakIf (decide (ps.nat 1 (v + 2) ≤ ps.nat 1 v)) .range [v, v + 2] ++
      breakIf (decide (ps.nat 1 (v + 3) < ps.nat 1 (v + 1))) .range [v + 1, v + 3]

/-- The breaks of a tank table over its points in use, in each of which the point count takes part (R140; log 18). -/
def tankBreaks (ps : Pages) (base : Nat) : List Break :=
  (List.range (ps.nat 6 base - 1)).flatMap fun i =>
    let l := base + 1 + 2 * i
    breakIf (decide (ps.nat 6 (l + 2) ≤ ps.nat 6 l)) .range [base, l, l + 2] ++
      breakIf (decide (ps.nat 6 (l + 3) < ps.nat 6 (l + 1))) .range [base, l + 1, l + 3]

/-- The loads that hold a role code. -/
def holdersOf (ps : Pages) (code : Nat) : List LoadId :=
  (List.finRange 20).filter fun l => ps.nat 3 (6 * l.val + 3) == code

/-- The breaks of the unique roles of loads (R45). -/
def roleBreaks (ps : Pages) : List Break :=
  [1, 2, 3, 4, 5].flatMap fun code =>
    let held := holdersOf ps code
    breakIf (decide (1 < held.length)) .range (held.map fun l => 6 * l.val + 3)

/-- The loads counted for a bus: home bus, class 2 to 4, neither a motor nor the frost valve (R46). -/
def countedLoads (ps : Pages) (b : Bank) : List LoadId :=
  (List.finRange 20).filter fun l =>
    ps.homeBank l == b && decide (2 ≤ ps.loadClass l) && ps.role l != .motor && ps.role l != .frostValve

/-- The changed indices by which loads enter the count of a bus: class, home bus or role of a load counted in `ps` and not in
`old` (R46). -/
def enteringIndices (old ps : Pages) (b : Bank) : List Nat :=
  (((countedLoads ps b).filter fun l => !(countedLoads old b).contains l).flatMap fun l =>
    [6 * l.val, 6 * l.val + 1, 6 * l.val + 3]).filter fun i => ps.nat 3 i != old.nat 3 i

/-- The breaks of the bus count (R46), also of a bus that stood over it before the write (log 60). -/
def countBreaks (old ps : Pages) : List Break :=
  [Bank.A, Bank.B].flatMap fun b =>
    breakIf (decide (16 < (countedLoads ps b).length)) .busFull (enteringIndices old ps b)

/-- The breaks of a bus's floors (R76). -/
def floorBreaks (ps : Pages) (base : Nat) : List Break :=
  breakIf (decide (ps.nat 4 (base + 1) < ps.nat 4 base)) .range [base, base + 1] ++
    breakIf (decide (ps.nat 4 (base + 2) < ps.nat 4 (base + 1))) .range [base + 1, base + 2]

/-- The mode that a line role needs (R113). -/
def roleMode : LineRole → Option LineMode
  | .none => none
  | .freshLevel => some .level
  | .greyLevel => some .level
  | .flow => some .pulse
  | _ => some .width

/-- The breaks of role and mode agreement and of role uniqueness on page 5 (R113). -/
def lineBreaks (ps : Pages) : List Break :=
  ((List.finRange 6).flatMap fun s =>
    breakIf ((roleMode (ps.lineRole s)).any (· != ps.lineMode s)) .range [11 * s.val + 1, 11 * s.val + 2]) ++
  ([1, 2, 3, 4, 5, 6].flatMap fun code =>
    let held := (List.finRange 6).filter fun s => ps.lineField s 2 == code
    breakIf (decide (1 < held.length)) .range (held.map fun s => 11 * s.val + 2))

/-- Whether a write touches an index from lo to hi. -/
def touches (ws : Writes) (lo hi : Nat) : Bool := ws.any fun w => decide (lo ≤ w.1) && decide (w.1 ≤ hi)

/-- The breaks of a page's cross checks in `ps`, the pages as they would stand after the write, in the order in which they decide
(R206). -/
def crossBreaks (old ps : Pages) (page : Nat) (ws : Writes) : List Break :=
  match page with
  | 1 => (if touches ws 14 29 then ocvBreaks ps 14 else []) ++ (if touches ws 30 45 then ocvBreaks ps 30 else [])
  | 3 => roleBreaks ps ++ countBreaks old ps
  | 4 => floorBreaks ps 2 ++ floorBreaks ps 5
  | 5 => lineBreaks ps
  | 6 => (if touches ws 5 21 then tankBreaks ps 5 else []) ++ (if touches ws 22 38 then tankBreaks ps 22 else [])
  | 7 => breakIf (decide (ps.warnThreshold ≤ ps.dumpThreshold)) .range [4, 5]
  | _ => []

/-- The first written index that breaks involve; the first written index when none is (log 18). -/
def failingIndex (ws : Writes) (involved : List Nat) : Nat :=
  match ws.find? fun w => involved.contains w.1 with
  | some w => w.1
  | none => (ws.head?.map (·.1)).getD 0

/-- The refusal of a page's breaks: the status of the check that decides, and the first failing index over all that this check
finds broken (R206, R14; log 18). -/
def breakRefusal (ws : Writes) (bs : List Break) : Option (Status × Nat) :=
  bs.head?.map fun b => (b.status, failingIndex ws ((bs.filter (·.status == b.status)).flatMap Break.indices))

/-- The first pair of a write at which `f` answers a refusal, with its index. -/
def firstRefusal (f : Nat → Word → Option Status) : Writes → Option (Status × Nat)
  | [] => none
  | (i, v) :: rest =>
    match f i v with
    | some st => some (st, i)
    | none => firstRefusal f rest

/-- The checks of R206 in their order: status and failing index of the first failure. -/
def Part.writeRefusal (p : Part) (page : Nat) (ws : Writes) : Option (Status × Nat) :=
  match firstRefusal (fun i _ => if badIndex page i then some .range else none) ws with
  | some e => some e
  | none =>
    match firstRefusal (fun i v => if valueInRange page i v then none else some .range) ws with
    | some e => some e
    | none =>
      match firstRefusal (fun i _ => if requestIndex page i then some .interlock else none) ws with
      | some e => some e
      | none =>
        match firstRefusal (fun i _ => p.classRefusal page i) ws with
        | some e => some e
        | none => breakRefusal ws (crossBreaks p.params (p.params.written page ws) page ws)

/-! ### Application (R206, R10, R20) -/

/-- One value is applied: a PERIOD value goes to its pending slot (R10), any other to the page. -/
def Part.applyValue (p : Part) (page : Nat) (w : Nat × Word) : Part :=
  match page, w.1 with
  | 1, 3 => p.setBank .A { p.bank .A with pendingGain := some w.2.toNat }
  | 1, 4 => p.setBank .B { p.bank .B with pendingGain := some w.2.toNat }
  | 1, 5 => p.setBank .A { p.bank .A with pendingEff := some w.2.toNat }
  | 1, 6 => p.setBank .B { p.bank .B with pendingEff := some w.2.toNat }
  | _, idx => { p with params := p.params.set page idx w.2 }

/-- The chemistry that a value of page 1 index 0 names (R19). -/
def chemistryOf (v : Word) : Chemistry := if v = 0 then .lead else .lithium

/-- The defaults that a change of chemistry brings before the other values: full voltages, pending efficiencies and undervoltage
cuts (R20, R76). -/
def Part.chemistryDefaults (p : Part) (page : Nat) (ws : Writes) : Part :=
  match page, ws.lookup 0 with
  | 1, some v =>
    let c := chemistryOf v
    if c = p.params.chemistry then p
    else
      let fv := BitVec.ofNat 16 (defaultFullVoltage c)
      let cut := BitVec.ofNat 16 (defaultCut c)
      let ps := (((p.params.set 1 7 fv).set 1 8 fv).set 4 9 cut).set 4 10 cut
      let q := { p with params := ps }
      let q := q.setBank .A { q.bank .A with pendingEff := some (defaultEfficiency c) }
      q.setBank .B { q.bank .B with pendingEff := some (defaultEfficiency c) }
  | _, _ => p

/-! ### Consequences -/

/-- Page 1: a changed chemistry reaches CHG (R34, R35), then a changed capacity rescales its bank (R21), in this order (log 45). -/
def Part.afterPage1 (p : Part) (old : Pages) : Part :=
  let q := if p.params.chemistry = old.chemistry then p else p.inhibitJudge.padJudge
  let q := if q.params.capacity .A = old.capacity .A then q else q.capacityChanged .A (old.fullContent .A)
  if q.params.capacity .B = old.capacity .B then q else q.capacityChanged .B (old.fullContent .B)

/-- Page 2: the charge minimum (R39). -/
def Part.afterPage2 (p : Part) (ws : Writes) : Part := if touches ws 1 1 then p.inhibitJudge.padJudge else p

/-- The configured class of a load that becomes the battery pad defaults to 2 where the write names no class for it and it stands
at the 3 of the load table (R35, R75; log 43). -/
def Part.padClassDefault (p : Part) (old : Pages) (ws : Writes) : Part :=
  match p.params.loadWith .battPad with
  | some l =>
    if old.role l ≠ .battPad ∧ p.params.loadClass l = 3 ∧ touches ws (6 * l.val) (6 * l.val) = false then
      { p with params := p.params.set 3 (6 * l.val) 2 }
    else p
  | none => p

/-- Page 3: role changes reach the units that lose or gain a holder, the pump's first, then the heater's, the valve's and the pad's
(R45; log 58); an open threshold of 0 zeroes the open counter (R97). -/
def Part.afterPage3 (p : Part) (old : Pages) (ws : Writes) : Part :=
  let q := (p.padClassDefault old ws).pumpRoleChanged (old.loadWith .pump)
  let q := q.heaterRoleChanged (old.loadWith .heater)
  let q := q.valveRoleChanged (old.loadWith .frostValve)
  let q := q.padRoleChanged (old.loadWith .battPad)
  (List.finRange 20).foldl
    (fun q c =>
      if ws.any fun w => w.1 == 6 * c.val + 5 && w.2 == 0 then q.setChan c { q.chan c with openCount := 0 } else q) q

/-- The bus record that a bank's bus parameter feeds; the floors and the cut of B feed none while joined (R48). -/
def Part.feeds (p : Part) (b : Bank) : Bool := b == .A || p.chg.tieRelay == .split

/-- Page 4: a lowered limit runs the overload check, then a floor the charge-floor check, a warning level its judgement (R76, R52;
log 47). -/
def Part.afterPage4 (p : Part) (old : Pages) (ws : Writes) : Part :=
  let limit := fun (q : Part) (b : Bank) =>
    if q.params.busLimit b < old.busLimit b then q.overloadCheck (q.busOfBank b) else q
  let floors := fun (q : Part) (b : Bank) (lo : Nat) =>
    if touches ws lo (lo + 2) && q.feeds b then q.floorCheck (q.busOfBank b) else q
  let level := fun (q : Part) (b : Bank) (i : Nat) => if touches ws i i then q.depthJudge (q.busOfBank b) else q
  let q := limit (limit p .A) .B
  let q := floors (floors q .A 2) .B 5
  level (level q .A 11) .B 12

/-- A role of a line went from one line to another, or to none: the unit that lost or gained it takes the change (R113, R125,
R132, R33, R142). -/
def Part.lineRoleMoved (p : Part) (old : Pages) (r : LineRole) : Part :=
  let after := p.params.lineWith r
  if after = old.lineWith r then p
  else
    match r with
    | .freshLevel => p.setTank .fresh ((p.tank .fresh).roleChanged after.isSome)
    | .greyLevel => p.setTank .grey ((p.tank .grey).roleChanged after.isSome)
    | .flow => { p with wat := { p.wat with rate := none } }
    | .cabinTemp => p.cabinRejudge
    | .bayTemp => p.bayRejudge
    | .battTemp => p.battTempRejudge
    | .none => p

/-- A disabled line with the FIXED method derives its thresholds anew and drops its learned values, the saturation flags clear
(R102, R121). -/
def Part.refixLine (p : Part) (s : LineId) : Part :=
  if (p.line s).enabled ∨ p.params.adaptive s then p else p.setLine s ((p.line s).initial p.params s)

/-- The staleness countdowns under a duty period written in STORAGE, which the temperatures meet at their next judgement (R33,
R142; log 41). -/
def Part.rebaseStale (p : Part) : Part :=
  { p with
    chg := { p.chg with battTimer := p.staleFor .battTemp p.chg.battTimer }
    clm := { p.clm with
      cabinTimer := p.staleFor .cabinTemp p.clm.cabinTimer, bayTimer := p.staleFor .bayTemp p.clm.bayTimer } }

/-- Page 5: thresholds, role changes, the standstill time, and the limits under the duty period (R121, R109, R33, R142). -/
def Part.afterPage5 (p : Part) (old : Pages) (ws : Writes) : Part :=
  let q := (List.finRange 6).foldl Part.refixLine p
  let q := [LineRole.freshLevel, .greyLevel, .flow, .cabinTemp, .bayTemp, .battTemp].foldl
    (fun q r => q.lineRoleMoved old r) q
  let q := if touches ws 66 66 then { q with sli := { q.sli with standWritten := true } } else q
  let q := if touches ws 67 67 ∧ q.mdc.mode = .storage then q.rebaseStale else q
  q.nodataJudge

/-- Page 6: the alarms under their thresholds (R130), FRESH before GREY (log 73); a running threshold or dry time that waits for its
judgement (R140). -/
def Part.afterPage6 (p : Part) (ws : Writes) : Part :=
  let q := if touches ws 0 0 then p.thresholdWritten .fresh else p
  let q := if touches ws 1 1 then q.thresholdWritten .grey else q
  if touches ws 2 3 then q.dryParamWritten else q

/-- Page 7: the calls and the demand, the guard enable, the guard's judgement, in this order (R159; log 63). -/
def Part.afterPage7 (p : Part) (old : Pages) (ws : Writes) : Part :=
  let q := if touches ws 0 2 then p.formCalls.heaterJudge else p
  let q := if q.params.guardEnabled = old.guardEnabled then q else q.guardEnableWritten
  if touches ws 4 6 then q.guardJudge else q

/-- The consequences of a page's written values (R206). -/
def Part.afterWrite (p : Part) (old : Pages) (page : Nat) (ws : Writes) : Part :=
  match page with
  | 1 => p.afterPage1 old
  | 2 => p.afterPage2 ws
  | 3 => p.afterPage3 old ws
  | 4 => p.afterPage4 old ws
  | 5 => p.afterPage5 old ws
  | 6 => p.afterPage6 ws
  | 7 => p.afterPage7 old ws
  | _ => p

/-- An accepted write of a page's values: the chemistry's defaults, the values in index order, the consequences (R206). -/
def Part.applyPage (p : Part) (page : Nat) (ws : Writes) : Part :=
  let old := p.params
  let q := ws.foldl (fun q w => q.applyValue page w) (p.chemistryDefaults page ws)
  q.afterWrite old page ws

/-- WRITE_PARAM after its arguments and START: the status, the failing index (0xFF when none) (R206). -/
def Part.writeParam (p : Part) (page : Nat) (ws : Writes) : Part × Status × Nat :=
  match p.writeRefusal page ws with
  | some e => (p, e.1, e.2)
  | none => ((p.applyPage page ws).markUnsaved, .ok, 0xFF)

/-! ### LOAD_DEFAULTS (R208) -/

/-- Whether LOAD_DEFAULTS keeps the present value of an index: its class would refuse the write (R208). -/
def Part.keepsValue (p : Part) (page idx : Nat) : Bool := (p.classRefusal page idx).isSome

/-- The indices of a page that LOAD_DEFAULTS keeps (R208). -/
def Part.keptIndices (p : Part) (page : Nat) : List Nat := (List.range (pageLength page)).filter (p.keepsValue page)

/-- The default role of a line, NONE when an enabled line keeps that role (R208). -/
def Part.defaultLineRole (p : Part) (s : LineId) : Nat :=
  let role := default5 (11 * s.val + 2)
  if (List.finRange 6).any fun t => t != s && (p.line t).enabled && p.params.lineField t 2 == role then 0 else role

/-- The default of a value under the chemistry and capacities in force (R19, R208). -/
def Part.defaultValue (p : Part) (chem : Chemistry) (capA capB page idx : Nat) : Word :=
  match page, lineOfIndex idx with
  | 5, some s =>
    if idx % 11 = 2 then BitVec.ofNat 16 (p.defaultLineRole s) else paramDefault chem capA capB page idx
  | _, _ => paramDefault chem capA capB page idx

/-- The values that LOAD_DEFAULTS writes on a page: every writable index it does not keep (R208). -/
def Part.defaultWrites (p : Part) (page : Nat) : Writes :=
  let parked := p.parked
  let chem := if parked then .lithium else p.params.chemistry
  let capA := if parked then 100 else p.params.capacity .A
  let capB := if parked then 100 else p.params.capacity .B
  ((List.range (pageLength page)).filter fun i => !badIndex page i && !p.keepsValue page i).map
    fun i => (i, p.defaultValue chem capA capB page i)

/-- LOAD_DEFAULTS in SERVICE: every page in order as one event (R208), also where the classes it keeps leave a bus more than 16
counted loads (log 48). -/
def Part.applyDefaults (p : Part) : Part :=
  ((List.range 10).foldl (fun q page => q.applyPage page (q.defaultWrites page)) p).markUnsaved

/-- The values that LOAD_DEFAULTS keeps, page and index each, in page and index order (R208). -/
def Part.keptValues (p : Part) : List (Nat × Nat) :=
  (List.range 10).flatMap fun page => (p.keptIndices page).map fun i => (page, i)

/-- The refusal of LOAD_DEFAULTS (R208). -/
def Part.defaultsRefusal (p : Part) : Option Status :=
  if p.mdc.mode = .start then some .starting
  else if p.mdc.mode ≠ .service then some .wrongMode
  else if p.out.exercise.isSome then some .exerciseActive
  else none

end Sys2Proof.Machine
end

