-- ==== Sys2Proof/Machine/LinkQueue.lean ====
section
/-! DEFINITION. The Control Link's own operations: the reply slot and the immediate place, the transmitter, the settings store and
the running snapshot (R201 to R211). -/

namespace Sys2Proof.Machine

/-! ### Replies (R202, R203) -/

/-- An immediate reply waits; one that finds the place full is dropped (R203). -/
def Part.queueImmediate (p : Part) (kind : Byte) (status : Status) : Part :=
  match p.lnk.immediate with
  | some _ => p
  | none => { p with lnk := { p.lnk with immediate := some ⟨kind, status⟩ } }

/-- The reply KIND of a request: its KIND + 0x80 (R202). -/
def replyKind (kind : Byte) : Byte := kind + 0x80#8

/-- The reply KIND of an UNKNOWN_KIND reply: KIND + 0x80 for 0x01 to 0x7F, 0x80 otherwise (R202). -/
def unknownReplyKind (kind : Byte) : Byte := if 0x80 ≤ kind.toNat then 0x80#8 else replyKind kind

/-- A formed reply goes into the reply slot and the head request leaves the queue (R202). -/
def Part.formReply (p : Part) (r : Request) (status : Status) (payload : List Byte) : Part :=
  { p with lnk := { p.lnk with
    requests := p.lnk.requests.drop 1, inFlight := false
    reply := some ⟨replyKind (requestKind r), status, payload, none, 0⟩ } }

/-- The held reply of the request in flight at the head is formed (R202). -/
def Part.completeHead (p : Part) (status : Status) (payload : List Byte) : Part :=
  match p.lnk.requests with
  | r :: _ => if p.lnk.inFlight then p.formReply r status payload else p
  | [] => p

/-! ### The transmitter (R203, R204, R211) -/

/-- LINK_FLAGS as a byte (R204). -/
def Lnk.flagByte (k : Lnk) : Byte := BitVec.ofNat 8 k.flags

/-- Whether a LINK_FLAGS byte carries NOTICE_LOST (R204). -/
def carriesLost (flags : Byte) : Bool := flags.getLsbD 0

/-- The body of an immediate reply: the header, and the segment byte of a single segment; a LINK_ERROR reply carries no payload
(R201, R203; log 13). -/
def immediateBody (i : Immediate) (flags : Byte) : List Byte :=
  [i.kind, BitVec.ofNat 8 i.status.code, flags] ++ (if i.status = .linkError then [] else [0x80#8])

/-- The payload bytes of one segment: 64 less the header of three and the segment byte (R201, R203). -/
def segmentRoom : Nat := 60

/-- Whether segment `k` of a payload is its last (R203). -/
def lastSegment (payload : List Byte) (k : Nat) : Bool := decide (payload.length ≤ segmentRoom * (k + 1))

/-- The segment byte: the number in bits 0 to 3, bit 7 on the final segment (R203). -/
def segmentByte (k : Nat) (last : Bool) : Byte := BitVec.ofNat 8 (k % 16 + if last then 0x80 else 0)

/-- The body of a segment of a reply (R203). -/
def segmentBody (r : ReplySlot) (flags : Byte) : List Byte :=
  [r.kind, BitVec.ofNat 8 r.status.code, flags, segmentByte r.sent (lastSegment r.payload r.sent)] ++
    (r.payload.drop (segmentRoom * r.sent)).take segmentRoom

/-- The body of a notice: KIND, SUBJECT, payload (11, "The line and the frame"). -/
def noticeBody (n : Notice) : List Byte := [BitVec.ofNat 8 (0x40 + noticeIndex n.kind), BitVec.ofNat 8 n.subject] ++ n.data

/-- The next segment of the reply in the slot is formed and sent; LINK_FLAGS stand as at the first (R203, R204). -/
def Part.sendSegment (p : Part) (r : ReplySlot) : Part :=
  let flags := r.flags.getD p.lnk.flagByte
  let last := lastSegment r.payload r.sent
  { p with lnk := { p.lnk with
    reply := some { r with flags := some flags, sent := r.sent + 1 }
    tx := some ⟨.segment last, carriesLost flags, frameOf (segmentBody r flags)⟩ } }

/-- The idle transmitter chooses: the immediate reply, which keeps its place until it is sent, the reply slot, the oldest notice
(R203, R211). -/
def Part.transmit (p : Part) : Part :=
  match p.lnk.tx with
  | some _ => p
  | none =>
    match p.lnk.immediate with
    | some i =>
      let flags := p.lnk.flagByte
      { p with lnk := { p.lnk with tx := some ⟨.immediate, carriesLost flags, frameOf (immediateBody i flags)⟩ } }
    | none =>
      match p.lnk.reply with
      | some r => p.sendSegment r
      | none =>
        match p.lnk.notices with
        | n :: rest =>
          { p with lnk := { p.lnk with
            notices := rest, tx := some ⟨.notice n.kind n.subject, false, frameOf (noticeBody n)⟩ } }
        | [] => p

/-- A reply that carried NOTICE_LOST has been sent (R211). -/
def Part.lostReported (p : Part) (carried : Bool) : Part :=
  if carried then { p with lnk := { p.lnk with noticeLost := false } } else p

/-! ### The settings store (R207) -/

/-- The working values with the pending gains and efficiencies in place (R207). -/
def Part.saveImage (p : Part) : Pages :=
  let put := fun (ps : Pages) (idx : Nat) (v : Option Nat) =>
    match v with
    | some n => ps.set 1 idx (BitVec.ofNat 16 n)
    | none => ps
  put (put (put (put p.params 3 p.bnk.a.pendingGain) 4 p.bnk.b.pendingGain) 5 p.bnk.a.pendingEff) 6 p.bnk.b.pendingEff

/-- A settings write starts: until it completes, the stored CRC is wrong (R207). -/
def Part.startSave (p : Part) : Part :=
  let image := p.saveImage
  { p with lnk := { p.lnk with memory := .saving, store := ⟨image, ~~~imageCrc image⟩ } }

/-- The stored image is valid (R207). -/
def Store.valid (s : Store) : Bool := s.crc == imageCrc s.image

/-! ### The running snapshot (R210) -/

/-- A slot is valid (R210). -/
def Slot.valid (s : Slot) : Bool := s.crc == s.crcOf

/-- Slot 1 is newer than slot 0, both valid (R210; log 32). -/
def newerOne (s0 s1 : Slot) : Bool :=
  let d := (s1.seq - s0.seq).toNat
  decide (1 ≤ d) && decide (d < 2 ^ 31)

/-- The newest valid snapshot: whether it stands in slot 1, and the slot (R210). -/
def Lnk.newest (k : Lnk) : Option (Bool × Slot) :=
  match k.slot0.valid, k.slot1.valid with
  | true, true => if newerOne k.slot0 k.slot1 then some (true, k.slot1) else some (false, k.slot0)
  | true, false => some (false, k.slot0)
  | false, true => some (true, k.slot1)
  | false, false => none

/-- The slot and the sequence number of the next snapshot write (R210). -/
def Lnk.nextSlot (k : Lnk) : Bool × Word32 :=
  match k.newest with
  | some (one, s) => (!one, s.seq + 1)
  | none => (false, 0)

/-- A slot is written. -/
def Lnk.setSlot (k : Lnk) (one : Bool) (s : Slot) : Lnk := if one then { k with slot1 := s } else { k with slot0 := s }

/-- A snapshot write starts, taking the values as they stand; until it completes, the slot's CRC is wrong (R210, R26). -/
def Part.beginSnapshot (p : Part) : Part :=
  let next := p.lnk.nextSlot
  let s : Slot := ⟨p.bnk.a.content, p.bnk.b.content, p.mdc.resume, next.2, 0⟩
  { p with lnk := { p.lnk.setSlot next.1 { s with crc := ~~~s.crcOf } with
    memory := .snapshot next.1, snapHeld := false } }

/-- A snapshot write is due: it starts, or is held while the memory is busy (R210). -/
def Part.snapshotDue (p : Part) : Part :=
  if p.lnk.memory = .idle then p.beginSnapshot else { p with lnk := { p.lnk with snapHeld := true } }

/-- The memory becomes idle, and a held write starts (R210). -/
def Part.memoryIdle (p : Part) : Part :=
  let q := { p with lnk := { p.lnk with memory := .idle } }
  if q.lnk.snapHeld then q.beginSnapshot else q

/-- A snapshot write completes (R210). -/
def Part.snapshotDone (p : Part) : Part :=
  match p.lnk.memory with
  | .snapshot one =>
    let s := if one then p.lnk.slot1 else p.lnk.slot0
    ({ p with lnk := p.lnk.setSlot one { s with crc := s.crcOf } }).memoryIdle
  | _ => p

/-- The expiry of the snapshot countdown (R210). -/
def Part.snapshotExpiry (p : Part) : Part := ({ p with lnk := { p.lnk with snapTimer := 900000 } }).snapshotDue

/-- A settings write completes: the reply, the flags and the CRC by the image read back (R207). -/
def Part.saveDone (p : Part) (matched : Bool) : Part :=
  if p.lnk.memory = .saving then
    if matched then
      let k := { p.lnk with
        unsaved := false, dflt := false, store := { p.lnk.store with crc := imageCrc p.lnk.store.image } }
      (({ p with lnk := k }).completeHead .ok []).memoryIdle
    else (p.completeHead .storeFail []).memoryIdle
  else p

/-! ### Samples of MDC (R190) -/

/-- A sample of the part's own supply; each raising of the warning is handed to the Control Link (R190). -/
def Part.supplySampled (p : Part) (mv : Nat) : Part :=
  let q := { p with mdc := { p.mdc with supply := mv } }
  if mv < 9000 ∧ p.mdc.supplyWarning = false then
    ({ q with mdc := { q.mdc with supplyWarning := true } }).snapshotDue
  else if 9500 ≤ mv then { q with mdc := { q.mdc with supplyWarning := false } }
  else q

end Sys2Proof.Machine
end

