-- ==== Sys2Proof/Machine/Startup.lean ====
section
/-! DEFINITION. The three resets and the start-up load (R24, R25, R43, R77, R86, R98, R124, R141, R161, R178, R188, R192, R193,
R200, R212). -/

namespace Sys2Proof.Machine

/-! ### Reset values that follow from the settings (log 31) -/

/-- A unit's load is FAULTED when its output has tripped since the reset. -/
def Part.loadFaulted (p : Part) (l : LoadId) : Bool := (p.load l).state == .faulted

/-- The pad state of R43. -/
def Part.padAtReset (p : Part) : PadState :=
  match p.params.loadWith .battPad with
  | none => .noPad
  | some l => if p.loadFaulted l then .faulted else .idle

/-- The pump state of R141. -/
def Part.pumpAtReset (p : Part) : PumpState :=
  match p.params.loadWith .pump with
  | none => .noPump
  | some l => if p.loadFaulted l then .faulted else .off

/-- The heater state of R161. -/
def Part.heaterAtReset (p : Part) : HeaterState :=
  match p.params.loadWith .heater with
  | none => .noHeater
  | some l => if p.loadFaulted l then .faulted else .idle

/-- The level state of a tank at a reset (R141). -/
def Part.tankAtReset (p : Part) (t : Tank) : TankRec :=
  { p.tank t with levelState := if (p.params.lineWith (tankRole t)).isSome then .waiting else .none }

/-- The cold inhibit of R43: SET with cause UNKNOWN for LITHIUM, CLEAR for LEAD. -/
def inhibitAtReset : Chemistry → Option InhibitCause
  | .lead => none
  | .lithium => some .unknown

/-- The reset values that follow from the working settings (R43, R124, R141, R161). -/
def Part.settingsValues (p : Part) : Part :=
  let q := { p with
    chg := { p.chg with coldInhibit := inhibitAtReset p.params.chemistry, pad := p.padAtReset }
    wat := { p.wat with
      fresh := p.tankAtReset .fresh, grey := p.tankAtReset .grey, pump := p.pumpAtReset
      dumped := p.clm.guard == .dumped }
    clm := { p.clm with heater := p.heaterAtReset } }
  (List.finRange 6).foldl (fun q s => q.setLine s ((q.line s).initial q.params s)) q

/-! ### Resets (R192) -/

/-- The frost valve load that is ON, which a PIN or SOFT reset keeps (R77, R98). -/
def Part.valveLoadOn (p : Part) : Option LoadId :=
  match p.params.loadWith .frostValve with
  | some l => if (p.load l).state = .on then some l else none
  | none => none

/-- A bank record after a PIN or SOFT reset (R25). -/
def BankRec.kept (r : BankRec) : BankRec :=
  { BankRec.reset with content := r.content, estimated := r.estimated, full := r.full, empty := r.empty }

/-- The valve load is ON as the only entry of its home bus's on-list (R77). -/
def Part.seatValve (p : Part) (l : LoadId) : Part :=
  let q := p.setLoad l { LoadRec.reset with state := .on }
  let b := q.busOf l
  q.setBus b { q.bus b with onList := [l] }

/-- The valve load is ON on its bus, and its channel stays ON with its zero offset (R77, R86, R98). -/
def Part.keepValve (p : Part) (l : LoadId) (zero : Int) (zeroSat : Bool) : Part :=
  let q := p.seatValve l
  q.setChan l { q.chan l with switching := .on, zero := zero, zeroSat := zeroSat, calTakes := false }

/-- The signals after a reset: the pins keep their raw levels, the debounced states rest (R189). -/
def Signals.rested (g : Signals) : Signals :=
  let rest := fun (r : SignalRec) => (⟨r.raw, false, 0⟩ : SignalRec)
  ⟨rest g.dplus, rest g.handbrake, rest g.mainsOk, rest g.awnIn, rest g.awnOut, rest g.stepIn, rest g.stepOut⟩

/-- The drivers' standing reports, which a reset does not withdraw (R98, R124). -/
def Part.keepReports (p : Part) (old : Part) : Part :=
  { p with
    out := { p.out with
      groupHot := old.out.groupHot
      channels := p.out.channels.mapFinIdx fun i c h =>
        { c with backfeedStands := (old.out.channels[i]'h).backfeedStands } }
    sli := { p.sli with
      driverHot := old.sli.driverHot
      lines := p.sli.lines.mapFinIdx fun i r h => { r with overRail := (old.sli.lines[i]'h).overRail } } }

/-- The part after a reset of a kind, before the start-up load: what every reset keeps are the pins, the standing reports and the
non-volatile memory (R189, R98, R124, R207, R210). -/
def Part.resetCommon (p : Part) (k : ResetKind) : Part :=
  let q := Part.reset.keepReports p
  { q with
    mdc := { q.mdc with signals := p.mdc.signals.rested, resetKind := k }
    lnk := { q.lnk with
      store := p.lnk.store, slot0 := p.lnk.slot0, slot1 := p.lnk.slot1
      tx := some ⟨.notice .started 0, false, frameOf (startedBody k)⟩ } }

/-- A POWER reset (R192). -/
def Part.resetPower (p : Part) : Part := p.resetCommon .power

/-- A PIN or SOFT reset keeps the bank contents (R25), the flow total (R141), the guard (R161), the storage resume flag (R200) and
an ON frost valve (R77, R98). -/
def Part.resetWarm (p : Part) (k : ResetKind) : Part :=
  let q := p.resetCommon k
  let valve := p.valveLoadOn
  let q := { q with
    params := p.params
    bnk := ⟨p.bnk.a.kept, p.bnk.b.kept, none⟩
    wat := { q.wat with total := p.wat.total, remainder := p.wat.remainder }
    clm := { q.clm with guard := p.clm.guard, riskTimer := p.clm.riskTimer }
    mdc := { q.mdc with resume := p.mdc.resume, valveOn := valve.isSome } }
  let q := match valve with
    | some l => q.keepValve l (p.chan l).zero (p.chan l).zeroSat
    | none => q
  q.settingsValues

/-- A reset of a kind (R192). -/
def Part.resetPart (p : Part) : ResetKind → Part
  | .power => p.resetPower
  | k => p.resetWarm k

/-! ### The start-up load (R193) -/

/-- The working values that the load brings: a valid image, under the part's own read-only values, or the defaults (R207). -/
def Store.loaded (s : Store) : Pages :=
  if s.valid then (s.image.set 0 0 (BitVec.ofNat 16 4810)).set 0 1 Config.revision else defaultPages

/-- A bank's content from a snapshot value, in [0, F], or half the full content without one (R24). -/
def BankRec.restored (r : BankRec) (full : Nat) (content : Option Nat) : BankRec :=
  ({ r with
    content := match content with
      | some c => min full c
      | none => full / 2
    estimated := true }).reevaluated full

/-- A bank's content under a capacity that the reload changed (R25). -/
def BankRec.reloaded (r : BankRec) (full full' : Nat) : BankRec :=
  if full = full' then r
  else ({ r with content := rescaled r.content full full', estimated := true }).reevaluated full'

/-- Step 2 of R193 after a POWER reset: contents and the resume flag from the snapshot. -/
def Part.loadSnapshot (p : Part) : Part :=
  let s := p.lnk.newest
  { p with
    bnk := { p.bnk with
      a := p.bnk.a.restored (p.params.fullContent .A) (s.map (·.2.contentA))
      b := p.bnk.b.restored (p.params.fullContent .B) (s.map (·.2.contentB)) }
    mdc := { p.mdc with
      resume := (s.map (·.2.resume)).getD false
      snapshot := some (if s.isSome then .valid else .invalid) } }

/-- Step 2 of R193 after a PIN or SOFT reset: contents under a changed capacity (R25). -/
def Part.reloadBanks (p : Part) (old : Pages) : Part :=
  { p with
    bnk := { p.bnk with
      a := p.bnk.a.reloaded (old.fullContent .A) (p.params.fullContent .A)
      b := p.bnk.b.reloaded (old.fullContent .B) (p.params.fullContent .B) }
    mdc := { p.mdc with snapshot := some .notRead } }

/-- The loads that events from before the start-up load have brought ON or to a stack go to OFF as at a mode entry, but for an ON
frost valve, so that LDM starts from the loaded settings (R77; log 31). -/
def Part.loadsAtStart (p : Part) : Part :=
  ((List.finRange 20).filter fun l => p.valveLoadOn != some l).foldl Part.entryOff p

/-- The loaded holder of FROST_VALVE is ordered ON (R78, R90), and its channel leaves the zero calibration (R86; log 62). One whose
channel has tripped since the reset stays FAULTED, and CLM hears of the trip (R78, R154; log 31). -/
def Part.startValve (p : Part) (l : LoadId) : Part :=
  if (p.chan l).switching = .tripped then (p.orderOn l).report .valveFaulted
  else
    let q := (p.seatValve l).orderOn l
    q.setChan l { q.chan l with calTakes := false }

/-- The frost valve under the loaded settings: an ON valve stays ON as the only entry of its home bus's on-list; the loaded
holder of the role takes the place of another one (R77, R161; log 31). -/
def Part.reseatValve (p : Part) (old : Pages) : Part :=
  match old.loadWith .frostValve with
  | none => p
  | some l =>
    if (p.load l).state = .on then
      let q := { p with ldm := { p.ldm with busA := BusRec.reset, busB := BusRec.reset, busJ := BusRec.reset } }
      match p.params.loadWith .frostValve with
      | none => (q.setLoadState l .off).orderOff l
      | some l' =>
        if l' = l then q.seatValve l
        else ((q.setLoadState l .off).orderOff l).startValve l'
    else p

/-- A reset that kept the guard out of DUMPED and found no valve ON energizes the loaded holder of FROST_VALVE (R151, R161;
log 31). -/
def Part.energizeValve (p : Part) : Part :=
  match p.params.loadWith .frostValve with
  | some l => if p.clm.guard ≠ .dumped ∧ (p.load l).state ≠ .on then p.startValve l else p
  | none => p

/-- The start-up load (R193); the part takes one only once after a reset (log 34). -/
def Part.startUp (p : Part) : Part :=
  if p.mdc.settings.isSome then p
  else
    let p := p.loadsAtStart
    let old := p.params
    let ok := p.lnk.store.valid
    let q := { p with
      params := p.lnk.store.loaded
      mdc := { p.mdc with settings := some (if ok then .loaded else .defaulted) }
      lnk := { p.lnk with unsaved := !ok, dflt := !ok } }
    let q := if q.mdc.resetKind = .power then q.loadSnapshot else q.reloadBanks old
    let q := if p.valveLoadOn.isSome then q.reseatValve old else if q.mdc.valveOn then q else q.energizeValve
    let q := q.settingsValues
    (List.finRange 6).foldl Part.startLine q

end Sys2Proof.Machine
end

