-- ==== Sys2Proof/Machine/Samples.lean ====
section
/-! DEFINITION. The two events that reach across the part: a bank sample (R1 to R18) and the completion of a measurement (R84 to
R89). -/

namespace Sys2Proof.Machine

/-! ### Bank samples -/

/-- The reply of BANK_ZERO: for each selected bank, the new offset and OFFSET_SAT (R6), set 0 and clear 1 (log 16), as a list with
its count (log 51). -/
def Part.zeroingPayload (p : Part) (z : Zeroing) : List Byte :=
  listField (fun b => leSigned 2 (p.bank b).offset ++ twoWay (p.bank b).offsetSat)
    ((if z.a then [Bank.A] else []) ++ (if z.b then [Bank.B] else []))

/-- A BANK_ZERO in flight completes when every selected bank is COUNTING (R6). -/
def Part.zeroingCheck (p : Part) : Part :=
  match p.bnk.zeroing with
  | some z =>
    if p.zeroingDone z then
      (({ p with bnk := { p.bnk with zeroing := none } }).completeHead .ok (p.zeroingPayload z))
    else p
  | none => p

/-- What follows the completion of a calibration: the hold lowered when no bank is CALIBRATING, the BANK_ZERO reply, the report
to Mode Control (R4 to R6). -/
def Part.calibrationOver (p : Part) : Part :=
  let q := if p.allCounting then p.lowerCalHold else p
  let q := q.zeroingCheck
  if p.allCounting then q.bankCalibrated else q

/-- A bank sample: CALIBRATING or COUNTING, then the publication of the bus (R1, R3, R17, R18). -/
def Part.bankSampled (p : Part) (b : Bank) (count : Int) (mv : Nat) : Part :=
  match (p.bank b).acct with
  | .calibrating =>
    let r := p.calibrationSample b count mv
    (if r.2 then r.1.calibrationOver else r.1).publishBank b
  | .counting => (p.countingSample b count mv).publishBank b

/-! ### Completions of measurements -/

/-- The channel's measurement of a raw reading (R79). -/
def Channel.reading (c : Channel) (raw : Int) : Nat := clampToNat 30000 (raw - c.zero)

/-- The freshness time of a completion in a mode, in ms (R85). -/
def freshMs (m : Mode) : Nat := if m = .storage then 2500 else 250

/-- The overcurrent counter after a measurement: held at 0 during an inrush blank, at 8 while the latch stands (R84, R88). -/
def Channel.overCounted (c : Channel) (ma trip : Nat) (onThroughout : Bool) : Nat :=
  if c.latched.overcurrent then c.overCount
  else if c.inrush.isSome then 0
  else if onThroughout && decide (trip < ma) then min 8 (c.overCount + 1)
  else c.overCount - 1

/-- The open counter after a measurement; moved only with the channel ON throughout (R84, R89). -/
def Channel.openCounted (c : Channel) (ma level : Nat) (onThroughout : Bool) : Nat :=
  if onThroughout then (if ma < level then min 8 (c.openCount + 1) else c.openCount - 1) else c.openCount

/-- Steps 1 and 2 of a completion (R84). -/
def Part.storeReading (p : Part) (c : LoadId) (ma : Nat) (onThroughout : Bool) : Part :=
  let r := p.chan c
  p.setChan c { r with
    last := some ma, fresh := true, freshTimer := some (freshMs p.mdc.mode)
    overCount := r.overCounted ma (p.params.tripCurrent c) onThroughout
    openCount := r.openCounted ma (p.openLevel c) onThroughout }

/-- Step 3 of a completion: what the counters call for (R84, R88, R89). Where both stand at 8, OPEN is latched first, on the channel
that is still ON, and then the trip is taken (log 53). -/
def Part.counterTrips (p : Part) (c : LoadId) : Part :=
  let q := if 8 ≤ (p.chan c).openCount then p.latchOnly c .openLoad else p
  if 8 ≤ (q.chan c).overCount then q.trip c .overcurrent else q

/-- The reply of SPOT_CHECK (R96). -/
def Part.spotPayload (p : Part) (c : LoadId) (ma : Nat) : List Byte :=
  n8 c.val ++ n16 ma ++ n8 (p.chan c).switching.code ++ n8 (p.chan c).latched.bits ++
    (if isLightChannel c then n16 (p.chan c).duty else [])

/-- The next sweep position (R83). -/
def nextChannel (c : LoadId) : LoadId := if h : c.val + 1 < 20 then ⟨c.val + 1, h⟩ else 0

/-- The converter becomes free: the group is kept, a sweep completion advances the position and holds it after channel 19 in
STORAGE, and the arbiter grants (R80, R83, R84 step 6). A calibration that ends START in STORAGE is held so too (log 70). -/
def Part.converterFree (p : Part) (m : Measuring) : Part :=
  let swept := m.source == .sweep
  ({ p with out := { p.out with
    running := none
    lastGroup := some (groupOf m.channel)
    sweepPos := if swept then nextChannel m.channel else p.out.sweepPos
    sweepHeld := if swept && m.channel == 19 && p.mdc.mode == Mode.storage then true else p.out.sweepHeld } }).arbiter

/-- A completion outside the zero calibration, in the order of R84: a trip of step 3 has reached the unit that owns the load
(log 6) before the reading is handed on, and MOT takes the reading before the report of a cut that step 4 made (log 71). -/
def Part.measureDone (p : Part) (m : Measuring) (raw : Int) : Part :=
  let c := m.channel
  let ma := (p.chan c).reading raw
  let q := ((((p.storeReading c ma m.onThroughout).counterTrips c).delivered).measured c ma).dryMeasured c
  let q := match axisOf? c with
    | some a => q.motorMeasured a ma (m.source == MeasureSource.tracking)
    | none => q
  let q := if m.source = .spot ∧ m.host then q.completeHead .ok (q.spotPayload c ma) else q
  q.converterFree m

/-- The zero offset of a calibrated channel at the end of the 8th pass (R86). -/
def Channel.zeroed (c : Channel) : Channel :=
  if c.calTakes then
    let mean := c.calSum.tdiv 8
    { c with
      zero := clampInt (-200) 200 mean, zeroSat := decide (mean < -200) || decide (200 < mean), calSum := 0 }
  else { c with calSum := 0 }

/-- A completion of the zero calibration: an OFF channel's raw reading joins its sum; the end of the 8th pass sets the zero
offsets and is reported to Mode Control (R86). -/
def Part.calibrationDone (p : Part) (m : Measuring) (raw : Int) (passes : Nat) : Part :=
  let c := p.chan m.channel
  let q :=
    if c.switching = .off ∧ c.calTakes then p.setChan m.channel { c with calSum := c.calSum + raw } else p
  if m.channel = 19 then
    if 8 ≤ passes + 1 then
      let q := { q with out := { q.out with channels := q.out.channels.map Channel.zeroed, zeroPass := none } }
      q.zeroCalibrated.converterFree m
    else ({ q with out := { q.out with zeroPass := some (passes + 1) } }).converterFree m
  else q.converterFree m

/-- The completion of the running measurement (R84, R86). -/
def Part.measurementDone (p : Part) (raw : Int) : Part :=
  match p.out.running with
  | none => p
  | some m =>
    match p.out.zeroPass with
    | some passes => p.calibrationDone m raw passes
    | none => p.measureDone m raw

end Sys2Proof.Machine
end

