-- ==== Sys2Proof/Machine/Replies.lean ====
section
/-! DEFINITION. The payloads of the replies, field by field in the order of their rules (R203). -/

namespace Sys2Proof.Machine

/-- A number of a load, channel or line in one byte. -/
def encodeFin {n : Nat} (x : Fin n) : List Byte := n8 x.val

/-- A status in one byte (R203). -/
def encodeStatus (s : Status) : List Byte := n8 s.code

/-! ### BNK and CHG -/

/-- GET_BANK (R22). -/
def Part.bankPayload (p : Part) (b : Bank) : List Byte :=
  let r := p.bank b
  n8 (bankIdx b) ++ n8 p.params.chemistry.code ++ n8 r.acct.code ++ n16 (p.params.capacity b) ++
    n64 (p.params.fullContent b) ++ n64 r.content ++ n16 (p.bankSoc b) ++ optField (leSigned 4) r.lastCurrent ++
    optField n16 r.lastVoltage ++ leSigned 2 r.offset ++ n16 (p.params.gain b) ++ optField n16 r.pendingGain ++
    n16 (p.params.efficiency b) ++ optField n16 r.pendingEff ++ n8 r.flags ++ n16 (r.restTimer / 10) ++
    n8 (r.fullSyncTimer / 10) ++ optField n16 r.timeToEmpty

/-- The shore-charger enable, the solar enable and the split relay with their hold-off flags (R40). -/
def Part.sourcesPayload (p : Part) : List Byte :=
  n8 (p.chargeState .shore) ++ p.chargeHoldOff .shore ++ n8 (p.chargeState .solar) ++ p.chargeHoldOff .solar ++
    n8 (p.chargeState .split) ++ p.chargeHoldOff .split

/-- GET_CHARGE (R40), with a presence byte before the cause of the inhibit (log 51). -/
def Part.chargePayload (p : Part) : List Byte :=
  p.sourcesPayload ++ optField n16 p.mdc.starterVoltage ++ n8 p.chg.dplusCount ++ n8 p.chg.highCount ++
    n8 p.chg.lowCount ++ twoWay p.mains ++ twoWay p.dplus ++ n8 p.params.chemistry.code ++
    optField (leSigned 2) p.chg.battTemp ++ n8 (p.chargeState .coldInhibit) ++
    optField (fun c : InhibitCause => n8 c.code) p.chg.coldInhibit ++ leSigned 1 p.params.chargeMinimum ++
    n8 p.chg.pad.code ++ optField encodeFin (p.params.loadWith .battPad) ++
    optField encodeStatus p.chg.pad.refusal ++ optField n8 (secondsLeft p.chg.padRetry) ++
    n8 p.params.tieSetting.code ++ n8 p.chg.tieRelay.code ++ twoWay p.chg.calHold

/-! ### LDM -/

/-- LOAD_SET (R70): state, wanted, committed draw; sum and limit for NO_BUDGET, state of charge and floor for LOW_CHARGE, without a
presence byte and left out under any other status (log 51). -/
def Part.loadSetPayload (p : Part) (l : LoadId) (st : Status) : List Byte :=
  n8 (p.load l).state.code ++ twoWay (p.load l).wanted ++ n16 (p.committed l) ++
    (match st with
      | .noBudget => n32 (p.committedSum (p.busOf l)) ++ n32 (busLimitOf p.params (p.busOf l))
      | .lowCharge => n16 (p.bus (p.busOf l)).soc ++ n16 (busFloorOf p.params (p.busOf l) (p.effClass l))
      | _ => [])

/-- The first place of a stack: 16 for bus B's substack, 0 otherwise (R51). -/
def stackBase : BusName → Nat
  | .B => 16
  | _ => 0

/-- The capacity of a stack: 16, or 32 joined (R73). -/
def stackCapacity : BusName → Nat
  | .joined => 32
  | _ => 16

/-- The stack place and shed cause of a SHED load (R71). -/
def Part.shedFields (p : Part) (l : LoadId) : List Byte :=
  let b := p.busOf l
  match firstIndexFrom (fun _ (e : ShedEntry) => e.load == l) (stackBase b) (p.bus b).stack,
      (p.bus b).stack.find? (·.load == l) with
  | some place, some e => n8 place ++ n8 e.cause.code
  | _, _ => []

/-- LOAD_GET (R71); the wanted level of a light and the stack place of a SHED load stand without a presence byte (log 51). -/
def Part.loadPayload (p : Part) (l : LoadId) : List Byte :=
  let r := p.load l
  encodeFin l ++ n8 (p.params.role l).code ++ n8 (ownerOf p.params l).code ++ n8 (p.params.loadClass l) ++
    n8 (p.effClass l) ++ twoWay r.promoted ++ n8 (bankIdx (p.params.homeBank l)) ++ n16 (p.params.nominal l) ++
    n8 r.state.code ++ twoWay r.wanted ++ (if isLightChannel l then n16 r.wantedLevel else []) ++
    optField (fun t : Word32 => n32 t.toNat) (if r.state = .on then some r.admittedAt else none) ++
    optField n16 r.measured ++ twoWay r.fresh ++ n16 (p.committed l) ++ optField n8 r.motorClass ++
    (if r.state = .shed then p.shedFields l else [])

/-- An on-list entry: the load, its effective class, its committed draw (R72). -/
def Part.onListEntry (p : Part) (l : LoadId) : List Byte := encodeFin l ++ n8 (p.effClass l) ++ n16 (p.committed l)

/-- GET_BUS (R72). -/
def Part.busPayload (p : Part) (b : BusName) : List Byte :=
  let r := p.bus b
  let limit := busLimitOf p.params b
  let sum := p.committedSum b
  n8 p.chg.tieRelay.code ++ n8 (busNameCode b) ++ n32 limit ++ n32 sum ++ leSigned 4 ((limit : Int) - sum) ++
    n16 r.soc ++ optField n16 r.voltage ++ n16 (busFloorOf p.params b 2) ++ n16 (busFloorOf p.params b 3) ++
    n16 (busFloorOf p.params b 4) ++ n8 p.params.restoreHysteresis ++ n16 (busCutOf p.params b) ++ twoWay r.uvFlag ++
    optField n8 (secondsLeft r.belowCut) ++ n8 (busWarnOf p.params b) ++ n8 r.stack.length ++
    listField p.onListEntry r.onList

/-- A stack entry in SHED_LIST: place, load, cause, shed time, seconds since, effective class, committed draw (R73). -/
def Part.stackEntry (p : Part) (x : Nat × ShedEntry) : List Byte :=
  n8 x.1 ++ encodeFin x.2.load ++ n8 x.2.cause.code ++ n32 x.2.shedAt.toNat ++ n32 (p.uptime - x.2.shedAt).toNat ++
    n8 (p.effClass x.2.load) ++ n16 (p.committed x.2.load)

/-- The entries of a stack with their places, bottom first (R51). -/
def numberedFrom {α : Type} : Nat → List α → List (Nat × α)
  | _, [] => []
  | i, x :: xs => (i, x) :: numberedFrom (i + 1) xs

/-- SHED_LIST (R73); the time to the next restore examination in whole seconds, truncated (log 40). -/
def Part.stackPayload (p : Part) (b : BusName) : List Byte :=
  let r := p.bus b
  n8 r.stack.length ++ n8 (stackCapacity b) ++ n8 (busWarnOf p.params b) ++ twoWay r.depthMark ++
    n8 (p.ldm.restoreTimer / 1000) ++ listField p.stackEntry (numberedFrom (stackBase b) r.stack).reverse

/-! ### OUT -/

/-- One channel of OUTPUT_STATUS (R93). -/
def Part.channelPayload (p : Part) (c : LoadId) : List Byte :=
  let r := p.chan c
  n8 r.switching.code ++ n8 r.latched.bits ++ n8 r.overCount ++ n8 r.openCount ++ n8 r.tripCount ++
    optField n16 r.last ++ twoWay r.fresh ++ leSigned 2 r.zero ++ twoWay r.zeroSat ++
    (if isLightChannel c then n16 r.duty else []) ++ bit (p.out.exercise == some c)

/-- EXERCISE (R94): the selected channel, its switching state, its latched causes; absent with no selection (log 15). -/
def Part.exercisePayload (p : Part) : List Byte :=
  optField (fun c : LoadId => encodeFin c ++ n8 (p.chan c).switching.code ++ n8 (p.chan c).latched.bits) p.out.exercise

/-! ### SLI -/

/-- The value of a line (R119): level and sender status, half degrees, or pulses per second in four bytes (log 49). -/
def encodeLineValue : LineValue → List Byte
  | .level percent st => n8 percent ++ n8 st.code
  | .temp t => leSigned 2 t
  | .rate n => n32 n

/-- The fields of a line that its mode brings (R119). -/
def LineRec.modeFields (r : LineRec) : LineMode → List Byte
  | .level => n8 r.bits ++ twoWay r.complete ++ twoWay r.nodata ++ n32 r.nodataTimer
  | .width => optField n16 r.width ++ twoWay r.nodata ++ n32 r.nodataTimer
  | .pulse => n32 r.pulseTotal.toNat ++ twoWay r.standstill ++ n32 r.standstillTimer

/-- One line of LINE_GET (R119): one presence byte for value and age, one for the learned values and their flags (log 49). -/
def Part.linePayload (p : Part) (s : LineId) : List Byte :=
  let r := p.line s
  bit r.enabled ++ n8 r.supply.code ++ n8 (p.params.lineMode s).code ++ n8 (p.params.lineRole s).code ++
    bit (p.params.adaptive s) ++ n8 (p.params.lineField s 4) ++ n16 r.thr.t1 ++ n16 r.thr.t2 ++ n16 r.thr.fall1 ++
    n16 r.thr.fall2 ++
    optField (fun r : LineRec =>
        leSigned 2 r.ib ++ leSigned 1 r.a1 ++ leSigned 1 r.a2 ++ n8 (flagBits [r.baseSat, r.a1Sat, r.a2Sat]))
      (if p.params.adaptive s then some r else none) ++
    optField (fun v : LineValue => encodeLineValue v ++ n32 (r.age.getD 0)) r.value ++
    r.modeFields (p.params.lineMode s) ++ n8 r.openTimer ++ n8 r.highCount ++ n16 r.latched.bits

/-- LINE_CONTROL (R120). -/
def Part.lineControlPayload (p : Part) (s : LineId) : List Byte :=
  encodeFin s ++ bit (p.line s).enabled ++ n8 (p.line s).supply.code ++ n16 (p.line s).latched.bits

/-! ### WAT -/

/-- The alarm threshold of a tank (R137). -/
def tankThreshold (ps : Pages) : Tank → Nat
  | .fresh => ps.lowThreshold
  | .grey => ps.fullThreshold

/-- TANK_GET (R137). -/
def Part.tankPayload (p : Part) (t : Tank) : List Byte :=
  let r := p.tank t
  n8 t.code ++ optField encodeFin (p.params.lineWith (tankRole t)) ++ n8 r.levelState.code ++ optField n8 r.level ++
    n8 r.status.code ++ optField n16 (p.volume t) ++ listField n8 r.window ++ twoWay r.alarm ++
    n8 (tankThreshold p.params t) ++ twoWay r.senderFault ++
    (match t with
      | .fresh => twoWay p.wat.dry ++ twoWay p.wat.dumped
      | .grey => [])

/-- FLOW_GET (R138): the rate in four bytes, and fresh clear with no pump load (log 49). -/
def Part.flowPayload (p : Part) : List Byte :=
  let line := p.params.lineWith .flow
  let pump := p.params.loadWith .pump
  optField encodeFin line ++ n32 p.wat.total.toNat ++ n16 p.wat.remainder ++ optField n32 p.wat.rate ++
    n16 p.params.volumePerPulse ++ optField (fun s : LineId => twoWay (p.line s).standstill) line ++
    optField encodeFin pump ++ twoWay p.wat.request ++ n8 p.wat.pump.code ++
    optField encodeStatus p.wat.lastAnswer ++ optField n16 (pump.bind fun l => (p.load l).measured) ++
    twoWay (pump.any fun l => (p.load l).fresh) ++ n16 p.params.runningThreshold ++ n8 (p.params.dryMs / 1000) ++
    n16 p.wat.dryTimer

/-- WATER (R134). -/
def Part.waterPayload (p : Part) : List Byte :=
  twoWay p.wat.request ++ n8 p.wat.pump.code ++ n8 (p.tankFlags .fresh)

/-! ### CLM -/

/-- HEAT_SET (R147). -/
def Part.heatPayload (p : Part) : List Byte :=
  n8 p.params.thermoMode.code ++ n8 p.params.setpoint.toNat ++ twoWay p.clm.call ++ n8 p.clm.heater.code ++
    n8 p.clm.held.code

/-- The thermostat record of CLIMATE_GET (R157); the next evaluation is 0 while its countdown is stopped (log 55). -/
def Part.thermostatPayload (p : Part) : List Byte :=
  n8 p.params.thermoMode.code ++ n8 p.params.setpoint.toNat ++ n8 p.params.thermoHysteresis ++
    optField (leSigned 2) p.clm.cabin ++ optField (leSigned 2) p.clm.bay ++ twoWay p.clm.call ++ twoWay p.clm.hold ++
    twoWay p.clm.heatWanted ++ optField encodeFin (p.params.loadWith .heater) ++ n8 p.clm.heater.code ++
    optField encodeStatus p.clm.heater.denial ++ n8 p.clm.held.code ++ optField n8 (secondsLeft p.clm.minOn) ++
    optField n8 (secondsLeft p.clm.minOff) ++ n8 ((secondsLeft p.clm.evalTimer).getD 0)

/-- The guard record of CLIMATE_GET (R157); the valve load and its state have a presence byte each (log 55). -/
def Part.guardPayload (p : Part) : List Byte :=
  bit p.params.guardEnabled ++ n8 p.clm.guard.code ++ leSigned 1 p.params.warnThreshold ++
    leSigned 1 p.params.dumpThreshold ++ n8 p.params.guardHysteresis ++ n8 (p.clm.unknownTimer / 1000) ++
    optField n16 (secondsLeft p.clm.riskTimer) ++ n16 (p.params.riskMs / 1000) ++ twoWay p.heaterPromoted ++
    optField encodeFin (p.params.loadWith .frostValve) ++ p.valveState

/-- CLIMATE_GET (R157). -/
def Part.climatePayload (p : Part) : List Byte := p.thermostatPayload ++ p.guardPayload

/-- FROST_DUMP (R155). -/
def Part.dumpPayload (p : Part) : List Byte := n8 p.clm.guard.code ++ p.valveState

/-- FROST_CLOSE (R156). -/
def Part.closePayload (p : Part) : List Byte :=
  n8 p.clm.guard.code ++ optField (leSigned 2) p.clm.bay ++ p.valveState

/-! ### MOT -/

/-- Which slot holds an axis: ACTIVE 0, PENDING 1, NONE 2 (R165). -/
def Part.slotCode (p : Part) (a : Axis) : Nat :=
  if p.mot.active.any (·.axis == a) then 0 else if p.mot.pend.any (·.axis == a) then 1 else 2

/-- The target of an axis, while an extension with a target runs (chapter 8, Axis records). -/
def Part.axisTarget (p : Part) (a : Axis) : Option Nat :=
  match p.mot.active with
  | some m => if m.axis = a then m.target else none
  | none => none

/-- Position and target, for AWN only (R165, R175). -/
def Part.positionFields (p : Part) : Axis → List Byte
  | .awn => optField n16 (p.axis .awn).position ++ optField n16 (p.axisTarget .awn)
  | .step => []

/-- MOVE (R165). -/
def Part.movePayload (p : Part) (a : Axis) : List Byte :=
  n8 (axisCode a) ++ n8 (p.axis a).state.code ++ n8 (p.slotCode a) ++ p.positionFields a

/-- One axis of MOTION_GET (R175). -/
def Part.axisPayload (p : Part) (a : Axis) : List Byte :=
  let x := p.axis a
  n8 x.state.code ++ twoWay (p.inSwitch a) ++ twoWay (p.outSwitch a) ++ p.positionFields a ++ n8 x.stall ++
    optField (fun r : MotionResult => n8 r.code) x.lastResult ++ optField n16 x.lastCurrent ++
    n8 (p.load (motorOf a)).state.code

/-- The timeout while it runs: absent in the dead time of a back-off, during which it is stopped (R172, R175; log 24). -/
def Mot.runningTimeout (m : Mot) : Option Nat := if m.waitsBackoff then none else m.timeout

/-- MOTION_GET (R175). -/
def Part.motionPayload (p : Part) : List Byte :=
  p.axisPayload .awn ++ p.axisPayload .step ++ optField encodeActive p.mot.active ++
    optField encodePending p.mot.pend ++ optField n8 p.mot.dead ++ optField n32 p.mot.runningTimeout ++
    optField n16 p.mot.backoff ++ twoWay p.dplus ++ twoWay p.handbrake ++ twoWay p.parked

/-! ### LUX -/

/-- LIGHT_SET (R181). -/
def Part.lightPayload (p : Part) (c : LightId) (level fade : Nat) : List Byte :=
  let r := p.light c
  encodeFin c ++ n16 level ++ n16 fade ++ n8 (p.load (lightLoad c)).state.code ++ n16 r.target ++ n16 r.present ++
    n16 r.fadeEnd ++ bit r.courtesy.isSome

/-- SCENE_RECALL (R183): the per-channel list has its entry count (log 56). -/
def Part.recallPayload (p : Part) (scene fade : Nat) (answers : List Status) : List Byte :=
  n8 scene ++ n16 fade ++
    listField (fun c => encodeStatus (answers.getD c.val .ok) ++ n8 (p.load (lightLoad c)).state.code ++ n16 (p.light c).target)
      (List.finRange 6)

/-- SCENE_STORE (R184): the six levels are plain fields (log 56). -/
def Part.storePayload (p : Part) (scene : Nat) : List Byte :=
  n8 scene ++ (List.finRange 6).flatMap fun c => n16 (p.params.sceneLevel scene c)

/-! ### MDC and LNK -/

/-- MODE_SET (R197): the modes before and after, the signals, parked, the resume flag, an exercise, the start-up progress. -/
def Part.modePayload (p : Part) (before : Mode) : List Byte :=
  n8 before.code ++ n8 p.mdc.mode.code ++ twoWay p.dplus ++ twoWay p.handbrake ++ twoWay p.mains ++ twoWay p.parked ++
    bit p.mdc.resume ++ bit p.out.exercise.isSome ++ p.progressStates ++ bit p.mdc.bankDone ++ bit p.mdc.zeroDone

/-- The link rate in baud (R201). -/
def Lnk.rate (k : Lnk) : Nat := if k.fastRate then 115200 else 19200

/-- IDENTIFY (R209). -/
def Part.identifyPayload (p : Part) : List Byte :=
  n16 (p.params.nat 0 0) ++ n16 (p.params.nat 0 1) ++ n16 (p.params.nat 0 3) ++ n8 (resetKindCode p.mdc.resetKind) ++
    n32 p.uptime.toNat ++ n32 p.lnk.rate ++ n8 p.mdc.mode.code ++ p.progressStates

/-- Values of a page from a start index, as many as named that exist (R205, R206; log 68). -/
def Pages.values (ps : Pages) (page start count : Nat) : List Word :=
  ((List.range count).filter fun k => decide (start + k < pageLength page)).map fun k => ps.get page (start + k)

/-- A parameter value in two bytes (R202). -/
def encodeWord (w : Word) : List Byte := n16 w.toNat

/-- READ_PARAM (R205). -/
def Part.readPayload (p : Part) (page start count : Nat) : List Byte :=
  n8 page ++ n8 start ++ listField encodeWord (p.params.values page start count)

/-- WRITE_PARAM (R206): page, start, count, failing index, and the values as they stood before the request, with no count of their
own (log 68). -/
def writePayload (before : Pages) (page start count failing : Nat) : List Byte :=
  n8 page ++ n8 start ++ n8 count ++ n8 failing ++ (before.values page start count).flatMap encodeWord

/-- LOAD_DEFAULTS (R208): the number of values kept, with the page and index of each. -/
def keptPayload (kept : List (Nat × Nat)) : List Byte := listField (fun x : Nat × Nat => n8 x.1 ++ n8 x.2) kept

end Sys2Proof.Machine
end

