-- ==== Sys2Proof/Machine/Requests.lean ====
section
/-! DEFINITION. What the owning block does with each request at its dispatch: the checks in the order of the request's rule, the
effect, and the reply (R195, R202). -/

namespace Sys2Proof.Machine

/-- A request as its owning block has taken it: the part after its effect, and the reply that is formed within the dispatch event
once the reports between the blocks are delivered, or `none` for a reply that is held until a completion (R202). -/
structure Handled where
  part : Part
  reply : Option (Status × (Part → List Byte))

/-- A refusal whose reply carries no payload (log 15). -/
def Part.refuse (p : Part) (st : Status) : Handled := ⟨p, some (st, fun _ => [])⟩

/-- A reply with its payload. -/
def Part.answer (p : Part) (st : Status) (payload : Part → List Byte) : Handled := ⟨p, some (st, payload)⟩

/-- A reply formed at a later completion (R202). -/
def Part.hold (p : Part) : Handled := ⟨p, none⟩

/-! ### BNK and CHG -/

/-- GET_BANK (R22). -/
def Part.getBank (p : Part) (bank : Byte) : Handled :=
  match bankArg bank with
  | some b => p.answer .ok (·.bankPayload b)
  | none => p.refuse .badArg

/-- A load other than the frost valve is ON (R6). -/
def Part.otherLoadOn (p : Part) : Bool :=
  (List.finRange 20).any fun l => (p.load l).state == .on && p.params.role l != .frostValve

/-- The checks of BANK_ZERO after its argument, in order (R6). -/
def Part.zeroRefusal (p : Part) : Option Status :=
  match p.mdc.mode with
  | .start => some .starting
  | .active => some .wrongMode
  | .storage => some .wrongMode
  | .service =>
    if p.out.exercise.isSome then some .exerciseActive
    else if p.otherLoadOn then some .loadActive
    else none

/-- BANK_ZERO (R6). -/
def Part.bankZero (p : Part) (banks : Byte) : Handled :=
  match zeroArg banks with
  | none => p.refuse .badArg
  | some z =>
    match p.zeroRefusal with
    | some e => p.refuse e
    | none => (p.startZeroing z).hold

/-- GET_CHARGE (R40). -/
def Part.getCharge (p : Part) : Handled := p.answer .ok Part.chargePayload

/-- The checks of TIE_SET after its argument, in order (R38). -/
def Part.tieRefusal (p : Part) : Option Status :=
  match p.mdc.mode with
  | .start => some .starting
  | .active => if !p.parked then some .interlock else if p.mot.active.isSome then some .interlock else none
  | _ => some .interlock

/-- The parameter value of a tie setting (R39). -/
def tieWord : Tie → Word
  | .split => 0
  | .joined => 1

/-- TIE_SET (R38): the setting, the change of R37, then the tie state in force and the number of loads shed. -/
def Part.tieSet (p : Part) (tie : Byte) : Handled :=
  match tieArg tie with
  | none => p.refuse .badArg
  | some t =>
    match p.tieRefusal with
    | some e => p.refuse e
    | none =>
      let r := (p.writeSetting 2 0 (tieWord t)).setTie t .request
      r.1.answer .ok fun q => n8 q.chg.tieRelay.code ++ n8 r.2

/-! ### LDM -/

/-- The effect of LOAD_SET on a load that the host owns (R70). -/
def Part.loadSwitched (p : Part) (l : LoadId) (on : Bool) : Part × Status :=
  if p.mdc.mode = .start then (p, .starting)
  else if on then p.demand l none
  else (p.wantedOff l, .ok)

/-- LOAD_SET (R70). -/
def Part.loadSet (p : Part) (load sw : Byte) : Handled :=
  match loadArg load with
  | none => p.refuse .badArg
  | some l =>
    match switchArg sw with
    | none => p.answer .badArg (·.loadSetPayload l .badArg)
    | some on =>
      if ownerOf p.params l = .host then
        let r := p.loadSwitched l on
        r.1.answer r.2 (·.loadSetPayload l r.2)
      else p.answer .owned (·.loadSetPayload l .owned)

/-- LOAD_GET (R71). -/
def Part.loadGet (p : Part) (load : Byte) : Handled :=
  match loadArg load with
  | some l => p.answer .ok (·.loadPayload l)
  | none => p.refuse .badArg

/-- GET_BUS: while joined, either argument reports JOINED (R72). -/
def Part.getBus (p : Part) (bus : Byte) : Handled :=
  match bankArg bus with
  | some b => p.answer .ok fun q => q.busPayload (q.busOfBank b)
  | none => p.refuse .badArg

/-- SHED_LIST: while joined, either argument reports the joined stack (R73). -/
def Part.shedList (p : Part) (bus : Byte) : Handled :=
  match bankArg bus with
  | some b => p.answer .ok fun q => q.stackPayload (q.busOfBank b)
  | none => p.refuse .badArg

/-! ### OUT -/

/-- OUTPUT_STATUS (R93); the reply is a list with its count for one channel too (log 56). -/
def Part.outputStatus (p : Part) (channel clear : Byte) : Handled :=
  match channelsArg channel, flagArg clear with
  | some cs, some c =>
    (if c then cs.foldl Part.clearChannel p else p).answer .ok fun q => listField q.channelPayload cs
  | _, _ => p.refuse .badArg

/-- The checks of SPOT_CHECK after its argument, in order (R96). -/
def Part.spotRefusal (p : Part) (c : LoadId) : Option Status :=
  if p.out.zeroPass.isSome then some .starting
  else if 4 ≤ p.out.spotQueue.length ∧ !p.out.spotQueue.any (·.channel == c) then some .busy
  else none

/-- SPOT_CHECK (R96). -/
def Part.spotCheck (p : Part) (channel : Byte) : Handled :=
  match loadArg channel with
  | none => p.refuse .badArg
  | some c =>
    match p.spotRefusal c with
    | some e => p.refuse e
    | none => (p.postHostSpot c).hold

/-- EXERCISE must find SERVICE (R94). -/
def Part.serviceRefusal (p : Part) : Option Status :=
  match p.mdc.mode with
  | .start => some .starting
  | .service => none
  | _ => some .wrongMode

/-- EXERCISE NONE (R94). -/
def Part.exerciseNone (p : Part) : Handled :=
  match p.serviceRefusal with
  | some e => p.refuse e
  | none => p.exerciseRelease.answer .ok Part.exercisePayload

/-- A selecting EXERCISE (R94). -/
def Part.exerciseSet (p : Part) (channel sw : Byte) : Handled :=
  match loadArg channel, switchArg sw with
  | some c, some on =>
    match p.serviceRefusal with
    | some e => p.refuse e
    | none =>
      match p.exerciseRefusal c with
      | some e => p.refuse e
      | none => (p.exerciseSelect c on).answer .ok Part.exercisePayload
  | _, _ => p.refuse .badArg

/-- EXERCISE: a switch argument selects, and the byte 0xFF alone is NONE (R94, R202). -/
def Part.exercise (p : Part) (channel : Byte) (sw : Option Byte) : Handled :=
  match sw with
  | some x => p.exerciseSet channel x
  | none => if channel = 0xFF#8 then p.exerciseNone else p.refuse .badArg

/-! ### SLI -/

/-- LINE_GET (R119); the reply is a list with its count for one line too (log 56). -/
def Part.lineGet (p : Part) (line clear : Byte) : Handled :=
  match linesArg line, flagArg clear with
  | some ss, some c =>
    (if c then ss.foldl Part.clearLine p else p).answer .ok fun q => listField q.linePayload ss
  | _, _ => p.refuse .badArg

/-- LINE_CONTROL (R120). -/
def Part.lineControl (p : Part) (line sw : Byte) : Handled :=
  match lineArg line, switchArg sw with
  | some s, some on =>
    if p.mdc.mode = .start then p.refuse .starting
    else if on then
      if (p.line s).controlFaulted then p.refuse .faulted
      else (p.lineOn s).answer .ok (·.lineControlPayload s)
    else (p.lineOff s).answer .ok (·.lineControlPayload s)
  | _, _ => p.refuse .badArg

/-! ### WAT -/

/-- WATER (R134). -/
def Part.water (p : Part) (sw : Byte) : Handled :=
  match switchArg sw with
  | none => p.refuse .badArg
  | some true =>
    let r := p.waterOn
    r.1.answer r.2 Part.waterPayload
  | some false => p.dropPump.answer .ok Part.waterPayload

/-- TANK_GET (R137). -/
def Part.tankGet (p : Part) (tank : Byte) : Handled :=
  match tankArg tank with
  | some t => p.answer .ok (·.tankPayload t)
  | none => p.refuse .badArg

/-- FLOW_GET (R138). -/
def Part.flowGet (p : Part) : Handled := p.answer .ok Part.flowPayload

/-! ### CLM -/

/-- The setpoint as HEAT_SET takes it (R147). -/
def clampSetpoint (setpoint : Word) : Word := BitVec.ofInt 16 (clampInt 10 60 setpoint.toInt)

/-- HEAT_SET (R147). -/
def Part.heatSet (p : Part) (mode : Byte) (setpoint : Word) : Handled :=
  match thermoArg mode with
  | none => p.refuse .badArg
  | some m =>
    if p.mdc.mode = .start then p.refuse .starting
    else
      let q := (p.writeSetting 7 0 (BitVec.ofNat 16 m.code)).writeSetting 7 1 (clampSetpoint setpoint)
      q.formCalls.heaterJudge.answer .ok Part.heatPayload

/-- The reply of FROST_DUMP and FROST_CLOSE: the payload with status OK (log 15). -/
def frostReply (r : Part × Status) (payload : Part → List Byte) : Handled :=
  if r.2 = .ok then r.1.answer .ok payload else r.1.refuse r.2

/-- FROST_DUMP (R155). -/
def Part.frostDump (p : Part) : Handled := frostReply p.frostDumped Part.dumpPayload

/-- FROST_CLOSE (R156). -/
def Part.frostClose (p : Part) : Handled := frostReply p.frostClosed Part.closePayload

/-- CLIMATE_GET (R157). -/
def Part.climateGet (p : Part) : Handled := p.answer .ok Part.climatePayload

/-! ### MOT -/

/-- A target is given with anything but AWN EXTEND (R165). -/
def badTarget (a : Axis) (cmd : MoveCmd) (target : Option Word) : Bool :=
  target.isSome && !(a == .awn && cmd == .extend)

/-- The direction of a command; STOP has none (R165). -/
def MoveCmd.direction : MoveCmd → Option Direction
  | .extend => some .extend
  | .retract => some .retract
  | .stop => none

/-- A target above 1000 is taken as 1000 (R165). -/
def clampTarget (target : Option Word) : Option Nat := target.map fun t => min 1000 t.toNat

/-- A MOVE that passed its argument checks (R165). -/
def Part.moveTaken (p : Part) (a : Axis) (cmd : MoveCmd) (target : Option Word) : Part × Status :=
  match p.moveRefusal a cmd.direction with
  | some e => (p, e)
  | none =>
    match cmd.direction with
    | none => (p.stopAxis a, .ok)
    | some d => p.moveAxis a d (clampTarget target)

/-- MOVE (R165). -/
def Part.move (p : Part) (axis cmd : Byte) (target : Option Word) : Handled :=
  match axisArg axis, moveArg cmd with
  | some a, some c =>
    if badTarget a c target then p.answer .badArg (·.movePayload a)
    else
      let r := p.moveTaken a c target
      r.1.answer r.2 (·.movePayload a)
  | some a, none => p.answer .badArg (·.movePayload a)
  | none, _ => p.refuse .badArg

/-- MOTION_GET (R175). -/
def Part.motionGet (p : Part) : Handled := p.answer .ok Part.motionPayload

/-! ### LUX -/

/-- LIGHT_SET (R181). -/
def Part.lightSet (p : Part) (channel : Byte) (level fade : Word) : Handled :=
  match lightArg channel with
  | none => p.refuse .badArg
  | some c =>
    let lv := clampLevel level.toNat
    let fd := clampFade fade.toNat
    let r := if p.mdc.mode = .start then (p, Status.starting) else p.setLevel c lv fd
    r.1.answer r.2 (·.lightPayload c lv fd)

/-- SCENE_RECALL (R183). -/
def Part.sceneRecall (p : Part) (scene : Byte) (fade : Word) : Handled :=
  if 3 < scene.toNat then p.refuse .badArg
  else if p.mdc.mode = .start then p.refuse .starting
  else
    let fd := clampFade fade.toNat
    let r := p.recallFrom scene.toNat fd (List.finRange 6)
    r.1.answer .ok (·.recallPayload scene.toNat fd r.2)

/-- SCENE_STORE (R184). -/
def Part.sceneStore (p : Part) (scene : Byte) : Handled :=
  if 3 < scene.toNat then p.refuse .badArg
  else if p.mdc.mode = .start then p.refuse .starting
  else (p.storeScene scene.toNat).answer .ok (·.storePayload scene.toNat)

/-! ### MDC -/

/-- MODE_SET (R197). -/
def Part.modeSet (p : Part) (mode : Byte) : Handled :=
  let before := p.mdc.mode
  match modeArg mode with
  | none => p.answer .badArg (·.modePayload before)
  | some m =>
    let r := p.modeAsked m
    r.1.answer r.2 (·.modePayload before)

/-! ### LNK -/

/-- IDENTIFY (R209). -/
def Part.identify (p : Part) : Handled := p.answer .ok Part.identifyPayload

/-- READ_PARAM (R205). -/
def Part.readParam (p : Part) (page start count : Byte) : Handled :=
  if 9 < page.toNat ∨ count.toNat = 0 ∨ 28 < count.toNat then p.refuse .badArg
  else if pageLength page.toNat ≤ start.toNat then p.refuse .range
  else p.answer .ok (·.readPayload page.toNat start.toNat count.toNat)

/-- The outcome of WRITE_PARAM: status and failing index (R206). -/
def Part.writeTaken (p : Part) (page start count : Nat) (values : List Word) : Part × Status × Nat :=
  if 9 < page ∨ count = 0 ∨ 28 < count ∨ values.length ≠ count then (p, .badArg, 0xFF)
  else if p.mdc.mode = .start then (p, .starting, 0xFF)
  else p.writeParam page (writesFrom start values)

/-- WRITE_PARAM (R206). -/
def Part.writeParams (p : Part) (page start count : Byte) (values : List Word) : Handled :=
  let r := p.writeTaken page.toNat start.toNat count.toNat values
  r.1.answer r.2.1 fun _ => writePayload p.params page.toNat start.toNat count.toNat r.2.2

/-- SAVE (R207). -/
def Part.save (p : Part) : Handled :=
  if p.mdc.mode = .start then p.refuse .starting
  else if p.lnk.memory ≠ .idle then p.refuse .busy
  else p.startSave.hold

/-- LOAD_DEFAULTS (R208). -/
def Part.loadDefaults (p : Part) : Handled :=
  match p.defaultsRefusal with
  | some e => p.refuse e
  | none => p.applyDefaults.answer .ok fun _ => keptPayload p.keptValues

/-- RESET: the SOFT reset follows the sending of the reply (R209). -/
def Part.resetAsked (p : Part) : Handled :=
  ({ p with lnk := { p.lnk with resetPending := true } }).answer .ok fun _ => []

/-- NOTICE_MASK (R212). -/
def Part.noticeMask (p : Part) (mask : Word) : Handled :=
  if 16383 < mask.toNat then p.refuse .badArg
  else (p.writeSetting 0 2 mask).answer .ok fun q => n16 (q.params.nat 0 2)

/-! ### All requests -/

/-- A request is taken by its owning block (R202). -/
def Part.handle (p : Part) : Request → Handled
  | .identify => p.identify
  | .readParam page start count => p.readParam page start count
  | .writeParam page start count values => p.writeParams page start count values
  | .save => p.save
  | .loadDefaults => p.loadDefaults
  | .reset => p.resetAsked
  | .getBank bank => p.getBank bank
  | .bankZero banks => p.bankZero banks
  | .getCharge => p.getCharge
  | .tieSet tie => p.tieSet tie
  | .getBus bus => p.getBus bus
  | .loadSet load sw => p.loadSet load sw
  | .loadGet load => p.loadGet load
  | .shedList bus => p.shedList bus
  | .outputStatus channel clear => p.outputStatus channel clear
  | .spotCheck channel => p.spotCheck channel
  | .exercise channel sw => p.exercise channel sw
  | .lineGet line clear => p.lineGet line clear
  | .lineControl line sw => p.lineControl line sw
  | .tankGet tank => p.tankGet tank
  | .flowGet => p.flowGet
  | .water sw => p.water sw
  | .heatSet mode setpoint => p.heatSet mode setpoint
  | .climateGet => p.climateGet
  | .frostDump => p.frostDump
  | .frostClose => p.frostClose
  | .move axis cmd target => p.move axis cmd target
  | .motionGet => p.motionGet
  | .lightSet channel level fade => p.lightSet channel level fade
  | .sceneRecall scene fade => p.sceneRecall scene fade
  | .sceneStore scene => p.sceneStore scene
  | .modeSet mode => p.modeSet mode
  | .noticeMask mask => p.noticeMask mask
  | .malformed _ => p.refuse .badArg

end Sys2Proof.Machine
end

