-- ==== Sys2Proof/Machine/Link.lean ====
section
/-! DEFINITION. The Control Link at work: dispatch and taking of requests, the frame receiver, the end of a sent frame, and the
common end of every event (R201 to R203, R209). -/

namespace Sys2Proof.Machine

/-! ### Dispatch (R202) -/

/-- The head request may be dispatched: the start-up load is done, no request is in flight, the reply slot is empty (R202). -/
def Part.canDispatch (p : Part) : Bool := p.mdc.settings.isSome && !p.lnk.inFlight && p.lnk.reply.isNone

/-- A request at the head is taken by its owner; its reply goes into the slot, or the request stays at the head (R202). -/
def Part.dispatchHead (p : Part) (r : Request) : Part :=
  let h := p.handle r
  let q := h.part.delivered
  match h.reply with
  | some (st, payload) => q.formReply r st (payload q)
  | none => { q with lnk := { q.lnk with inFlight := true } }

/-- The head of the request queue is dispatched when it can be (R202). -/
def Part.dispatch (p : Part) : Part :=
  if p.canDispatch then
    match p.lnk.requests with
    | r :: _ => p.dispatchHead r
    | [] => p
  else p

/-- A request joins the tail of the queue, or is answered BUSY when 2 are queued (R202). -/
def Part.takeRequest (p : Part) (r : Request) : Part :=
  if 2 ≤ p.lnk.requests.length then p.queueImmediate (replyKind (requestKind r)) .busy
  else ({ p with lnk := { p.lnk with requests := p.lnk.requests ++ [r] } }).dispatch

/-- The body of a completed frame is taken: a request of an assigned kind, or an UNKNOWN_KIND reply (R202). -/
def Part.takeFrame (p : Part) : List Byte → Part
  | [] => p
  | k :: args =>
    if kindAssigned k then p.takeRequest (parseRequest k args)
    else p.queueImmediate (unknownReplyKind k) .unknownKind

/-! ### The receiver (R201) -/

/-- The receiver takes a state; outside HUNT its frame timer restarts (R201). -/
def Part.receiver (p : Part) (rx : Receiver) : Part :=
  { p with lnk := { p.lnk with rx := rx, rxTimer := if rx = .hunt then none else some 0 } }

/-- A frame is discarded with a LINK_ERROR reply (R201). -/
def Part.badFrame (p : Part) : Part := (p.receiver .hunt).queueImmediate 0x80 .linkError

/-- A LEN byte (R201). -/
def Part.lenByte (p : Part) (n : Nat) : Part :=
  if 1 ≤ n ∧ n ≤ 64 then p.receiver (.body n []) else p.badFrame

/-- A BODY byte: with LEN bytes gathered the receiver moves to CRC (R201). -/
def Part.bodyByte (p : Part) (len : Nat) (bytes : List Byte) : Part :=
  if len ≤ bytes.length then p.receiver (.crc bytes) else p.receiver (.body len bytes)

/-- The CRC byte completes the frame, or discards it with a LINK_ERROR reply (R201). -/
def Part.crcByte (p : Part) (bytes : List Byte) (b : Byte) : Part :=
  if b = crc8 (BitVec.ofNat 8 bytes.length :: bytes) then (p.receiver .hunt).takeFrame bytes else p.badFrame

/-- A received character (R201). -/
def Part.rxByte (p : Part) (b : Byte) (stopOk : Bool) : Part :=
  if stopOk then
    match p.lnk.rx with
    | .hunt => if b = 0xA7#8 then p.receiver .len else p
    | .len => p.lenByte b.toNat
    | .body len bytes => p.bodyByte len (bytes ++ [b])
    | .crc bytes => p.crcByte bytes b
  else p.receiver .hunt

/-- The expiry of the frame timer discards the frame without reply (R201). -/
def Part.rxExpired (p : Part) : Part := p.receiver .hunt

/-! ### The end of a sent frame (R203, R209) -/

/-- The last segment of a reply has been sent: the slot empties, and a RESET's SOFT reset or the next dispatch follows. -/
def Part.replySent (p : Part) : Part :=
  let q := { p with lnk := { p.lnk with reply := none } }
  if q.lnk.resetPending then q.resetPart .soft else q.dispatch

/-- A segment has been sent: the next one follows back to back (R203). -/
def Part.segmentSent (p : Part) (last : Bool) : Part :=
  if last then p.replySent
  else
    match p.lnk.reply with
    | some r => p.sendSegment r
    | none => p

/-- NOTICE_LOST is cleared by the last segment of a reply that carried it, and by an immediate reply that did (R211). -/
def TxFrame.clearsLost (f : TxFrame) : Bool :=
  f.carriesLost &&
    (match f.source with
      | .segment last => last
      | .immediate => true
      | .notice _ _ => false)

/-- The frame being sent has been sent, and an immediate reply leaves its place (R203). -/
def Part.frameSent (p : Part) : Part :=
  match p.lnk.tx with
  | none => p
  | some f =>
    let q := ({ p with lnk := { p.lnk with tx := none } }).lostReported f.clearsLost
    match f.source with
    | .segment last => q.segmentSent last
    | .immediate => { q with lnk := { q.lnk with immediate := none } }
    | .notice _ _ => q

/-! ### Start-up and the common end of an event -/

/-- The start-up load with the reports it makes, then the dispatch of a request that has waited for it (R193, R202; log 6). -/
def Part.startUpLoaded (p : Part) : Part := p.startUp.delivered.dispatch

/-- The end of every event: the reports between the blocks are delivered (log 6), a failed dry condition zeroes the dry timer
(R135), and an idle transmitter chooses (R203; log 5). -/
def Part.finish (p : Part) : Part := p.delivered.dryCheck.transmit

end Sys2Proof.Machine
end

