-- ==== Sys2Proof/Machine/Clock.lean ====
section
/-! DEFINITION. The part's own clock (log 2): what 1 ms does to the timers, and which command falls due by it. A countdown falls
due when it has reached 0, a count-up timer when it has reached its limit. -/

namespace Sys2Proof.Machine

/-! ### One millisecond on the records -/

/-- The staleness timer and the pad retry timer (R33, R36). -/
def Chg.tick (c : Chg) : Chg := { c with battTimer := tickDown c.battTimer, padRetry := tickDown c.padRetry }

/-- The below-cut timer (R49). -/
def BusRec.tick (b : BusRec) : BusRec := { b with belowCut := tickDown b.belowCut }

/-- The below-cut timers and the restore timer (R49, R63). -/
def Ldm.tick (d : Ldm) : Ldm :=
  { d with busA := d.busA.tick, busB := d.busB.tick, busJ := d.busJ.tick, restoreTimer := d.restoreTimer - 1 }

/-- The freshness countdown and the inrush blank (R85, R88). -/
def Channel.tick (c : Channel) : Channel := { c with freshTimer := tickDown c.freshTimer, inrush := tickDown c.inrush }

/-- The measurement under way (R80). -/
def Measuring.tick (m : Measuring) : Measuring := { m with left := m.left - 1 }

/-- The channels, the measurement under way and the pass timer (R80, R83). -/
def Out.tick (o : Out) : Out :=
  { o with
    channels := o.channels.map Channel.tick, running := o.running.map Measuring.tick, passTimer := tickDown o.passTimer }

/-- The timers of a line: age, no-data timer, standstill timer and open timer count up, settling and rate count down (R99, R109,
R112, R117). -/
def LineRec.tick (r : LineRec) (mode : LineMode) : LineRec :=
  { r with
    settle := tickDown r.settle
    rateTimer := tickDown r.rateTimer
    age := r.age.map fun a => min 3600000 (a + 1)
    nodataTimer := if r.enabled && mode != .pulse then min 3600000 (r.nodataTimer + 1) else r.nodataTimer
    standstillTimer := if r.supply == .on && mode == .pulse then min 3600000 (r.standstillTimer + 1) else r.standstillTimer
    openTimer := if r.supply == .on && decide (r.current < 20) then min 20 (r.openTimer + 1) else r.openTimer }

/-- The lines and the two storage countdowns (R122); a written standstill time has met this advance (R121). -/
def Sli.tick (l : Sli) (ps : Pages) : Sli :=
  { l with
    lines := l.lines.mapFinIdx fun i r h => r.tick (ps.lineMode ⟨i, h⟩)
    dutyTimer := tickDown l.dutyTimer, windowTimer := tickDown l.windowTimer, standWritten := false }

/-- The dry timer, which counts while the dry condition holds; a written dry time or threshold has met this advance (R135,
R140). -/
def Wat.tick (w : Wat) (dry : Bool) : Wat :=
  { w with dryTimer := if dry then w.dryTimer + 1 else 0, dryWritten := false }

/-- The countdowns of the Climate Unit, and the unknown timer while it runs (R142, R144, R145, R149, R150). -/
def Clm.tick (c : Clm) (unknown : Bool) : Clm :=
  { c with
    cabinTimer := tickDown c.cabinTimer, bayTimer := tickDown c.bayTimer, evalTimer := tickDown c.evalTimer
    minOn := tickDown c.minOn, minOff := tickDown c.minOff, riskTimer := tickDown c.riskTimer
    unknownTimer := if unknown then min 60000 (c.unknownTimer + 1) else c.unknownTimer }

/-- The timers of the Motion Unit (R164, R168, R171, R172). -/
def Mot.ticked (m : Mot) : Mot :=
  { m with
    dead := tickDown m.dead, tick := tickDown m.tick, inrush := tickDown m.inrush, watch := tickDown m.watch
    timeout := if m.waitsBackoff then m.timeout else tickDown m.timeout
    backoff := tickDown m.backoff }

/-- The fade tick and the courtesy timer (R180, R185). -/
def LightRec.ticked (r : LightRec) : LightRec := { r with tick := tickDown r.tick, courtesy := tickDown r.courtesy }

/-- A debounce timer counts up to its debounce time (R189). -/
def SignalRec.tick (r : SignalRec) (limit : Nat) : SignalRec := { r with timer := min limit (r.timer + 1) }

/-- The debounce timers (R189). -/
def Signals.tick (g : Signals) : Signals :=
  { dplus := g.dplus.tick (debounceMs .dplus)
    handbrake := g.handbrake.tick (debounceMs .handbrake)
    mainsOk := g.mainsOk.tick (debounceMs .mainsOk)
    awnIn := g.awnIn.tick (debounceMs .awnIn)
    awnOut := g.awnOut.tick (debounceMs .awnOut)
    stepIn := g.stepIn.tick (debounceMs .stepIn)
    stepOut := g.stepOut.tick (debounceMs .stepOut) }

/-- The frame timer and the snapshot countdown (R201, R210). -/
def Lnk.tick (k : Lnk) : Lnk := { k with rxTimer := k.rxTimer.map (· + 1), snapTimer := k.snapTimer - 1 }

/-- 1 ms passes for every timer of the part (00 "Time"; log 2). -/
def Part.tick (p : Part) : Part :=
  { p with
    uptime := if p.subSecond = 999 then p.uptime + 1 else p.uptime
    subSecond := if p.subSecond = 999 then 0 else p.subSecond + 1
    chg := p.chg.tick
    ldm := p.ldm.tick
    out := p.out.tick
    sli := p.sli.tick p.params
    wat := p.wat.tick p.dryCondition
    clm := p.clm.tick p.unknownRuns
    mot := p.mot.ticked
    lux := { p.lux with lights := p.lux.lights.map LightRec.ticked }
    mdc := { p.mdc with signals := p.mdc.signals.tick, sinceReset := min 20 (p.mdc.sinceReset + 1) }
    lnk := p.lnk.tick }

/-! ### Which command is due -/

/-- A command when its condition holds. -/
def dueIf (c : Bool) (i : Instr) : List Instr := if c then [i] else []

/-- The start-up load is due 20 ms after a reset at the latest (R193). -/
def Part.dueStart (p : Part) : List Instr := dueIf (p.mdc.settings.isNone && decide (20 ≤ p.mdc.sinceReset)) .startUpLoad

/-- A debounce timer has reached its time and the raw level differs from the debounced state (R189). -/
def Part.dueSignal (p : Part) (x : Signal) : List Instr :=
  let r := p.signal x
  dueIf (r.raw != r.deb && decide (debounceMs x ≤ r.timer)) (.debounceExpiry x)

/-- The debounce expiries, in the order of the signal table (R189). -/
def Part.dueSignals (p : Part) : List Instr :=
  [Signal.dplus, .handbrake, .mainsOk, .awnIn, .awnOut, .stepIn, .stepOut].flatMap p.dueSignal

/-- The expiries of the Control Link: more than 10 ms since the last byte (R201), and the snapshot countdown (R210). -/
def Part.dueLink (p : Part) : List Instr :=
  dueIf (p.lnk.rxTimer.any fun t => decide (10 < t)) .frameTimeout ++
    dueIf (p.lnk.snapTimer == 0) .snapshotCountdownExpiry

/-- The expiries of Charge Control and the Load Manager (R33, R36, R49, R63). -/
def Part.duePower (p : Part) : List Instr :=
  dueIf (isDue p.chg.battTimer) .battTempStale ++ dueIf (isDue p.chg.padRetry) .padRetryExpiry ++
    ([BusName.A, .B, .joined].flatMap fun b => dueIf (isDue (p.bus b).belowCut) (.undervoltageExpiry b)) ++
    dueIf (p.ldm.restoreTimer == 0) .restoreExamination

/-- A driver's report that stands but is not latched, as after a reset, is taken anew once the part runs (R98, R124; log 10); so
is a foreign voltage on a line that has been powered (R99, R116). -/
def Part.dueReports (p : Part) : List Instr :=
  if p.mdc.settings.isSome then
    ((List.finRange 5).flatMap fun g =>
      dueIf (p.out.groupHot[g] && (groupChannels g).any fun c => !(p.chan c).latched.hot) (.groupHotWarning g)) ++
    ((List.finRange 20).flatMap fun c =>
      dueIf ((p.chan c).backfeedStands && !(p.chan c).latched.backfeed && (p.chan c).switching != .on)
        (.backfeedReport c)) ++
    dueIf (p.sli.driverHot && (List.finRange 6).any fun s => !(p.line s).latched.hot) .lineDriverHot ++
    ((List.finRange 6).flatMap fun s =>
      dueIf (decide (500 < (p.line s).overRail) && (!(p.line s).latched.shortBat || (p.line s).powered))
        (.lineShortBat s (p.line s).overRail))
  else []

/-- The expiries of the Output Monitor (R83, R85, R88). -/
def Part.dueOutputs (p : Part) : List Instr :=
  ([Axis.awn, .step].flatMap fun a => dueIf (isDue (p.chan (motorOf a)).inrush) (.inrushBlankExpiry a)) ++
    ((List.finRange 20).flatMap fun c => dueIf (isDue (p.chan c).freshTimer) (.freshnessExpiry c)) ++
    dueIf (isDue p.out.passTimer) .storagePassTimer

/-- The expiries of one line (R99, R109, R112, R117). -/
def Part.dueLine (p : Part) (s : LineId) : List Instr :=
  let r := p.line s
  dueIf (isDue r.settle) (.settlingExpiry s) ++ dueIf (isDue r.rateTimer) (.rateCountdownExpiry s) ++
    dueIf (p.params.lineMode s == .pulse && r.supply == .on && !r.standstill && !p.sli.standWritten &&
      decide (p.params.standstillMs ≤ r.standstillTimer)) (.standstillReached s) ++
    dueIf (p.usesNodata s && !r.nodata && decide (p.nodataLimit s ≤ r.nodataTimer)) (.nodataReached s) ++
    dueIf (r.supply == .on && decide (r.current < 20) && !r.latched.openWire && decide (20 ≤ r.openTimer)) (.lineOpen s)

/-- The expiries of the Sensor Line Interface (R122). -/
def Part.dueLines (p : Part) : List Instr :=
  (List.finRange 6).flatMap p.dueLine ++ dueIf (isDue p.sli.windowTimer) .storageWindowExpiry ++
    dueIf (isDue p.sli.dutyTimer) .storageDutyExpiry

/-- The expiries of the Water Unit and the Climate Unit (R135, R142, R144, R145, R149, R150). -/
def Part.dueWaterHeat (p : Part) : List Instr :=
  dueIf (p.dryCondition && !p.wat.dryWritten && decide (p.params.dryMs ≤ p.wat.dryTimer)) .dryTimeout ++
    dueIf (isDue p.clm.cabinTimer) (.climateTempStale .cabin) ++ dueIf (isDue p.clm.bayTimer) (.climateTempStale .bay) ++
    dueIf (isDue p.clm.minOn) .minOnExpiry ++ dueIf (isDue p.clm.minOff) .minOffExpiry ++
    dueIf (isDue p.clm.evalTimer) .thermostatEvaluation ++
    dueIf (p.unknownRuns && p.clm.guard == .watch && decide (60000 ≤ p.clm.unknownTimer)) .guardUnknownTimeout ++
    dueIf (isDue p.clm.riskTimer) .riskTimerExpiry

/-- The expiries of the Motion Unit and the Light Unit; a timeout and a result watch count for a motion that drives (R164, R168,
R170 to R172, R180, R186). -/
def Part.dueMotionLight (p : Part) : List Instr :=
  let drives := p.mot.active.any Motion.driving
  dueIf (isDue p.mot.dead) .deadTimeExpiry ++ dueIf (isDue p.mot.inrush) .motionInrushBlankExpiry ++
    dueIf (isDue p.mot.backoff && drives) .backoffExpiry ++ dueIf (isDue p.mot.timeout && drives) .motionTimeout ++
    dueIf (isDue p.mot.watch && drives) .resultWatchExpiry ++
    dueIf (isDue p.mot.tick && p.mot.active.isSome) .driveTick ++
    ((List.finRange 6).flatMap fun c =>
      dueIf (isDue (p.light c).tick && (p.light c).fadeStep.isSome) (.fadeTick c)) ++
    dueIf (p.stepLight.any fun c => isDue (p.light c).courtesy) .courtesyTimerExpiry

/-- Every command due, in the fixed order of the model (log 2). -/
def Part.dues (p : Part) : List Instr :=
  p.dueStart ++ p.dueSignals ++ p.dueLink ++ p.duePower ++ p.dueReports ++ p.dueOutputs ++ p.dueLines ++ p.dueWaterHeat ++
    p.dueMotionLight

/-- The first command due. -/
def Part.due (p : Part) : Option Instr := p.dues.head?

end Sys2Proof.Machine
end

