-- ==== Sys2Proof/Machine/Event.lean ====
section
/-! DEFINITION. The two forms of a meaning: an event of the part, and a request that reaches the Control Link as a frame. -/

namespace Sys2Proof.Machine

/-- What a meaning answers. -/
abbrev Result := Host.Outcome State Fault Refusal

/-- An event of the part, with the end that every event has; the queue is left as it is (log 5). -/
def State.event (s : State) (f : Part → Part) : Result := .next { s with part := (f s.part).finish }

/-- A request, taken whole as the frame that carries it (R202; log 4). -/
def State.request (s : State) (r : Request) : Result := s.event (·.takeRequest r)

end Sys2Proof.Machine
end

