-- ==== Sys2Proof/Machine/BankCommands.lean ====
section
/-! DEFINITION. The meanings of the commands of the Bank Monitor, one for each row of the table. -/

namespace Sys2Proof.Machine

/-- BANK_SAMPLE: count and clamped voltage, calibrating or counting (R1, R17). -/
def execBankSample (bank : Bank) (count : Word) (millivolts : Int) (s : State) : Result :=
  s.event (·.bankSampled bank count.toInt (clampToNat 20000 millivolts))

/-- GET_BANK (R22). -/
def execGetBank (bank : Byte) (s : State) : Result :=
  s.request (.getBank bank)

/-- BANK_ZERO (R6). -/
def execBankZero (banks : Byte) (s : State) : Result :=
  s.request (.bankZero banks)

end Sys2Proof.Machine
end

