-- ==== Sys2Proof/Machine/ChargeCommands.lean ====
section
/-! DEFINITION. The meanings of the commands of Charge Control, one for each row of the table. -/

namespace Sys2Proof.Machine

/-- STARTER_SAMPLE: the clamped voltage moves the counts (R29, R190). -/
def execStarterSample (millivolts : Int) (s : State) : Result :=
  s.event (·.starterSampled (clampToNat 20000 millivolts))

/-- BATT_TEMP_STALE: the battery temperature becomes unknown (R33). -/
def execBattTempStale (s : State) : Result :=
  s.event Part.battTempExpired

/-- PAD_RETRY_EXPIRY: the pad is demanded again while its conditions hold (R36). -/
def execPadRetryExpiry (s : State) : Result :=
  s.event Part.padRetried

/-- TIE_SET (R38). -/
def execTieSet (tie : Byte) (s : State) : Result :=
  s.request (.tieSet tie)

/-- GET_CHARGE (R40). -/
def execGetCharge (s : State) : Result :=
  s.request .getCharge

end Sys2Proof.Machine
end

