-- ==== Sys2Proof/Machine/ClimateCommands.lean ====
section
/-! DEFINITION. The meanings of the commands of the Climate Unit, one for each row of the table. -/

namespace Sys2Proof.Machine

/-- CLIMATE_TEMP_STALE: a held temperature is judged anew (R142). -/
def execClimateTempStale (temp : ClimateTemp) (s : State) : Result :=
  s.event (·.climateStale temp)

/-- THERMOSTAT_EVALUATION: the calls are formed and the demand judged (R144). -/
def execThermostatEvaluation (s : State) : Result :=
  s.event Part.evaluationExpired

/-- MIN_ON_EXPIRY: the demand is judged (R145). -/
def execMinOnExpiry (s : State) : Result :=
  s.event Part.minOnExpired

/-- MIN_OFF_EXPIRY: the demand is judged (R145). -/
def execMinOffExpiry (s : State) : Result :=
  s.event Part.minOffExpired

/-- HEAT_SET (R147). -/
def execHeatSet (mode : Byte) (setpoint : Word) (s : State) : Result :=
  s.request (.heatSet mode setpoint)

/-- GUARD_UNKNOWN_TIMEOUT: the unknown timer reaches 60 s (R149). -/
def execGuardUnknownTimeout (s : State) : Result :=
  s.event Part.unknownReached

/-- RISK_TIMER_EXPIRY: the guard enters DUMPED (R150, R153). -/
def execRiskTimerExpiry (s : State) : Result :=
  s.event Part.riskExpired

/-- FROST_DUMP (R155). -/
def execFrostDump (s : State) : Result :=
  s.request .frostDump

/-- FROST_CLOSE (R156). -/
def execFrostClose (s : State) : Result :=
  s.request .frostClose

/-- CLIMATE_GET (R157). -/
def execClimateGet (s : State) : Result :=
  s.request .climateGet

end Sys2Proof.Machine
end

