-- ==== Sys2Proof/Machine/LightCommands.lean ====
section
/-! DEFINITION. The meanings of the commands of the Light Unit, one for each row of the table. -/

namespace Sys2Proof.Machine

/-- FADE_TICK: the present level moves one step (R180). -/
def execFadeTick (channel : LightId) (s : State) : Result :=
  s.event (·.fadeTicked channel)

/-- LIGHT_SET (R181). -/
def execLightSet (channel : Byte) (level fade : Word) (s : State) : Result :=
  s.request (.lightSet channel level fade)

/-- SCENE_RECALL (R183). -/
def execSceneRecall (scene : Byte) (fade : Word) (s : State) : Result :=
  s.request (.sceneRecall scene fade)

/-- SCENE_STORE (R184). -/
def execSceneStore (scene : Byte) (s : State) : Result :=
  s.request (.sceneStore scene)

/-- COURTESY_TIMER_EXPIRY: the step light goes to 0 (R186). -/
def execCourtesyTimerExpiry (s : State) : Result :=
  s.event Part.courtesyExpired

end Sys2Proof.Machine
end

