-- ==== Sys2Proof/Machine/LineCommands.lean ====
section
/-! DEFINITION. The meanings of the commands of the Sensor Line Interface, one for each row of the table. -/

namespace Sys2Proof.Machine

/-- SETTLING_EXPIRY: the line becomes ON (R99). -/
def execSettlingExpiry (line : LineId) (s : State) : Result :=
  s.event (·.lineSettled line)

/-- CROSSING_RECOGNIZED: the level state moves (R100). -/
def execCrossingRecognized (line : LineId) (crossing : Crossing) (date mean : Nat) (s : State) : Result :=
  s.event (·.crossing line crossing date mean)

/-- SYNC_RECOGNIZED: a stay in TIER2 is a sync (R100, R108). -/
def execSyncRecognized (line : LineId) (s : State) : Result :=
  s.event fun p => p.setLine line (p.line line).synced

/-- LINE_WINDOW_END: base learning and the current-high counter (R101, R104, R117). -/
def execLineWindowEnd (line : LineId) (mean current : Nat) (s : State) : Result :=
  s.event (·.windowEnd line mean current)

/-- LEVEL_SLOT_SAMPLE: a slot of the frame under way (R106, R107). -/
def execLevelSlotSample (line : LineId) (current : Nat) (s : State) : Result :=
  s.event (·.slotSample line current)

/-- PULSE_OVERFLOW: a WIDTH pulse is too long (R110). -/
def execPulseOverflow (line : LineId) (s : State) : Result :=
  s.event (·.widthOverflow line)

/-- RATE_COUNTDOWN_EXPIRY: the rate is stored and handed on (R112). -/
def execRateCountdownExpiry (line : LineId) (s : State) : Result :=
  s.event (·.rateExpired line)

/-- STANDSTILL_REACHED: STANDSTILL is set (R112). -/
def execStandstillReached (line : LineId) (s : State) : Result :=
  s.event (·.standstillAt line)

/-- NODATA_REACHED: NODATA is set (R109). -/
def execNodataReached (line : LineId) (s : State) : Result :=
  s.event (·.nodataAt line)

/-- LINE_SHORT_GND: a short to ground faults the supply (R116). -/
def execLineShortGnd (line : LineId) (current : Nat) (s : State) : Result :=
  s.event (·.shortToGround line current)

/-- LINE_SHORT_BAT: the line voltage over the rail is judged (R116; log 28). -/
def execLineShortBat (line : LineId) (overRail : Int) (s : State) : Result :=
  s.event (·.shortToBattery line overRail)

/-- LINE_OPEN: OPEN is latched (R117). -/
def execLineOpen (line : LineId) (s : State) : Result :=
  s.event (·.openReached line)

/-- LINE_DRIVER_HOT: HOT is latched on all lines (R118). -/
def execLineDriverHot (s : State) : Result :=
  s.event Part.linesHot

/-- LINE_GET (R119). -/
def execLineGet (line clear : Byte) (s : State) : Result :=
  s.request (.lineGet line clear)

/-- LINE_CONTROL (R120). -/
def execLineControl (line sw : Byte) (s : State) : Result :=
  s.request (.lineControl line sw)

/-- STORAGE_WINDOW_EXPIRY: the duty lines go OFF (R122). -/
def execStorageWindowExpiry (s : State) : Result :=
  s.event Part.windowExpired

/-- STORAGE_DUTY_EXPIRY: a window opens (R122). -/
def execStorageDutyExpiry (s : State) : Result :=
  s.event Part.dutyExpired

/-- LINE_DRIVER_HOT_WITHDRAWN: the warning no longer stands (R118). -/
def execLineDriverHotWithdrawn (s : State) : Result :=
  s.event Part.linesCool

end Sys2Proof.Machine
end

