-- ==== Sys2Proof/Machine/LinkEvents.lean ====
section
/-! DEFINITION. The meanings of the events of the Control Link, one for each row of the table. -/

namespace Sys2Proof.Machine

/-- RX_BYTE: a received character moves the receiver (R201). -/
def execRxByte (byte : Byte) (stopOk : Bool) (s : State) : Result :=
  s.event (·.rxByte byte stopOk)

/-- FRAME_TIMEOUT: the frame under way is discarded (R201). -/
def execFrameTimeout (s : State) : Result :=
  s.event Part.rxExpired

/-- FRAME_RECEIVED: the body of a frame with a good CRC is taken (R202). -/
def execFrameReceived (body : List Byte) (s : State) : Result :=
  s.event (·.takeFrame body)

/-- TX_FRAME_DONE: the frame being sent has been sent (R203, R209). -/
def execTxFrameDone (s : State) : Result :=
  s.event Part.frameSent

/-- SAVE_COMPLETE: the settings write completes and is read back (R207). -/
def execSaveComplete (readBackMatches : Bool) (s : State) : Result :=
  s.event (·.saveDone readBackMatches)

/-- SNAPSHOT_COUNTDOWN_EXPIRY: the countdown reloads and a snapshot write is due (R210). -/
def execSnapshotCountdownExpiry (s : State) : Result :=
  s.event Part.snapshotExpiry

/-- SNAPSHOT_WRITE_DONE: a snapshot write completes (R210). -/
def execSnapshotWriteDone (s : State) : Result :=
  s.event Part.snapshotDone

end Sys2Proof.Machine
end

