-- ==== Sys2Proof/Machine/LinkRequests.lean ====
section
/-! DEFINITION. The meanings of the requests that the Control Link owns, one for each row of the table. -/

namespace Sys2Proof.Machine

/-- IDENTIFY (R209). -/
def execIdentify (s : State) : Result :=
  s.request .identify

/-- READ_PARAM (R205). -/
def execReadParam (page start count : Byte) (s : State) : Result :=
  s.request (.readParam page start count)

/-- WRITE_PARAM (R206). -/
def execWriteParam (page start count : Byte) (values : List Word) (s : State) : Result :=
  s.request (.writeParam page start count values)

/-- SAVE (R207). -/
def execSave (s : State) : Result :=
  s.request .save

/-- LOAD_DEFAULTS (R208). -/
def execLoadDefaults (s : State) : Result :=
  s.request .loadDefaults

/-- RESET (R209). -/
def execResetRequest (s : State) : Result :=
  s.request .reset

/-- NOTICE_MASK (R212). -/
def execNoticeMask (mask : Word) (s : State) : Result :=
  s.request (.noticeMask mask)

end Sys2Proof.Machine
end

