-- ==== Sys2Proof/Machine/LoadCommands.lean ====
section
/-! DEFINITION. The meanings of the commands of the Load Manager, one for each row of the table. -/

namespace Sys2Proof.Machine

/-- LOAD_SET (R70). -/
def execLoadSet (load sw : Byte) (s : State) : Result :=
  s.request (.loadSet load sw)

/-- UNDERVOLTAGE_EXPIRY: the below-cut timer of a bus expires (R49, R61). -/
def execUndervoltageExpiry (bus : BusName) (s : State) : Result :=
  s.event (·.undervoltageExpire bus)

/-- RESTORE_EXAMINATION: the top of each stack is examined (R63). -/
def execRestoreExamination (s : State) : Result :=
  s.event Part.restoreExam

/-- LOAD_GET (R71). -/
def execLoadGet (load : Byte) (s : State) : Result :=
  s.request (.loadGet load)

/-- GET_BUS (R72). -/
def execGetBus (bus : Byte) (s : State) : Result :=
  s.request (.getBus bus)

/-- SHED_LIST (R73). -/
def execShedList (bus : Byte) (s : State) : Result :=
  s.request (.shedList bus)

end Sys2Proof.Machine
end

