-- ==== Sys2Proof/Machine/MotionCommands.lean ====
section
/-! DEFINITION. The meanings of the commands of the Motion Unit, one for each row of the table. -/

namespace Sys2Proof.Machine

/-- MOVE (R165). -/
def execMove (axis cmd : Byte) (target : Option Word) (s : State) : Result :=
  s.request (.move axis cmd target)

/-- DEAD_TIME_EXPIRY: a waiting drive or back-off starts (R164). -/
def execDeadTimeExpiry (s : State) : Result :=
  s.event Part.deadTimeOver

/-- DRIVE_TICK: tracking request, position, target (R163, R168). -/
def execDriveTick (s : State) : Result :=
  s.event Part.driveTicked

/-- MOTION_INRUSH_BLANK_EXPIRY: stall counting starts (R170). -/
def execMotionInrushBlankExpiry (s : State) : Result :=
  s.event fun p => { p with mot := { p.mot with inrush := none } }

/-- BACKOFF_EXPIRY: the back-off ends BLOCKED, or EXTENDED at OUT (R171). -/
def execBackoffExpiry (s : State) : Result :=
  s.event Part.backoffOver

/-- MOTION_TIMEOUT: the motion ends in FAULT (R172). -/
def execMotionTimeout (s : State) : Result :=
  s.event fun p => p.motionTimerOver p.mot.timeout.isSome .timeout

/-- RESULT_WATCH_EXPIRY: the motion ends with NO_TRACKING (R172). -/
def execResultWatchExpiry (s : State) : Result :=
  s.event fun p => p.motionTimerOver p.mot.watch.isSome .noTracking

/-- MOTION_GET (R175). -/
def execMotionGet (s : State) : Result :=
  s.request .motionGet

end Sys2Proof.Machine
end

