-- ==== Sys2Proof/Machine/OutputCommands.lean ====
section
/-! DEFINITION. The meanings of the commands of the Output Monitor, one for each row of the table. -/

namespace Sys2Proof.Machine

/-- MEASUREMENT_COMPLETE: the running measurement completes (R84, R86). -/
def execMeasurementComplete (raw : Int) (s : State) : Result :=
  s.event (·.measurementDone raw)

/-- FRESHNESS_EXPIRY: fresh is cleared and reported (R85). -/
def execFreshnessExpiry (channel : LoadId) (s : State) : Result :=
  s.event (·.channelStale channel)

/-- STORAGE_PASS_TIMER: a held sweep is released (R83). -/
def execStoragePassTimer (s : State) : Result :=
  s.event Part.passExpiry

/-- INRUSH_BLANK_EXPIRY: overcurrent counting resumes on a motor channel (R88). -/
def execInrushBlankExpiry (axis : Axis) (s : State) : Result :=
  s.event (·.channelInrushOver axis)

/-- DRIVER_SHORT: a short on an ON channel trips it (R87). -/
def execDriverShort (channel : LoadId) (s : State) : Result :=
  s.event (·.shortReport channel)

/-- BACKFEED_REPORT: BACKFEED is latched (R90). -/
def execBackfeedReport (channel : LoadId) (s : State) : Result :=
  s.event (·.backfeed channel)

/-- GROUP_HOT_WARNING: every channel of the group trips with HOT (R91). -/
def execGroupHotWarning (group : GroupId) (s : State) : Result :=
  s.event (·.groupHotRaised group)

/-- OUTPUT_STATUS (R93). -/
def execOutputStatus (channel clear : Byte) (s : State) : Result :=
  s.request (.outputStatus channel clear)

/-- SPOT_CHECK (R96). -/
def execSpotCheck (channel : Byte) (s : State) : Result :=
  s.request (.spotCheck channel)

/-- EXERCISE (R94). -/
def execExercise (channel : Byte) (sw : Option Byte) (s : State) : Result :=
  s.request (.exercise channel sw)

/-- GROUP_HOT_WITHDRAWN: the warning no longer stands (R91). -/
def execGroupHotWithdrawn (group : GroupId) (s : State) : Result :=
  s.event (·.groupHotOver group)

/-- BACKFEED_WITHDRAWN: the report no longer stands (R90). -/
def execBackfeedWithdrawn (channel : LoadId) (s : State) : Result :=
  s.event (·.backfeedOver channel)

end Sys2Proof.Machine
end

