-- ==== Sys2Proof/Machine/Resets.lean ====
section
/-! DEFINITION. The meanings of the resets and the start-up load, one for each row of the table. -/

namespace Sys2Proof.Machine

/-- POWER_RESET: every block takes its POWER reset state (R192). -/
def execPowerReset (s : State) : Result :=
  s.event Part.resetPower

/-- PIN_RESET: every block takes its PIN reset state (R192). -/
def execPinReset (s : State) : Result :=
  s.event (·.resetPart .pin)

/-- START_UP_LOAD: the settings, the snapshot, the enabled lines (R193). -/
def execStartUpLoad (s : State) : Result :=
  s.event Part.startUpLoaded

end Sys2Proof.Machine
end

