-- ==== Sys2Proof/Machine/VehicleCommands.lean ====
section
/-! DEFINITION. The meanings of the commands of Mode Control and the vehicle signals, one for each row of the table. -/

namespace Sys2Proof.Machine

/-- RAW_SIGNAL_CHANGE: the debounce timer restarts (R189). -/
def execRawSignalChange (signal : Signal) (level : Bool) (s : State) : Result :=
  s.event (·.rawChanged signal level)

/-- DEBOUNCE_EXPIRY: the debounced state takes the raw level (R189). -/
def execDebounceExpiry (signal : Signal) (s : State) : Result :=
  s.event (·.debounced signal)

/-- SUPPLY_SAMPLE: the supply warning (R190). -/
def execSupplySample (millivolts : Int) (s : State) : Result :=
  s.event (·.supplySampled millivolts.toNat)

/-- MODE_SET (R197). -/
def execModeSet (mode : Byte) (s : State) : Result :=
  s.request (.modeSet mode)

end Sys2Proof.Machine
end

