-- ==== Sys2Proof/Machine/WaterCommands.lean ====
section
/-! DEFINITION. The meanings of the commands of the Water Unit, one for each row of the table. -/

namespace Sys2Proof.Machine

/-- DRY_TIMEOUT: DRY is set and the pump dropped (R135). -/
def execDryTimeout (s : State) : Result :=
  s.event Part.dryExpired

/-- WATER (R134). -/
def execWater (sw : Byte) (s : State) : Result :=
  s.request (.water sw)

/-- TANK_GET (R137). -/
def execTankGet (tank : Byte) (s : State) : Result :=
  s.request (.tankGet tank)

/-- FLOW_GET (R138). -/
def execFlowGet (s : State) : Result :=
  s.request .flowGet

end Sys2Proof.Machine
end

