-- ==== Sys2Proof/Machine/Dispatch.lean ====
section
/-! DEFINITION. The dispatch: one arm per command, in the order of the table. -/

namespace Sys2Proof.Machine

/-- The effect of a command on everything but the queue. -/
def exec (i : Instr) (s : State) : Host.Outcome State Fault Refusal :=
  match i with
  | .powerReset => Sys2Proof.Machine.execPowerReset s
  | .pinReset => Sys2Proof.Machine.execPinReset s
  | .startUpLoad => Sys2Proof.Machine.execStartUpLoad s
  | .rxByte byte stopOk => Sys2Proof.Machine.execRxByte byte stopOk s
  | .frameTimeout => Sys2Proof.Machine.execFrameTimeout s
  | .frameReceived body => Sys2Proof.Machine.execFrameReceived body s
  | .txFrameDone => Sys2Proof.Machine.execTxFrameDone s
  | .identify => Sys2Proof.Machine.execIdentify s
  | .readParam page start count => Sys2Proof.Machine.execReadParam page start count s
  | .writeParam page start count values => Sys2Proof.Machine.execWriteParam page start count values s
  | .save => Sys2Proof.Machine.execSave s
  | .saveComplete readBackMatches => Sys2Proof.Machine.execSaveComplete readBackMatches s
  | .loadDefaults => Sys2Proof.Machine.execLoadDefaults s
  | .resetRequest => Sys2Proof.Machine.execResetRequest s
  | .noticeMask mask => Sys2Proof.Machine.execNoticeMask mask s
  | .snapshotCountdownExpiry => Sys2Proof.Machine.execSnapshotCountdownExpiry s
  | .snapshotWriteDone => Sys2Proof.Machine.execSnapshotWriteDone s
  | .bankSample bank count millivolts => Sys2Proof.Machine.execBankSample bank count millivolts s
  | .getBank bank => Sys2Proof.Machine.execGetBank bank s
  | .bankZero banks => Sys2Proof.Machine.execBankZero banks s
  | .starterSample millivolts => Sys2Proof.Machine.execStarterSample millivolts s
  | .battTempStale => Sys2Proof.Machine.execBattTempStale s
  | .padRetryExpiry => Sys2Proof.Machine.execPadRetryExpiry s
  | .tieSet tie => Sys2Proof.Machine.execTieSet tie s
  | .getCharge => Sys2Proof.Machine.execGetCharge s
  | .loadSet load sw => Sys2Proof.Machine.execLoadSet load sw s
  | .undervoltageExpiry bus => Sys2Proof.Machine.execUndervoltageExpiry bus s
  | .restoreExamination => Sys2Proof.Machine.execRestoreExamination s
  | .loadGet load => Sys2Proof.Machine.execLoadGet load s
  | .getBus bus => Sys2Proof.Machine.execGetBus bus s
  | .shedList bus => Sys2Proof.Machine.execShedList bus s
  | .measurementComplete raw => Sys2Proof.Machine.execMeasurementComplete raw s
  | .freshnessExpiry channel => Sys2Proof.Machine.execFreshnessExpiry channel s
  | .storagePassTimer => Sys2Proof.Machine.execStoragePassTimer s
  | .inrushBlankExpiry axis => Sys2Proof.Machine.execInrushBlankExpiry axis s
  | .driverShort channel => Sys2Proof.Machine.execDriverShort channel s
  | .backfeedReport channel => Sys2Proof.Machine.execBackfeedReport channel s
  | .groupHotWarning group => Sys2Proof.Machine.execGroupHotWarning group s
  | .outputStatus channel clear => Sys2Proof.Machine.execOutputStatus channel clear s
  | .spotCheck channel => Sys2Proof.Machine.execSpotCheck channel s
  | .exercise channel sw => Sys2Proof.Machine.execExercise channel sw s
  | .settlingExpiry line => Sys2Proof.Machine.execSettlingExpiry line s
  | .crossingRecognized line crossing date mean => Sys2Proof.Machine.execCrossingRecognized line crossing date mean s
  | .syncRecognized line => Sys2Proof.Machine.execSyncRecognized line s
  | .lineWindowEnd line mean current => Sys2Proof.Machine.execLineWindowEnd line mean current s
  | .levelSlotSample line current => Sys2Proof.Machine.execLevelSlotSample line current s
  | .pulseOverflow line => Sys2Proof.Machine.execPulseOverflow line s
  | .rateCountdownExpiry line => Sys2Proof.Machine.execRateCountdownExpiry line s
  | .standstillReached line => Sys2Proof.Machine.execStandstillReached line s
  | .nodataReached line => Sys2Proof.Machine.execNodataReached line s
  | .lineShortGnd line current => Sys2Proof.Machine.execLineShortGnd line current s
  | .lineShortBat line overRail => Sys2Proof.Machine.execLineShortBat line overRail s
  | .lineOpen line => Sys2Proof.Machine.execLineOpen line s
  | .lineDriverHot => Sys2Proof.Machine.execLineDriverHot s
  | .lineGet line clear => Sys2Proof.Machine.execLineGet line clear s
  | .lineControl line sw => Sys2Proof.Machine.execLineControl line sw s
  | .storageWindowExpiry => Sys2Proof.Machine.execStorageWindowExpiry s
  | .storageDutyExpiry => Sys2Proof.Machine.execStorageDutyExpiry s
  | .dryTimeout => Sys2Proof.Machine.execDryTimeout s
  | .water sw => Sys2Proof.Machine.execWater sw s
  | .tankGet tank => Sys2Proof.Machine.execTankGet tank s
  | .flowGet => Sys2Proof.Machine.execFlowGet s
  | .climateTempStale temp => Sys2Proof.Machine.execClimateTempStale temp s
  | .thermostatEvaluation => Sys2Proof.Machine.execThermostatEvaluation s
  | .minOnExpiry => Sys2Proof.Machine.execMinOnExpiry s
  | .minOffExpiry => Sys2Proof.Machine.execMinOffExpiry s
  | .heatSet mode setpoint => Sys2Proof.Machine.execHeatSet mode setpoint s
  | .guardUnknownTimeout => Sys2Proof.Machine.execGuardUnknownTimeout s
  | .riskTimerExpiry => Sys2Proof.Machine.execRiskTimerExpiry s
  | .frostDump => Sys2Proof.Machine.execFrostDump s
  | .frostClose => Sys2Proof.Machine.execFrostClose s
  | .climateGet => Sys2Proof.Machine.execClimateGet s
  | .move axis cmd target => Sys2Proof.Machine.execMove axis cmd target s
  | .deadTimeExpiry => Sys2Proof.Machine.execDeadTimeExpiry s
  | .driveTick => Sys2Proof.Machine.execDriveTick s
  | .motionInrushBlankExpiry => Sys2Proof.Machine.execMotionInrushBlankExpiry s
  | .backoffExpiry => Sys2Proof.Machine.execBackoffExpiry s
  | .motionTimeout => Sys2Proof.Machine.execMotionTimeout s
  | .resultWatchExpiry => Sys2Proof.Machine.execResultWatchExpiry s
  | .motionGet => Sys2Proof.Machine.execMotionGet s
  | .fadeTick channel => Sys2Proof.Machine.execFadeTick channel s
  | .lightSet channel level fade => Sys2Proof.Machine.execLightSet channel level fade s
  | .sceneRecall scene fade => Sys2Proof.Machine.execSceneRecall scene fade s
  | .sceneStore scene => Sys2Proof.Machine.execSceneStore scene s
  | .courtesyTimerExpiry => Sys2Proof.Machine.execCourtesyTimerExpiry s
  | .rawSignalChange signal level => Sys2Proof.Machine.execRawSignalChange signal level s
  | .debounceExpiry signal => Sys2Proof.Machine.execDebounceExpiry signal s
  | .supplySample millivolts => Sys2Proof.Machine.execSupplySample millivolts s
  | .modeSet mode => Sys2Proof.Machine.execModeSet mode s
  | .groupHotWithdrawn group => Sys2Proof.Machine.execGroupHotWithdrawn group s
  | .lineDriverHotWithdrawn => Sys2Proof.Machine.execLineDriverHotWithdrawn s
  | .backfeedWithdrawn channel => Sys2Proof.Machine.execBackfeedWithdrawn channel s

end Sys2Proof.Machine
end

