-- ==== Sys2Proof/Machine/Step.lean ====
section
/-! DEFINITION. The step: the command at the front of the queue, or, on an empty queue, the part's own clock (log 2). -/

namespace Sys2Proof.Machine

/-- One turn of the part's own clock: the first command that is due, else 1 ms passes (log 2). -/
def State.clock (s : State) : Host.Outcome State Fault Refusal :=
  match s.part.due with
  | some i => exec i s
  | none => .next { s with part := s.part.tick }

/-- The command at the front of the queue runs with the rest of the queue; on an empty queue the clock turns. -/
def step (s : State) : Host.Outcome State Fault Refusal :=
  match s.pending with
  | i :: rest => exec i { s with pending := rest }
  | [] => s.clock

/-- The command that a word of the table spells, put at the front of the queue; no row of the table gives bits, so no word spells
one. -/
def State.withFetchWord (s : State) (nbits w : Nat) : State :=
  match decodeTableWord nbits w with
  | some i => { s with pending := i :: s.pending }
  | none => s

end Sys2Proof.Machine
end

