-- ==== Sys2Proof/WellFormed.lean ====
section
/-! DEFINITION. What the outside world can deliver with a command: the operand ranges that the rules give. A command outside them
has a meaning all the same, so no statement rests on them but those on requests as bytes. -/

namespace Sys2Proof

/-- The largest body of a frame (R201). -/
def maxBody : Nat := 64

/-- A request that a frame can carry: no more values of WRITE_PARAM than a body holds after KIND, page, start and count (R201,
R206), EXERCISE without a switch only as NONE (R202), and none that stands for malformed arguments. -/
def Request.wf : Request → Bool
  | .writeParam _ _ _ values => decide (4 + 2 * values.length ≤ maxBody)
  | .exercise channel none => channel == 0xFF#8
  | .malformed _ => false
  | _ => true

/-- The largest sensor-line current, in line units (00 "Units and number ranges"). -/
def maxLineCurrent : Nat := 1023

/-- A current as the line front end delivers it. -/
def lineCurrentOk (c : Nat) : Bool := decide (c ≤ maxLineCurrent)

/-- A raw reading of the output converter in mA (R79). -/
def rawReadingOk (raw : Int) : Bool := decide (-1000 ≤ raw) && decide (raw ≤ 31000)

/-- A body of a frame: 1 to 64 bytes (R201). -/
def bodyOk (body : List Byte) : Bool := decide (1 ≤ body.length) && decide (body.length ≤ maxBody)

/-- The request that a request row stands for. -/
def Instr.request? : Instr → Option Request
  | .identify => some .identify
  | .readParam page start count => some (.readParam page start count)
  | .writeParam page start count values => some (.writeParam page start count values)
  | .save => some .save
  | .loadDefaults => some .loadDefaults
  | .resetRequest => some .reset
  | .noticeMask mask => some (.noticeMask mask)
  | .getBank bank => some (.getBank bank)
  | .bankZero banks => some (.bankZero banks)
  | .tieSet tie => some (.tieSet tie)
  | .getCharge => some .getCharge
  | .loadSet load sw => some (.loadSet load sw)
  | .loadGet load => some (.loadGet load)
  | .getBus bus => some (.getBus bus)
  | .shedList bus => some (.shedList bus)
  | .outputStatus channel clear => some (.outputStatus channel clear)
  | .spotCheck channel => some (.spotCheck channel)
  | .exercise channel sw => some (.exercise channel sw)
  | .lineGet line clear => some (.lineGet line clear)
  | .lineControl line sw => some (.lineControl line sw)
  | .water sw => some (.water sw)
  | .tankGet tank => some (.tankGet tank)
  | .flowGet => some .flowGet
  | .heatSet mode setpoint => some (.heatSet mode setpoint)
  | .frostDump => some .frostDump
  | .frostClose => some .frostClose
  | .climateGet => some .climateGet
  | .move axis cmd target => some (.move axis cmd target)
  | .motionGet => some .motionGet
  | .lightSet channel level fade => some (.lightSet channel level fade)
  | .sceneRecall scene fade => some (.sceneRecall scene fade)
  | .sceneStore scene => some (.sceneStore scene)
  | .modeSet mode => some (.modeSet mode)
  | .powerReset => none
  | .pinReset => none
  | .startUpLoad => none
  | .rxByte _ _ => none
  | .frameTimeout => none
  | .frameReceived _ => none
  | .txFrameDone => none
  | .saveComplete _ => none
  | .snapshotCountdownExpiry => none
  | .snapshotWriteDone => none
  | .bankSample _ _ _ => none
  | .starterSample _ => none
  | .battTempStale => none
  | .padRetryExpiry => none
  | .undervoltageExpiry _ => none
  | .restoreExamination => none
  | .measurementComplete _ => none
  | .freshnessExpiry _ => none
  | .storagePassTimer => none
  | .inrushBlankExpiry _ => none
  | .driverShort _ => none
  | .backfeedReport _ => none
  | .groupHotWarning _ => none
  | .settlingExpiry _ => none
  | .crossingRecognized _ _ _ _ => none
  | .syncRecognized _ => none
  | .lineWindowEnd _ _ _ => none
  | .levelSlotSample _ _ => none
  | .pulseOverflow _ => none
  | .rateCountdownExpiry _ => none
  | .standstillReached _ => none
  | .nodataReached _ => none
  | .lineShortGnd _ _ => none
  | .lineShortBat _ _ => none
  | .lineOpen _ => none
  | .lineDriverHot => none
  | .storageWindowExpiry => none
  | .storageDutyExpiry => none
  | .dryTimeout => none
  | .climateTempStale _ => none
  | .thermostatEvaluation => none
  | .minOnExpiry => none
  | .minOffExpiry => none
  | .guardUnknownTimeout => none
  | .riskTimerExpiry => none
  | .deadTimeExpiry => none
  | .driveTick => none
  | .motionInrushBlankExpiry => none
  | .backoffExpiry => none
  | .motionTimeout => none
  | .resultWatchExpiry => none
  | .fadeTick _ => none
  | .courtesyTimerExpiry => none
  | .rawSignalChange _ _ => none
  | .debounceExpiry _ => none
  | .supplySample _ => none
  | .groupHotWithdrawn _ => none
  | .lineDriverHotWithdrawn => none
  | .backfeedWithdrawn _ => none

/-- The operand ranges of an event that is no request. -/
def Instr.eventWf : Instr → Bool
  | .frameReceived body => bodyOk body
  | .measurementComplete raw => rawReadingOk raw
  | .crossingRecognized _ _ _ mean => lineCurrentOk mean
  | .lineWindowEnd _ mean current => lineCurrentOk mean && lineCurrentOk current
  | .levelSlotSample _ current => lineCurrentOk current
  | .lineShortGnd _ current => lineCurrentOk current
  | .supplySample millivolts => decide (0 ≤ millivolts)
  | _ => true

/-- A command that the outside world can send. -/
def Instr.wf (i : Instr) : Bool :=
  match i.request? with
  | some r => r.wf
  | none => i.eventWf

end Sys2Proof
end

