-- ==== Sys2Proof/Safety.lean ====
section
/-! DEFINITION. The terms of the claims: the sound states of the part, and what it means that a command leads to a state. -/

namespace Sys2Proof.Machine

/-! ### Sound states -/

/-- Two notices for the same kind and subject (R211). -/
def Notice.clash (a b : Notice) : Prop := a.kind = b.kind ∧ a.subject = b.subject

/-- At most 16 notices, no two of the same kind and subject (R211). -/
def NoticesOk (q : List Notice) : Prop := q.length ≤ 16 ∧ q.Pairwise fun a b => ¬ a.clash b

/-- At most four spot entries, no two for the same channel (R82). -/
def SpotOk (q : List SpotEntry) : Prop := q.length ≤ 4 ∧ q.Pairwise fun a b => a.channel ≠ b.channel

/-- Parameter pages 0 to 9 with as many values as R205 and the page table give each. -/
def PagesOk (ps : Pages) : Prop := ps.length = 10 ∧ ∀ page < 10, (ps.getD page []).length = pageLength page

/-- The queues of the part are within their bounds (R82, R202, R211), the working and the stored pages have their lengths, and the
read-only part code reads 4810 (R205). -/
structure WithinBounds (p : Part) : Prop where
  notices : NoticesOk p.lnk.notices
  requests : p.lnk.requests.length ≤ 2
  spots : SpotOk p.out.spotQueue
  pages : PagesOk p.params
  stored : PagesOk p.lnk.store.image
  partCode : p.params.get 0 0 = 4810

/-- The on-lists and the stacks of the buses agree with the loads (R50, R51): no load stands twice on one, a load stands on the
on-list of its bus exactly while it is ON, and on its stack exactly while it is SHED. -/
def ListsAgree (p : Part) : Prop :=
  ∀ b ∈ p.liveBuses,
    let shed := (p.bus b).stack.map (·.load)
    (p.bus b).onList.Nodup ∧ shed.Nodup ∧
      (∀ l, l ∈ (p.bus b).onList ↔ (p.load l).state = .on ∧ p.busOf l = b) ∧
      ∀ l, l ∈ shed ↔ (p.load l).state = .shed ∧ p.busOf l = b

/-- A part between two events: no report waits between the blocks (log 6), an idle transmitter has nothing to send (R203), and
the dry timer stands at 0 while the dry condition fails, as far as a written threshold has been judged (R135, R140). -/
abbrev Part.Settled (p : Part) : Prop :=
  p.outbox = [] ∧ (p.lnk.tx = none → p.lnk.immediate = none ∧ p.lnk.reply = none ∧ p.lnk.notices = []) ∧
    (p.dryHolds = false → p.wat.dryTimer = 0)

/-- A request that arrives is dispatched within its own event: the start-up load is done, no request waits or is in flight and
the reply slot is empty (R202). -/
abbrev Part.Ready (p : Part) : Prop :=
  p.outbox = [] ∧ p.mdc.settings.isSome = true ∧ p.lnk.requests = [] ∧ p.lnk.inFlight = false ∧ p.lnk.reply = none

/-! ### What a command leads to -/

/-- The command answers a next state: the part `p`, whose dry timer falls to 0 where the dry condition fails (R135, R140) and whose
transmitter, if idle, takes what waits (R203); the commands that wait stay. -/
def LeadsTo (i : Instr) (s : State) (p : Part) : Prop := exec i s = .next { s with part := p.dryCheck.transmit }

/-- The part with the formed reply of a request in its slot, not yet sent (R202). -/
def Part.withReply (p : Part) (r : Request) (st : Status) (payload : List Byte) : Part :=
  { p with lnk := { p.lnk with reply := some ⟨replyKind (requestKind r), st, payload, none, 0⟩ } }

/-- The command is a request that is answered: the part `p` with the reply in its slot. -/
def Replies (i : Instr) (s : State) (p : Part) (st : Status) (payload : List Byte) : Prop :=
  ∃ r, i.request? = some r ∧ LeadsTo i s (p.withReply r st payload)

/-- The mask lets through notices of the kind `k` alone (and STARTED), none waits and the transmitter is busy: the queue then shows
the notices of that kind that an event posts (R211). -/
abbrev Part.Hears (p : Part) (k : NoticeKind) : Prop :=
  p.lnk.tx.isSome = true ∧ p.lnk.notices = [] ∧ p.params.get 0 2 = BitVec.ofNat 16 (2 ^ noticeIndex k)

/-- START of the part `p` has ended in `q` (R194): both done marks are set, the mode is STORAGE with the storage resume flag set and
D+ not active, ACTIVE otherwise, and the MODE notice with cause START_DONE is posted. -/
def StartEnds (p q : Part) : Prop :=
  let after := if p.mdc.resume = true ∧ p.dplus = false then Mode.storage else .active
  q.mdc = { p.mdc with mode := after, bankDone := true, zeroDone := true } ∧
    (p.Hears .mode → q.lnk.notices = [⟨.mode, 0, n8 0 ++ n8 after.code ++ n8 0 ++ q.progressStates⟩])

/-- The command starts a snapshot write on the part `q` (R210): both contents and the resume flag go into the slot that does not hold
the newest valid snapshot, with the next number, or into slot 0 with 0 where none is valid. The slot stands with the complemented CRC
while the write runs (log 8). -/
def SnapshotBegins (i : Instr) (s : State) (q : Part) : Prop :=
  let slot := fun seq : Word32 =>
    let x : Slot := ⟨(q.bank .A).content, (q.bank .B).content, q.mdc.resume, seq, 0⟩
    { x with crc := ~~~x.crcOf }
  (q.lnk.newest = none → LeadsTo i s { q with lnk := { q.lnk with
    slot0 := slot 0, memory := .snapshot false, snapHeld := false } }) ∧
  (∀ x, q.lnk.newest = some (true, x) → LeadsTo i s { q with lnk := { q.lnk with
    slot0 := slot (x.seq + 1), memory := .snapshot false, snapHeld := false } }) ∧
  (∀ x, q.lnk.newest = some (false, x) → LeadsTo i s { q with lnk := { q.lnk with
    slot1 := slot (x.seq + 1), memory := .snapshot true, snapHeld := false } })

/-- A demand for an OFF load that is admitted with nothing shed: no refusal by mode or charge, and room on its bus (R55, R56). -/
def Part.Admits (p : Part) (l : LoadId) : Prop :=
  (p.load l).state = .off ∧ p.modeRefusal l (p.effClass l) = none ∧
    p.chargeRefusal (p.busOf l) (p.effClass l) = false ∧
    p.committedSum (p.busOf l) + p.committed l ≤ busLimitOf p.params (p.busOf l)

/-- The bus `b` of `q` after the checks of a tie change that formed the record `r` (R67, R68): undervoltage shedding if its flag is
set, else the charge-floor check, then the overload check, with the loads `p` held; `n` loads are SHED in all. A higher class goes
first, and within a class the load admitted last (R53). For a bus on which no class-2 motor stands. -/
def TieChecked (p q : Part) (b : BusName) (r : BusRec) (n : Nat) : Prop :=
  let order := fun ls : List LoadId =>
    [4, 3, 2].flatMap fun c => ls.reverse.filter fun l => p.sheddable l && p.effClass l == c
  let sum := fun ls : List LoadId => (ls.map p.committed).sum
  let low := r.onList.filter fun l => decide (r.soc < busFloorOf p.params b (p.effClass l))
  let first := if r.uvFlag = true then order r.onList else order low
  let left := r.onList.filter fun l => decide (l ∉ first)
  ∃ k ≤ (order left).length,
    let freed := (order left).take k
    let entry := fun (c : ShedCause) (l : LoadId) => (⟨l, c, p.uptime⟩ : ShedEntry)
    let stack := r.stack ++ first.map (entry (if r.uvFlag = true then .undervoltage else .chargeFloor)) ++
      freed.map (entry .overload)
    (∀ j, j < k → busLimitOf p.params b < sum left - sum ((order left).take j)) ∧
    (sum left - sum freed ≤ busLimitOf p.params b ∨ k = (order left).length) ∧
    n = first.length + k ∧
    q.bus b = { r with
      onList := left.filter fun l => decide (l ∉ freed), stack := stack
      depthMark := decide (busWarnOf p.params b ≤ stack.length) } ∧
    (∀ l ∈ first ++ freed, (q.load l).state = .shed) ∧
    ∀ l ∈ r.onList, l ∉ first ++ freed → q.load l = p.load l

/-- The frost valve load that stays ON over a PIN or SOFT reset (R77, R98). -/
def Part.keptValve (p : Part) (l : LoadId) : Prop := p.params.loadWith .frostValve = some l ∧ (p.load l).state = .on

/-- What a PIN or SOFT reset leaves of a part, before the start-up load: `q` is the part after it, named whole. The reset values
that follow from the settings are those of the settings in force (R24, R25, R43, R77, R98, R124, R141, R161, R178, R188, R192, R200,
R212; logs 10, 31, 39). -/
structure AfterWarmReset (p : Part) (k : ResetKind) (q : Part) : Prop where
  uptime : q.uptime = 0 ∧ q.subSecond = 0
  outbox : q.outbox = []
  params : q.params = p.params
  bank : ∀ b, q.bank b = { BankRec.reset with
    content := (p.bank b).content, estimated := (p.bank b).estimated, full := (p.bank b).full, empty := (p.bank b).empty }
  zeroing : q.bnk.zeroing = none
  charge : q.chg = { Chg.reset with
    coldInhibit := if p.params.chemistry = .lithium then some .unknown else none
    pad := if p.params.loadWith .battPad = none then .noPad else .idle }
  keptLoad : ∀ l, p.keptValve l → q.load l = { LoadRec.reset with state := .on }
  otherLoad : ∀ l, ¬ p.keptValve l → q.load l = LoadRec.reset
  keptBus : ∀ l, p.keptValve l → q.bus (q.busOfBank (p.params.homeBank l)) = { BusRec.reset with onList := [l] }
  otherBus : ∀ b, (∀ l, p.keptValve l → p.params.homeBank l ≠ b) → q.bus (q.busOfBank b) = BusRec.reset
  joinedBus : q.bus .joined = BusRec.reset
  restoreTimer : q.ldm.restoreTimer = 2000
  outputs : q.out = { Out.reset with channels := q.out.channels, groupHot := p.out.groupHot }
  keptChannel : ∀ c, p.keptValve c → q.chan c = { Channel.reset with
    switching := .on, zero := (p.chan c).zero, zeroSat := (p.chan c).zeroSat, calTakes := false
    backfeedStands := (p.chan c).backfeedStands }
  otherChannel : ∀ c, ¬ p.keptValve c → q.chan c = { Channel.reset with backfeedStands := (p.chan c).backfeedStands }
  sensors : q.sli = { Sli.reset with lines := q.sli.lines, driverHot := p.sli.driverHot }
  lines : ∀ s,
    let base := p.params.lineField s 7
    let t1 := 40 + p.params.lineField s 5
    let t2 := t1 + 40 + p.params.lineField s 6
    q.line s = { LineRec.reset with
      overRail := (p.line s).overRail, ib := base
      thr := if p.params.adaptive s = true then ⟨base + 35, base + 105, base + 27, base + 97⟩ else ⟨t1, t2, t1 - 8, t2 - 8⟩ }
  water : q.wat = { Wat.reset with
    total := p.wat.total, remainder := p.wat.remainder, dumped := decide (p.clm.guard = .dumped)
    fresh := { TankRec.reset with levelState := if p.params.lineWith .freshLevel = none then .none else .waiting }
    grey := { TankRec.reset with levelState := if p.params.lineWith .greyLevel = none then .none else .waiting }
    pump := if p.params.loadWith .pump = none then .noPump else .off }
  climate : q.clm = { Clm.reset with
    guard := p.clm.guard, riskTimer := p.clm.riskTimer
    heater := if p.params.loadWith .heater = none then .noHeater else .idle }
  motion : q.mot = Mot.reset
  lights : q.lux = Part.reset.lux
  valveOn : q.mdc.valveOn = true ↔ ∃ l, p.keptValve l
  modes : q.mdc = { Mdc.reset with
    signals := p.mdc.signals.rested, resume := p.mdc.resume, resetKind := k, valveOn := q.mdc.valveOn }
  link : q.lnk = { Lnk.reset with
    store := p.lnk.store, slot0 := p.lnk.slot0, slot1 := p.lnk.slot1
    tx := some ⟨.notice .started 0, false, frameOf (startedBody k)⟩ }

/-- The bytes of a frame, received one after the other with good stop bits (R201). -/
def receiveAll (s : State) : List Byte → Option State
  | [] => some s
  | b :: bs =>
    match exec (.rxByte b true) s with
    | .next t => receiveAll t bs
    | _ => none

end Sys2Proof.Machine
end

