-- ==== Sys2Proof/Certificates/Slice0/Obligations.lean ====
section
/-! DEFINITION. The statements for the provers. A statement about a command says what the whole next state is, or names every part
of it that it speaks of; `LeadsTo` and `Replies` (Safety.lean) say a whole next state. -/

open Sys2Proof Sys2Proof.Machine

/-! ### The queue, the clock and the invariants -/

/-- The command at the front of the queue runs on the state with the rest of the queue (the model's choice of one sender and one
queue, log 1). -/
def Obligations.StepRunsTheFrontCommand : Prop :=
  ∀ (i : Instr) (s : State), step { s with pending := i :: s.pending } = exec i s

/-- On an empty queue the first command that is due runs, and with none due 1 ms passes for every timer of the part: running
countdowns count down; the uptime counts each thousandth one; the frame timer, the ages, the no-data, standstill, open, dry,
unknown and debounce timers count up where they run and stop at their bounds; nothing else changes but the model's two marks of a
written time, which clear. That the clock is a step, that timers stop at their bounds, the two marks, and that the open timer goes
by the line's current as last observed, is the model's choice (logs 2, 29, 38, 42). -/
def Obligations.EmptyQueueTurnsTheClock : Prop :=
  ∀ s : State, s.pending = [] →
    (∀ i, s.part.due = some i → step s = exec i s) ∧
    (s.part.due = none →
      let p := s.part
      let down := fun x : Option Nat => x.map fun n => n - 1
      let below := fun b : BusRec => { b with belowCut := down b.belowCut }
      let timed := fun (x : SignalRec) (limit : Nat) => { x with timer := min limit (x.timer + 1) }
      let g := p.mdc.signals
      let unknown := p.mdc.mode != .start && p.clm.bay == none &&
        (p.clm.guard == .safe || p.clm.guard == .watch || p.clm.guard == .risk)
      let waits := p.mot.active.any fun m => m.stage == .backoffWait
      ∃ t, step s = .next t ∧ t.pending = [] ∧ t.part.params = p.params ∧ t.part.bnk = p.bnk ∧ t.part.outbox = p.outbox ∧
        (t.part.uptime = if p.subSecond = 999 then p.uptime + 1 else p.uptime) ∧
        (t.part.subSecond = if p.subSecond = 999 then 0 else p.subSecond + 1) ∧
        t.part.chg = { p.chg with battTimer := down p.chg.battTimer, padRetry := down p.chg.padRetry } ∧
        t.part.ldm = { p.ldm with
          busA := below p.ldm.busA, busB := below p.ldm.busB, busJ := below p.ldm.busJ
          restoreTimer := p.ldm.restoreTimer - 1 } ∧
        t.part.out = { p.out with
          channels := t.part.out.channels, passTimer := down p.out.passTimer
          running := p.out.running.map fun m : Measuring => { m with left := m.left - 1 } } ∧
        (∀ c, t.part.chan c = { p.chan c with
          freshTimer := down (p.chan c).freshTimer, inrush := down (p.chan c).inrush }) ∧
        t.part.sli = { p.sli with
          lines := t.part.sli.lines, dutyTimer := down p.sli.dutyTimer, windowTimer := down p.sli.windowTimer
          standWritten := false } ∧
        (∀ l, t.part.line l =
          let r := p.line l
          { r with
            settle := down r.settle, rateTimer := down r.rateTimer, age := r.age.map fun a => min 3600000 (a + 1)
            nodataTimer := if r.enabled = true ∧ p.params.lineMode l ≠ .pulse then min 3600000 (r.nodataTimer + 1)
              else r.nodataTimer
            standstillTimer := if r.supply = .on ∧ p.params.lineMode l = .pulse then min 3600000 (r.standstillTimer + 1)
              else r.standstillTimer
            openTimer := if r.supply = .on ∧ r.current < 20 then min 20 (r.openTimer + 1) else r.openTimer }) ∧
        t.part.wat = { p.wat with
          dryTimer := if p.dryCondition = true then p.wat.dryTimer + 1 else 0, dryWritten := false } ∧
        t.part.clm = { p.clm with
          cabinTimer := down p.clm.cabinTimer, bayTimer := down p.clm.bayTimer, evalTimer := down p.clm.evalTimer
          minOn := down p.clm.minOn, minOff := down p.clm.minOff, riskTimer := down p.clm.riskTimer
          unknownTimer := if unknown = true then min 60000 (p.clm.unknownTimer + 1) else p.clm.unknownTimer } ∧
        t.part.mot = { p.mot with
          dead := down p.mot.dead, tick := down p.mot.tick, inrush := down p.mot.inrush, watch := down p.mot.watch
          timeout := if waits = true then p.mot.timeout else down p.mot.timeout, backoff := down p.mot.backoff } ∧
        (∀ c, t.part.light c = { p.light c with
          tick := down (p.light c).tick, courtesy := down (p.light c).courtesy }) ∧
        t.part.mdc = { p.mdc with
          sinceReset := min 20 (p.mdc.sinceReset + 1)
          signals := ⟨timed g.dplus 500, timed g.handbrake 200, timed g.mainsOk 2000, timed g.awnIn 20, timed g.awnOut 20,
            timed g.stepIn 20, timed g.stepOut 20⟩ } ∧
        t.part.lnk = { p.lnk with rxTimer := p.lnk.rxTimer.map fun n => n + 1, snapTimer := p.lnk.snapTimer - 1 })

/-- Every command runs: it answers a next state, leaves the commands that wait as they are, and ends with no report left between
the blocks, an idle transmitter that has nothing to send, and the dry timer at 0 where the dry condition fails, as far as a
written threshold has been judged (R140). That reports between the blocks wait in an outbox, and that an event ends with the
transmitter, is the model's choice (logs 5, 6, 42). -/
def Obligations.EveryCommandRunsAndSettles : Prop :=
  ∀ (i : Instr) (s : State), ∃ t, exec i s = .next t ∧ t.pending = s.pending ∧ t.part.Settled

/-- A step of a settled part, clock or command, leaves it settled: in particular the transmitter is never idle while an immediate
reply, a reply or a notice waits. That reports between the blocks wait in an outbox, and that the clock is a step, is the model's
choice (logs 2, 6, 42). -/
def Obligations.EveryStepKeepsThePartSettled : Prop :=
  ∀ s t : State, s.part.Settled → step s = .next t → t.part.Settled

/-- Every step keeps the queues within their bounds: at most 16 notices, no two of one kind and subject, at most 2 requests, at
most 4 spot entries, no two for one channel. It keeps the length of every parameter page, working and stored, and the read-only
part code 4810. And every step keeps the on-lists and the stacks in agreement with the loads: no load stands twice on one, a load
is on the on-list of its bus exactly while it is ON, and on its stack exactly while it is SHED. That the clock is a step, and that
the start-up load takes the loads to OFF, is the model's choice (logs 2, 31). -/
def Obligations.EveryStepKeepsTheBounds : Prop :=
  (∀ s t : State, WithinBounds s.part → step s = .next t → WithinBounds t.part) ∧
  ∀ s t : State, ListsAgree s.part → step s = .next t → ListsAgree t.part

/-! ### Requests as bytes and frames (R201, R202) -/

/-- Every request that a frame can carry is read back from its bytes, operand for operand, and its body fits a frame. -/
def Obligations.RequestBytesReadBack : Prop :=
  ∀ r : Request, r.wf = true →
    kindAssigned (requestKind r) = true ∧ parseRequest (requestKind r) (requestArgs r) = r ∧ bodyOk (requestBody r) = true

/-- A request row is its frame: the completed frame with the request's body does what the row does (the model's choice, log 4).
The bytes of a frame, received one after the other from HUNT, do together what the completed frame does. -/
def Obligations.FramesCarryTheRequests : Prop :=
  (∀ (i : Instr) (r : Request) (s : State), i.request? = some r → r.wf = true →
      exec (.frameReceived (requestBody r)) s = exec i s) ∧
  (∀ (s : State) (body : List Byte), bodyOk body = true → s.part.Settled → s.part.lnk.rx = .hunt →
      s.part.lnk.rxTimer = none →
      ∃ t, receiveAll s (frameOf body) = some t ∧ exec (.frameReceived body) s = .next t)

/-- The receiver's rule, byte by byte: each state, each kind of byte, a bad stop bit and the frame timer. That a bad stop bit in
HUNT keeps HUNT is log 40. -/
def Obligations.ReceiverFollowsItsStates : Prop :=
  ∀ (s : State) (b : Byte), s.part.outbox = [] →
    let p := s.part
    let moved := fun rx : Receiver => { p with lnk := { p.lnk with rx := rx, rxTimer := some 0 } }
    let hunt := { p with lnk := { p.lnk with rx := .hunt, rxTimer := none } }
    let failed := { p with lnk := { p.lnk with
      rx := .hunt, rxTimer := none
      immediate := match p.lnk.immediate with
        | some i => some i
        | none => some ⟨0x80#8, .linkError⟩ } }
    LeadsTo (.rxByte b false) s hunt ∧ LeadsTo .frameTimeout s hunt ∧
    (p.lnk.rx = .hunt → b ≠ 0xA7#8 → LeadsTo (.rxByte b true) s p) ∧
    (p.lnk.rx = .hunt → LeadsTo (.rxByte 0xA7#8 true) s (moved .len)) ∧
    (p.lnk.rx = .len → 1 ≤ b.toNat → b.toNat ≤ 64 → LeadsTo (.rxByte b true) s (moved (.body b.toNat []))) ∧
    (p.lnk.rx = .len → b.toNat = 0 ∨ 64 < b.toNat → LeadsTo (.rxByte b true) s failed) ∧
    (∀ n got, p.lnk.rx = .body n got → got.length + 1 < n → LeadsTo (.rxByte b true) s (moved (.body n (got ++ [b])))) ∧
    (∀ n got, p.lnk.rx = .body n got → got.length + 1 = n → LeadsTo (.rxByte b true) s (moved (.crc (got ++ [b])))) ∧
    (∀ got, p.lnk.rx = .crc got → b ≠ crc8 (BitVec.ofNat 8 got.length :: got) → LeadsTo (.rxByte b true) s failed)

/-- A frame that is answered at once: an unassigned kind by UNKNOWN_KIND, a third request by BUSY, each in the one immediate
place, or dropped with the place full. A request that cannot be dispatched yet joins the tail of the request queue and changes
nothing else. Arguments of the wrong length for an assigned kind are refused with BAD_ARG, and nothing but the reply is left
behind. The empty payload of a refused request is the model's choice (log 15). -/
def Obligations.ArrivingRequestsAreQueuedOrAnswered : Prop :=
  (∀ (s : State) (k : Byte) (args : List Byte), s.part.outbox = [] →
      let p := s.part
      let reply := fun (kind : Byte) (st : Status) =>
        { p with lnk := { p.lnk with
          immediate := match p.lnk.immediate with
            | some i => some i
            | none => some ⟨kind, st⟩ } }
      (kindAssigned k = false →
        LeadsTo (.frameReceived (k :: args)) s
          (reply (if k.toNat < 0x80 then 0x80#8 + k else 0x80#8) .unknownKind)) ∧
      (kindAssigned k = true → p.lnk.requests.length = 2 →
        LeadsTo (.frameReceived (k :: args)) s (reply (0x80#8 + k) .busy))) ∧
  (∀ (i : Instr) (r : Request) (s : State), i.request? = some r → s.part.outbox = [] →
      s.part.lnk.requests.length < 2 →
      s.part.mdc.settings = none ∨ s.part.lnk.inFlight = true ∨ s.part.lnk.reply.isSome = true →
      LeadsTo i s { s.part with lnk := { s.part.lnk with requests := s.part.lnk.requests ++ [r] } }) ∧
  (∀ (s : State) (k : Byte) (args : List Byte), s.part.Ready → kindAssigned k = true →
      parseRequest k args = .malformed k →
      LeadsTo (.frameReceived (k :: args)) s
        { s.part with lnk := { s.part.lnk with reply := some ⟨0x80#8 + k, .badArg, [], none, 0⟩ } })

/-! ### The transmitter and the replies (R203, R204, R209, R211) -/

/-- A posting with the mask open: replaced in place, appended below 16, dropped with NOTICE_LOST at 16; with the mask bit clear
nothing happens, but STARTED passes always. -/
def Obligations.PostingFollowsMaskPlaceAndBound : Prop :=
  ∀ (p : Part) (k : NoticeKind) (subject : Nat) (data : List Byte),
    let ns := p.lnk.notices
    let mine := fun n : Notice => n.kind = k ∧ n.subject = subject
    (k ≠ .started → (p.params.get 0 2).getLsbD (noticeIndex k) = false → p.post k subject data = p) ∧
    (k = .started ∨ (p.params.get 0 2).getLsbD (noticeIndex k) = true →
      (∀ before after n, ns = before ++ n :: after → mine n → (∀ m ∈ before ++ after, ¬ mine m) →
        p.post k subject data =
          { p with lnk := { p.lnk with notices := before ++ ⟨k, subject, data⟩ :: after } }) ∧
      ((∀ n ∈ ns, ¬ mine n) → ns.length < 16 →
        p.post k subject data = { p with lnk := { p.lnk with notices := ns ++ [⟨k, subject, data⟩] } }) ∧
      ((∀ n ∈ ns, ¬ mine n) → 16 ≤ ns.length →
        p.post k subject data = { p with lnk := { p.lnk with noticeLost := true } }))

/-- What an idle transmitter takes: the immediate reply, which keeps its place until it is sent, else the reply slot's next
segment, else the oldest notice, which leaves the queue; a busy transmitter takes nothing. The segments of a reply carry its
payload whole and in order, and the last segment is the only one marked so. The missing segment byte of LINK_ERROR and the segment
byte 0x80 of the other immediate replies, and the moment at which LINK_FLAGS are formed, are the model's choice (logs 13, 14). -/
def Obligations.TransmitterTakesByPriority : Prop :=
  (∀ p : Part,
      let flags := BitVec.ofNat 8 (p.lnk.noticeLost.toNat + 2 * p.lnk.unsaved.toNat + 4 * p.lnk.dflt.toNat)
      (p.lnk.tx.isSome = true → p.transmit = p) ∧
      (p.lnk.tx = none → ∀ i, p.lnk.immediate = some i →
        p.transmit = { p with lnk := { p.lnk with
          tx := some ⟨.immediate, p.lnk.noticeLost,
            frameOf ([i.kind, BitVec.ofNat 8 i.status.code, flags] ++
              if i.status = .linkError then [] else [0x80#8])⟩ } }) ∧
      (p.lnk.tx = none → p.lnk.immediate = none → ∀ r, p.lnk.reply = some r → r.sent = 0 → r.flags = none →
        p.transmit = { p with lnk := { p.lnk with
          reply := some { r with flags := some flags, sent := 1 }
          tx := some ⟨.segment (decide (r.payload.length ≤ 60)), p.lnk.noticeLost,
            frameOf ([r.kind, BitVec.ofNat 8 r.status.code, flags,
              if r.payload.length ≤ 60 then 0x80#8 else 0x00#8] ++ r.payload.take 60)⟩ } }) ∧
      (p.lnk.tx = none → p.lnk.immediate = none → p.lnk.reply = none → ∀ n rest, p.lnk.notices = n :: rest →
        p.transmit = { p with lnk := { p.lnk with
          notices := rest
          tx := some ⟨.notice n.kind n.subject, false,
            frameOf ([BitVec.ofNat 8 (0x40 + noticeIndex n.kind), BitVec.ofNat 8 n.subject] ++ n.data)⟩ } }) ∧
      (p.lnk.immediate = none → p.lnk.reply = none → p.lnk.notices = [] → p.transmit = p)) ∧
  (∀ payload : List Byte,
      let n := (payload.length - 1) / 60 + 1
      ((List.range n).map fun k => (payload.drop (60 * k)).take 60).flatten = payload ∧
      ∀ k, k < n → (lastSegment payload k = true ↔ k + 1 = n) ∧
        segmentByte k (lastSegment payload k) = BitVec.ofNat 8 (k % 16 + if k + 1 = n then 0x80 else 0))

/-- The end of a sent frame that is no last segment: the transmitter is free, and a segment is followed by the next segment with
the flags of the first one; an immediate reply leaves its place. The end of a reply's last segment: the slot empties, NOTICE_LOST
is cleared if the reply carried it, and the next request, if any, is dispatched; the reply of a RESET is followed by the SOFT
reset. That an immediate reply which carried NOTICE_LOST clears it, that pins and standing reports outlast a reset, and the reset
values no rule states are the model's choice (logs 10, 11, 31, 39, 40). -/
def Obligations.SentFramesAreFollowed : Prop :=
  (∀ (s : State) (f : TxFrame), s.part.outbox = [] → s.part.lnk.tx = some f →
      let p := s.part
      (∀ k n, f.source = .notice k n → LeadsTo .txFrameDone s { p with lnk := { p.lnk with tx := none } }) ∧
      (f.source = .immediate → LeadsTo .txFrameDone s { p with lnk := { p.lnk with
        tx := none, immediate := none, noticeLost := p.lnk.noticeLost && !f.carriesLost } }) ∧
      (∀ r fl, f.source = .segment false → p.lnk.reply = some r → r.flags = some fl →
        LeadsTo .txFrameDone s { p with lnk := { p.lnk with
          reply := some { r with sent := r.sent + 1 }
          tx := some ⟨.segment (decide (r.payload.length ≤ 60 * (r.sent + 1))), fl.getLsbD 0,
            frameOf ([r.kind, BitVec.ofNat 8 r.status.code, fl,
              segmentByte r.sent (decide (r.payload.length ≤ 60 * (r.sent + 1)))] ++
                (r.payload.drop (60 * r.sent)).take 60)⟩ } })) ∧
  (∀ (s : State) (f : TxFrame), s.part.outbox = [] → s.part.lnk.tx = some f → f.source = .segment true →
      let q := { s.part with lnk := { s.part.lnk with
        tx := none, reply := none, noticeLost := s.part.lnk.noticeLost && !f.carriesLost } }
      (s.part.lnk.resetPending = false → s.part.lnk.requests = [] → LeadsTo .txFrameDone s q) ∧
      (∀ i r, s.part.lnk.resetPending = false → s.part.mdc.settings.isSome = true → s.part.lnk.inFlight = false →
        s.part.lnk.requests = [r] → i.request? = some r →
        exec .txFrameDone s = exec i { s with part := { q with lnk := { q.lnk with requests := [] } } }) ∧
      (s.part.lnk.resetPending = true →
        ∃ t, exec .txFrameDone s = .next t ∧ t.pending = s.pending ∧ AfterWarmReset s.part .soft t.part))

/-! ### Resets and the start-up load (R192, R193, and the reset rules of the chapters) -/

/-- A POWER reset brings every block to its reset state and keeps the pins, the drivers' standing reports and the non-volatile
memory. The part after reset is settled, its queues are within their bounds, its pages have their lengths, and its on-lists and
stacks agree with its loads. The reset values
that no rule states, that pins and standing reports outlast a reset, the outbox, and the defaults as the settings and the clear
storage resume flag before the start-up load, are the model's choice (logs 6, 9, 10, 11, 39, 77). -/
def Obligations.PowerResetRestoresEveryBlock : Prop :=
  (∀ s : State, ∃ t, exec .powerReset s = .next t ∧ t.pending = s.pending ∧
    t.part = { Part.reset with
      out := { Out.reset with
        groupHot := s.part.out.groupHot
        channels := Vector.ofFn fun c => { Channel.reset with backfeedStands := (s.part.chan c).backfeedStands } }
      sli := { Sli.reset with
        driverHot := s.part.sli.driverHot
        lines := Vector.ofFn fun l => { LineRec.reset with overRail := (s.part.line l).overRail } }
      mdc := { Mdc.reset with signals := s.part.mdc.signals.rested }
      lnk := { Lnk.reset with store := s.part.lnk.store, slot0 := s.part.lnk.slot0, slot1 := s.part.lnk.slot1 } }) ∧
  State.reset.part.Settled ∧ WithinBounds State.reset.part ∧ ListsAgree State.reset.part

/-- RESET is answered OK, and until its reply has been sent nothing but the mark of the coming reset changes. A PIN reset brings
every block to its reset state and keeps what R192 and the chapters let it keep. The reset values that no rule states, and that
pins and standing reports outlast a reset, are the model's choice (logs 10, 11, 31, 39). -/
def Obligations.WarmResetsKeepWhatTheyMay : Prop :=
  (∀ s : State, s.part.Ready →
      Replies .resetRequest s { s.part with lnk := { s.part.lnk with resetPending := true } } .ok []) ∧
  (∀ s : State, ∃ t, exec .pinReset s = .next t ∧ t.pending = s.pending ∧ AfterWarmReset s.part .pin t.part)

/-- The start-up load: the settings from a valid image or the defaults, the contents and the resume flag by the reset kind, and
every enabled line to SETTLING; taken once after a reset (log 34). That a second load has no effect is the model's choice (log
34). -/
def Obligations.StartUpLoadSetsSettingsContentsAndLines : Prop :=
  ∀ s : State, s.part.outbox = [] → s.part.lnk.requests = [] → s.part.mdc.mode = .start →
    let p := s.part
    let ok := p.lnk.store.crc = imageCrc p.lnk.store.image
    (p.mdc.settings.isSome = true → LeadsTo .startUpLoad s p) ∧
    (p.mdc.settings = none → ∃ t, exec .startUpLoad s = .next t ∧ t.pending = s.pending ∧
      (ok → t.part.params = (p.lnk.store.image.set 0 0 (BitVec.ofNat 16 4810)).set 0 1 Config.revision) ∧
      (¬ ok → t.part.params = defaultPages) ∧
      t.part.mdc.settings = some (if ok then .loaded else .defaulted) ∧
      t.part.lnk.unsaved = decide (¬ ok) ∧ t.part.lnk.dflt = decide (¬ ok) ∧
      t.part.mdc.mode = .start ∧
      (p.mdc.resetKind = .power →
        t.part.mdc.snapshot = some (if p.lnk.newest.isSome then .valid else .invalid) ∧
        (p.lnk.newest = none → t.part.mdc.resume = false ∧
          ∀ b, (t.part.bank b).content = t.part.params.fullContent b / 2) ∧
        (∀ one x, p.lnk.newest = some (one, x) → t.part.mdc.resume = x.resume ∧
          (t.part.bank .A).content = min (t.part.params.fullContent .A) x.contentA ∧
          (t.part.bank .B).content = min (t.part.params.fullContent .B) x.contentB) ∧
        ∀ b, (t.part.bank b).estimated = true) ∧
      (p.mdc.resetKind ≠ .power →
        t.part.mdc.snapshot = some .notRead ∧ t.part.mdc.resume = p.mdc.resume ∧
        ∀ b, (t.part.params.fullContent b = p.params.fullContent b → t.part.bank b = p.bank b) ∧
          (t.part.params.fullContent b ≠ p.params.fullContent b →
            (t.part.bank b).content = (p.bank b).content * t.part.params.fullContent b / p.params.fullContent b ∧
            (t.part.bank b).estimated = true)) ∧
      (∀ l, (t.part.params.lineEnable l = true →
          (t.part.line l).enabled = true ∧ (t.part.line l).supply = .settling ∧ (t.part.line l).settle = some 20) ∧
        (t.part.params.lineEnable l = false →
          (t.part.line l).enabled = (p.line l).enabled ∧ (t.part.line l).supply = (p.line l).supply)))

/-! ### The settings store and the running snapshot (R207, R210) -/

/-- SAVE: refused with STARTING in START and BUSY during a snapshot write; else a settings write starts with the newest accepted
value of every parameter, and the reply is held. A settings write that reads back right: OK, both flags clear, the stored CRC
right; one that does not: STORE_FAIL, the flags as they were. The memory is idle again, and a snapshot write that was held starts.
That the image stands with a wrong CRC until the write ends is how the model shows a write cut short (log 8); the empty payload of
a refusal is its choice (log 15). -/
def Obligations.SaveStartsAndCompletes : Prop :=
  (∀ s : State, s.part.Ready →
      let p := s.part
      (p.mdc.mode = .start → Replies .save s p .starting []) ∧
      (p.mdc.mode ≠ .start → p.lnk.memory ≠ .idle → Replies .save s p .busy []) ∧
      (p.mdc.mode ≠ .start → p.lnk.memory = .idle → 7 ≤ (p.params.getD 1 []).length → ∃ image : Pages,
        LeadsTo .save s { p with lnk := { p.lnk with
          requests := [.save], inFlight := true, memory := .saving, store := ⟨image, ~~~imageCrc image⟩ } } ∧
        (∀ b, image.get 1 (3 + bankIdx b) =
            ((p.bank b).pendingGain.map (BitVec.ofNat 16)).getD (p.params.get 1 (3 + bankIdx b)) ∧
          image.get 1 (5 + bankIdx b) =
            ((p.bank b).pendingEff.map (BitVec.ofNat 16)).getD (p.params.get 1 (5 + bankIdx b))) ∧
        ∀ page idx, page ≠ 1 ∨ idx < 3 ∨ 6 < idx → image.get page idx = p.params.get page idx)) ∧
  (∀ s : State, s.part.outbox = [] → s.part.lnk.memory = .saving → s.part.lnk.inFlight = true →
      s.part.lnk.requests = [.save] →
      let k := { s.part.lnk with memory := MemoryState.idle, requests := [], inFlight := false }
      let right := { s.part with lnk := { k with
        unsaved := false, dflt := false, store := ⟨k.store.image, imageCrc k.store.image⟩
        reply := some ⟨0x84#8, .ok, [], none, 0⟩ } }
      let wrong := { s.part with lnk := { k with reply := some ⟨0x84#8, .storeFail, [], none, 0⟩ } }
      (s.part.lnk.snapHeld = false → LeadsTo (.saveComplete true) s right ∧ LeadsTo (.saveComplete false) s wrong) ∧
      (s.part.lnk.snapHeld = true → SnapshotBegins (.saveComplete true) s right ∧ SnapshotBegins (.saveComplete false) s wrong))

/-- The snapshot countdown: reloaded with 900 s, and a write into the slot that does not hold the newest valid snapshot, with the
next sequence number, or held while the memory is busy. The end of a snapshot write makes its slot valid and the memory idle, and
a write that was held starts with the values as they stand then. Of two valid slots the newer is the one whose number exceeds the
other's by 1 to 2³¹ − 1 modulo 2³²; a slot alone valid is the newest; with none valid there is none. That a slot stands with a
wrong CRC until its write ends is how the model shows a write cut short (log 8). -/
def Obligations.SnapshotsAlternateByNumber : Prop :=
  (∀ s : State, s.part.outbox = [] →
      let p := s.part
      let q := { p with lnk := { p.lnk with snapTimer := 900000 } }
      (p.lnk.memory ≠ .idle →
        LeadsTo .snapshotCountdownExpiry s { q with lnk := { q.lnk with snapHeld := true } }) ∧
      (p.lnk.memory = .idle → SnapshotBegins .snapshotCountdownExpiry s q)) ∧
  (∀ s : State, s.part.outbox = [] →
      let p := s.part
      let done := fun q : Part => (p.lnk.snapHeld = false → LeadsTo .snapshotWriteDone s q) ∧
        (p.lnk.snapHeld = true → SnapshotBegins .snapshotWriteDone s q)
      (p.lnk.memory = .snapshot false → done { p with lnk := { p.lnk with
        memory := .idle, slot0 := { p.lnk.slot0 with crc := p.lnk.slot0.crcOf } } }) ∧
      (p.lnk.memory = .snapshot true → done { p with lnk := { p.lnk with
        memory := .idle, slot1 := { p.lnk.slot1 with crc := p.lnk.slot1.crcOf } } }) ∧
      (p.lnk.memory = .idle ∨ p.lnk.memory = .saving → LeadsTo .snapshotWriteDone s p)) ∧
  (∀ k : Lnk,
      let ok := fun x : Slot => x.crc = x.crcOf
      (ok k.slot0 → ok k.slot1 → 1 ≤ (k.slot1.seq - k.slot0.seq).toNat → (k.slot1.seq - k.slot0.seq).toNat ≤ 2 ^ 31 - 1 →
        k.newest = some (true, k.slot1)) ∧
      (ok k.slot0 → ok k.slot1 → 1 ≤ (k.slot0.seq - k.slot1.seq).toNat → (k.slot0.seq - k.slot1.seq).toNat ≤ 2 ^ 31 - 1 →
        k.newest = some (false, k.slot0)) ∧
      (ok k.slot0 → ¬ ok k.slot1 → k.newest = some (false, k.slot0)) ∧
      (¬ ok k.slot0 → ok k.slot1 → k.newest = some (true, k.slot1)) ∧
      (¬ ok k.slot0 → ¬ ok k.slot1 → k.newest = none))

/-! ### Parameters, the mask and reading requests (R205, R206, R208, R209, R212) -/

/-- NOTICE_MASK: a set bit 14 or 15 is BAD_ARG; else page 0 index 2 takes the mask, SETTINGS_UNSAVED is set if it changed, and the
reply carries it. A page write changes the value at its index and no other. The ranges and classes of every parameter, and the
checks of a WRITE_PARAM in the order of R206 against the page as it would stand after the write: an index beyond the page or read
only, a range (with the roles that R45 lets a load take), an index written by a request, the class of a value, and the cross
checks: the order of the written OCV and tank tables, unique roles, the floors, roles and modes of lines, the thresholds of the
guard, the bus count. A write that fails a check changes nothing but the reply, which carries the first failure and its index. An
accepted write of NOW values that no rule gives a consequence (page 0 index 3, page 8, page 9): the values stand in the page,
SETTINGS_UNSAVED is set, and the reply carries the values as they stood before. The payload of a refused WRITE_PARAM and the empty
one of a refused NOTICE_MASK, the index named for a check over several values, the count of a bus that stood over 16 before, and
the values with no count of their own are the model's choice (logs 15, 18, 60, 68). -/
def Obligations.ParameterWritesAreWholeOrNothing : Prop :=
  (∀ page i : Nat,
    let now := fun lo hi => (⟨lo, hi, .now⟩ : ParamSpec)
    let load := fun hi => (⟨0, hi, .offlineLoad⟩ : ParamSpec)
    let line := fun hi => (⟨0, hi, .offlineLine⟩ : ParamSpec)
    let capacity : ParamSpec := ⟨10, 1000, .parked⟩
    let gain : ParamSpec := ⟨1, 65535, .period⟩
    let efficiency : ParamSpec := ⟨800, 1000, .period⟩
    let readOnly : ParamSpec := ⟨0, 65535, .readOnly⟩
    let points := fun n => (List.range n).flatMap fun _ : Nat => [now 0 100, now 0 1000]
    let pages : List (List ParamSpec) :=
      [[readOnly, readOnly, ⟨0, 16383, .byRequest⟩, now 0 65535],
       [⟨0, 1, .parked⟩, capacity, capacity, gain, gain, efficiency, efficiency, now 12000 15500, now 12000 15500, now 0 20000,
        now 0 20000, now 0 5000, now 600 28800, now 0 1000] ++
         (List.range 16).flatMap fun _ : Nat => [now 0 20000, now 0 1000],
       [⟨0, 1, .byRequest⟩, now (-40) 20],
       (List.range 20).flatMap fun l =>
         [if 18 ≤ l then ⟨2, 2, .offlineLoad⟩ else ⟨1, 4, .offlineLoad⟩, load 1, load 25000, load 6, now 100 30000, now 0 30000],
       [now 100 20000, now 100 20000, now 0 1000, now 0 1000, now 0 1000, now 0 1000, now 0 1000, now 0 1000, now 0 200,
        now 10000 14000, now 10000 14000, now 1 16, now 1 16],
       ((List.range 6).flatMap fun _ : Nat => [⟨0, 1, .byRequest⟩, line 2, line 6, line 1, line 15, line 255, line 255, line 240,
         line 255, line 3, line 3]) ++ [now 5 100, now 10 600],
       [now 0 97, now 3 100, now 100 25000, now 1 60, now 100 20000] ++ [now 2 8] ++ points 8 ++ [now 2 8] ++ points 8,
       [now 0 2, now 10 60, now 2 10, now 0 1, now (-20) 40, now (-40) 30, now 2 10, now 60 3600],
       [now 5 120, now 5 300, now 1 60, now 500 30000, now 500 30000],
       (List.range 25).map fun _ : Nat => now 0 1000]
    paramSpec page i = (pages.getD page [])[i]?) ∧
  (∀ (p : Part) (page : Nat) (ws : List (Nat × Word)),
    let ps := p.params.written page ws
    let v := ps.nat page
    let cls := fun i => (paramSpec page i).map ParamSpec.cls
    let unknown := ws.find? fun w => [none, some ParamClass.readOnly].contains (cls w.1)
    let inRange := fun (x : ParamSpec) (w : Word) =>
      let n : Int := if x.lo < 0 then w.toInt else w.toNat
      decide (x.lo ≤ n) && decide (n ≤ x.hi)
    let roleFits := fun l code : Nat =>
      if l < 12 then decide (code ≤ 4) else if l < 18 then code == 0 || code == 5 else code == 6
    let outside := ws.find? fun w => !(((paramSpec page w.1).any fun x => inRange x w.2) &&
      (page != 3 || w.1 % 6 != 3 || roleFits (w.1 / 6) w.2.toNat))
    let requested := ws.find? fun w => cls w.1 == some .byRequest
    let notOff := fun n => (List.finRange 20).any fun l : LoadId => l.val == n && (p.load l).state != .off
    let enabled := fun n => (List.finRange 6).any fun l : LineId => l.val == n && (p.line l).enabled
    let held := fun i : Nat => match cls i with
      | some .parked => if p.parked = true then none else some Status.interlock
      | some .offlineLoad => if notOff (i / 6) = true then some .loadActive else none
      | some .offlineLine => if enabled (i / 11) = true then some .lineEnabled else none
      | _ => none
    let wrote := fun lo hi => ws.any fun w => decide (lo ≤ w.1) && decide (w.1 ≤ hi)
    let falls := fun i j : Nat => if v j < v i then [i, j] else []
    let stays := fun i j : Nat => if v j ≤ v i then [i, j] else []
    let twice := fun is : List Nat => if 1 < is.length then is else []
    let broken : List Nat := match page with
      | 1 => [14, 30].flatMap fun b => if wrote b (b + 15) = true then
          (List.range 7).flatMap fun k => stays (b + 2 * k) (b + 2 * k + 2) ++ falls (b + 2 * k + 1) (b + 2 * k + 3) else []
      | 3 => [1, 2, 3, 4, 5].flatMap fun code =>
          twice (((List.range 20).map fun l => 6 * l + 3).filter fun i => v i == code)
      | 4 => [2, 5].flatMap fun b => falls b (b + 1) ++ falls (b + 1) (b + 2)
      | 5 => ((List.range 6).flatMap fun l =>
          let i := 11 * l
          let fits := match v (i + 2) with
            | 1 => v (i + 1) == 0
            | 2 => v (i + 1) == 0
            | 3 => decide (2 ≤ v (i + 1))
            | 4 => v (i + 1) == 1
            | 5 => v (i + 1) == 1
            | 6 => v (i + 1) == 1
            | _ => true
          if fits = true then [] else [i + 1, i + 2]) ++
          [1, 2, 3, 4, 5, 6].flatMap fun code =>
            twice (((List.range 6).map fun l => 11 * l + 2).filter fun i => v i == code)
      | 6 => [5, 22].flatMap fun b => if wrote b (b + 16) = true then
          (List.range (v b - 1)).flatMap fun k =>
            let i := b + 1 + 2 * k
            let is := stays i (i + 2) ++ falls (i + 1) (i + 3)
            if is = [] then [] else b :: is
          else []
      | 7 => if ps.int 7 4 ≤ ps.int 7 5 then [4, 5] else []
      | _ => []
    let counted := fun (qs : Pages) (bus l : Nat) =>
      min 1 (qs.nat 3 (6 * l + 1)) == bus && decide (2 ≤ qs.nat 3 (6 * l)) && qs.nat 3 (6 * l + 3) != 3 &&
        qs.nat 3 (6 * l + 3) != 6
    let full := if page = 3 then [0, 1].filter fun b => decide (16 < ((List.range 20).filter (counted ps b)).length) else []
    let entered := full.flatMap fun b =>
      ((List.range 20).filter fun l => counted ps b l && !counted p.params b l).flatMap fun l =>
        [6 * l, 6 * l + 1, 6 * l + 3].filter fun i => v i != p.params.nat 3 i
    let first := fun is : List Nat => ((ws.find? fun w => is.contains w.1).getD (ws.headD (0, 0))).1
    let refused := fun st i => p.writeRefusal page ws = some (st, i)
    (∀ w, unknown = some w → refused .range w.1) ∧
    (∀ w, unknown = none → outside = some w → refused .range w.1) ∧
    (∀ w, unknown = none → outside = none → requested = some w → refused .interlock w.1) ∧
    (unknown = none → outside = none → requested = none →
      let kept := ws.find? fun w => (held w.1).isSome
      (∀ w st, kept = some w → held w.1 = some st → refused st w.1) ∧
      (kept = none → broken ≠ [] → refused .range (first broken)) ∧
      (kept = none → broken = [] → full ≠ [] → refused .busFull (first entered)) ∧
      (kept = none → broken = [] → full = [] → p.writeRefusal page ws = none))) ∧
  (∀ (s : State) (mask : Word), s.part.Ready → 0 < s.part.params.length → 3 ≤ (s.part.params.getD 0 []).length →
      (mask.getLsbD 14 = true ∨ mask.getLsbD 15 = true → Replies (.noticeMask mask) s s.part .badArg []) ∧
      (mask.getLsbD 14 = false → mask.getLsbD 15 = false →
        Replies (.noticeMask mask) s
          { s.part with
            params := s.part.params.set 0 2 mask
            lnk := { s.part.lnk with unsaved := s.part.lnk.unsaved || s.part.params.get 0 2 != mask } }
          .ok [BitVec.ofNat 8 mask.toNat, BitVec.ofNat 8 (mask.toNat / 256)])) ∧
  (∀ (ps : Pages) (page idx page' idx' : Nat) (v : Word),
      (page < ps.length → idx < (ps.getD page []).length → (ps.set page idx v).get page idx = v) ∧
      (page' ≠ page ∨ idx' ≠ idx → (ps.set page idx v).get page' idx' = ps.get page' idx')) ∧
  (∀ (s : State) (page start count : Byte) (values : List Word), s.part.Ready →
      let p := s.part
      let reply := fun st index => Replies (.writeParam page start count values) s p st
        ([page, start, count, index] ++ (p.params.values page.toNat start.toNat count.toNat).flatMap encodeWord)
      (9 < page.toNat ∨ count.toNat < 1 ∨ 28 < count.toNat ∨ values.length ≠ count.toNat → reply .badArg 0xFF#8) ∧
      (page.toNat ≤ 9 → 1 ≤ count.toNat → count.toNat ≤ 28 → values.length = count.toNat →
        (p.mdc.mode = .start → reply .starting 0xFF#8) ∧
        (p.mdc.mode ≠ .start → ∀ st index, p.writeRefusal page.toNat (writesFrom start.toNat values) = some (st, index) →
          reply st (BitVec.ofNat 8 index)))) ∧
  (∀ (s : State) (page start count : Byte) (values : List Word), s.part.Ready → s.part.mdc.mode ≠ .start →
      page.toNat = 0 ∨ page.toNat = 8 ∨ page.toNat = 9 → 1 ≤ count.toNat → count.toNat ≤ 28 →
      values.length = count.toNat →
      s.part.writeRefusal page.toNat (writesFrom start.toNat values) = none →
      Replies (.writeParam page start count values) s
        { s.part with
          params := s.part.params.written page.toNat (writesFrom start.toNat values)
          lnk := { s.part.lnk with unsaved := true } }
        .ok ([page, start, count, 0xFF#8] ++
          (s.part.params.values page.toNat start.toNat count.toNat).flatMap encodeWord))

/-- An accepted WRITE_PARAM of one value on pages 1 to 7: it answers OK, marks the settings unsaved, sets the value, and has the
consequences of its page. Page 1: a new chemistry brings its defaults and its cold inhibit, a new capacity rescales the content, a
PERIOD value waits in its slot. Page 2: the inhibit is judged. Page 3: a role given or taken reaches its unit, and one of a light
or a motor is only set; an open threshold of 0 zeroes the open counter. Page 4: a lowered limit sheds to fit, a floor sheds what
it now bars, a warning level judges its mark. Page 5: disabled FIXED lines take their thresholds, a new role starts its unit, a
duty period in STORAGE forms the countdowns anew. Page 6: the alarms are judged. Page 7: the calls are formed, the guard enable
takes the guard out of OFF and into it, and the thresholds make the guard judge. A value for which no rule has a consequence is
only set. A write of several values on pages 4 to 7 sets them all. That a pad load takes class 2 only where it stood at 3, and
that a written duty period, standstill time, running threshold or dry time meets its timers later, is the model's reading (logs 41
to 43), and so are the order of page 7 and the values with no count of their own (logs 63, 68). -/
def Obligations.AcceptedWritesHaveTheirConsequences : Prop :=
  (∀ (s : State) (page start count : Byte) (values : List Word), s.part.Ready → s.part.mdc.mode ≠ .start →
    4 ≤ page.toNat → page.toNat ≤ 7 → 1 ≤ count.toNat → count.toNat ≤ 28 → values.length = count.toNat →
    let ws := writesFrom start.toNat values
    s.part.writeRefusal page.toNat ws = none →
    ∃ q, Replies (.writeParam page start count values) s q .ok ([page, start, count, 0xFF#8] ++
        (s.part.params.values page.toNat start.toNat count.toNat).flatMap encodeWord) ∧
      q.params = s.part.params.written page.toNat ws ∧ q.lnk.unsaved = true) ∧
  ∀ (s : State) (page idx : Byte) (v : Word), s.part.Ready → s.part.mdc.mode ≠ .start → PagesOk s.part.params →
    s.part.writeRefusal page.toNat [(idx.toNat, v)] = none →
    let p := s.part
    let old := p.params
    let i := idx.toNat
    let n := v.toNat
    let ps := old.set page.toNat i v
    let w := { p with params := ps }
    let gives := fun q : Part => Replies (.writeParam page idx 1#8 [v]) s q.markUnsaved .ok
      ([page, idx, 1#8, 0xFF#8] ++ (old.values page.toNat i 1).flatMap encodeWord)
    let makes := fun holds : Part → Prop => ∃ q, gives q ∧ q.params = ps ∧ holds q
    let sourcesOff := fun q : Part => p.chg.coldInhibit = none →
      q.chg.shoreEnable = false ∧ q.chg.solarEnable = false ∧ q.chg.splitClosed = false
    let noClass2 := fun b : BusName => ∀ l ∈ (p.bus b).onList, (p.load l).motorClass ≠ some 2
    let noHeater := old.loadWith .heater = none
    (page = 1#8 →
      (i = 0 → (if n = 0 then Chemistry.lead else .lithium) = old.chemistry → gives w) ∧
      (i = 0 → (if n = 0 then Chemistry.lead else .lithium) ≠ old.chemistry →
        let full := if n = 0 then 14200#16 else 13900#16
        let cut := if n = 0 then 11300#16 else 12200#16
        ∃ q, gives q ∧ q.params = ((((old.set 1 7 full).set 1 8 full).set 4 9 cut).set 4 10 cut).set 1 0 v ∧
          (∀ b, q.bank b = { p.bank b with pendingEff := some (if n = 0 then 900 else 990) }) ∧
          (n = 0 → q.chg.coldInhibit = none) ∧
          (n = 1 → p.chg.battTemp = none → q.chg.coldInhibit = some .unknown ∧ sourcesOff q)) ∧
      (∀ b, (i = 1 + bankIdx b → n = old.capacity b → gives w) ∧
        (i = 1 + bankIdx b → n ≠ old.capacity b →
          let full := n * 36000000
          let content := (p.bank b).content * full / old.fullContent b
          makes fun q => q.chg = p.chg ∧ q.ldm = p.ldm ∧ (∀ b', b' ≠ b → q.bank b' = p.bank b') ∧
            q.bank b = { p.bank b with
              content := content, estimated := true
              full := if content = full then true else if content * 1000 < full * 995 then false else (p.bank b).full
              empty := if content = 0 then true else if full * 5 < content * 1000 then false else (p.bank b).empty }) ∧
        (i = 3 + bankIdx b → gives (p.setBank b { p.bank b with pendingGain := some n })) ∧
        (i = 5 + bankIdx b → gives (p.setBank b { p.bank b with pendingEff := some n }))) ∧
      (7 ≤ i → gives w)) ∧
    (page = 2#8 →
      (old.chemistry = .lead → p.chg.coldInhibit = none → p.chg.pad = .idle ∨ p.chg.pad = .noPad ∨ p.chg.pad = .faulted →
        gives w) ∧
      (∀ temp, old.chemistry = .lithium → p.chg.battTemp = some temp →
        let cold := temp < v.toInt + (if p.chg.coldInhibit.isSome = true then 6 else 0)
        makes fun q => (q.chg.coldInhibit = if cold then some .cold else none) ∧ (cold → sourcesOff q))) ∧
    (page = 3#8 → ∀ l : LoadId,
      (∀ f ∈ [0, 1, 2, 4], i = 6 * l.val + f → gives w) ∧
      (i = 6 * l.val + 5 → gives (if n = 0 then w.setChan l { p.chan l with openCount := 0 } else w)) ∧
      (i = 6 * l.val + 3 → old.role l = .general →
        (n = 0 → gives w) ∧
        (n = 1 → gives { w with wat := { p.wat with request := false, pump := .off } }) ∧
        (n = 2 → p.clm.call = false → p.clm.hold = false → p.clm.guard ≠ .risk →
          makes fun q => q.clm = { p.clm with heater := .idle, heatWanted := false, held := .none }) ∧
        (n = 3 → p.clm.guard = .dumped → gives w) ∧
        (n = 3 → p.clm.guard ≠ .dumped → w.Admits l → (p.chan l).switching ≠ .tripped →
          makes fun q => (q.load l).state = .on ∧ (q.chan l).switching = .on) ∧
        (n = 4 → ∃ q, gives q ∧ (q.params = if old.loadClass l = 3 then ps.set 3 (6 * l.val) 2 else ps) ∧
          (old.chemistry = .lead → q.chg.pad = .idle))) ∧
      (i = 6 * l.val + 3 → n = 0 → (∀ l', l' ≠ l → old.role l' ≠ old.role l) →
        (old.role l = .pump → gives { w with wat := { p.wat with request := false, pump := .noPump } }) ∧
        (old.role l = .heater → makes fun q => q.clm.heater = .noHeater ∧ (q.load l).promoted = false) ∧
        (old.role l = .frostValve → gives w) ∧
        (old.role l = .battPad → makes fun q => q.chg.pad = .noPad)) ∧
      (i = 6 * l.val + 3 → 12 ≤ l.val → old.role l = .general ∨ old.role l = .stepLight ∨ old.role l = .motor → gives w)) ∧
    (page = 4#8 →
      (8 ≤ i → i ≤ 10 → gives w) ∧
      ∀ b,
        let bus := p.busOfBank b
        let r := p.bus bus
        (i = bankIdx b → old.busLimit b ≤ 10 * n → gives w) ∧
        (i = bankIdx b → 10 * n < old.busLimit b → noClass2 bus →
          (w.committedSum bus ≤ busLimitOf ps bus → gives w) ∧
          (busLimitOf ps bus < w.committedSum bus → gives (w.shedToFit bus (w.victims bus fun _ => true)))) ∧
        (2 + 3 * bankIdx b ≤ i → i ≤ 4 + 3 * bankIdx b →
          (b = .B → p.chg.tieRelay = .joined → gives w) ∧
          (b = .A ∨ p.chg.tieRelay = .split →
            (r.onList = [] → gives w) ∧
            ((∀ l ∈ r.onList, p.effClass l ≤ 4) → makes fun q => ∀ l ∈ r.onList, p.sheddable l = true →
              r.soc < busFloorOf ps bus (p.effClass l) → (q.load l).state = .shed))) ∧
        (i = 11 + bankIdx b →
          let warn := busWarnOf ps bus
          (r.stack.length < warn → gives (w.setBus bus { r with depthMark := false })) ∧
          (warn ≤ r.stack.length → r.depthMark = true → gives w) ∧
          (warn ≤ r.stack.length → r.depthMark = false →
            gives ((w.setBus bus { r with depthMark := true }).postDepth bus)))) ∧
    (page = 5#8 → (∀ l, (p.line l).nodata = true ∨ (p.line l).nodataTimer < 1000) →
      let fixed := fun (q : Part) => ∀ l, q.line l =
        let r := p.line l
        let t1 := 40 + ps.lineField l 5
        let t2 := t1 + 40 + ps.lineField l 6
        if r.enabled = true ∨ ps.adaptive l = true then r
        else { r with
          ib := ps.lineField l 7, a1 := 70, a2 := 70, baseSat := false, a1Sat := false, a2Sat := false
          thr := ⟨t1, t2, t1 - 8, t2 - 8⟩ }
      (p.mdc.mode ≠ .storage ∨ i ≠ 67 ∧ 500 ≤ ps.dutyMs → (∀ l : LineId, i ≠ 11 * l.val + 2) → makes fun q =>
        q = { w with sli := { p.sli with lines := q.sli.lines, standWritten := decide (i = 66) || p.sli.standWritten } } ∧
        fixed q) ∧
      (p.mdc.mode = .storage → i = 67 → makes fun q =>
        let from' := fun (role : LineRole) (timer : Option Nat) => match p.ageOf role with
          | some a => if a < 2000 * n then some (2000 * n - a) else timer.map fun _ => 0
          | none => timer.map fun _ => 0
        q = { w with
          sli := { p.sli with lines := q.sli.lines }
          chg := { p.chg with battTimer := from' .battTemp p.chg.battTimer }
          clm := { p.clm with
            cabinTimer := from' .cabinTemp p.clm.cabinTimer, bayTimer := from' .bayTemp p.clm.bayTimer } } ∧
        fixed q) ∧
      (∀ l : LineId, i = 11 * l.val + 2 → old.lineRole l = .none → (p.line l).value = none → makes fun q =>
        (n = 1 → q.wat.fresh = { p.wat.fresh with levelState := .waiting, level := none, window := [] }) ∧
        (n = 2 → q.wat.grey = { p.wat.grey with levelState := .waiting, level := none, window := [] }) ∧
        (n = 3 → q.wat.rate = none) ∧ (n = 4 → q.clm.cabin = none) ∧ (n = 5 → q.clm.bay = none) ∧
        (n = 6 → q.chg.battTemp = none))) ∧
    (page = 6#8 →
      (∀ t, i = (match t with | .fresh => 0 | .grey => 1) →
        ((p.tank t).levelState = .held ∨ (p.tank t).level = none → gives w) ∧
        (∀ x, (p.tank t).levelState ≠ .held → (p.tank t).level = some x →
          let was := (p.tank t).alarm
          let alarm := match t with
            | .fresh => if x ≤ n then true else if n + 3 ≤ x then false else was
            | .grey => if n ≤ x then true else if x + 3 ≤ n then false else was
          let cause := match t with
            | .fresh => if alarm = true then TankCause.low else .notLow
            | .grey => if alarm = true then .full else .notFull
          gives (if alarm = was then w else (w.setTank t { p.tank t with alarm := alarm }).postTank t cause))) ∧
      (i = 2 ∨ i = 3 → gives { w with wat := { p.wat with dryWritten := true } }) ∧
      (4 ≤ i → gives w)) ∧
    (page = 7#8 →
      let warn := ps.warnThreshold
      let dump := ps.dumpThreshold
      let hysteresis : Int := ps.guardHysteresis
      let silent := decide (60000 ≤ p.clm.unknownTimer)
      let fromWatch : Option GuardState := match p.clm.bay with
        | none => if silent = true then some .risk else none
        | some t => if warn + hysteresis ≤ t then some .safe else if t < dump then some .risk else none
      (i ≤ 2 →
        let h : Int := (ps.thermoHysteresis / 2 : Nat)
        let rule := fun (goal : Int) (last unknown : Bool) => match p.clm.cabin with
          | none => unknown
          | some t => if t < goal - h then true else if goal + h ≤ t then false else last
        let call := match ps.thermoMode with
          | .off => false
          | .comfort => rule ps.setpoint p.clm.call false
          | .frostHold => rule 10 p.clm.call false
        let hold := p.clm.guard == .watch && rule 10 p.clm.hold true
        let heat := call || hold || p.clm.guard == .risk
        noHeater ∨ p.clm.heater = .faulted ∨ p.clm.heater = .idle ∧ heat = false ∨
          (p.clm.heater = .running ∨ p.clm.heater = .waiting) ∧ heat = true →
        gives { w with clm := { p.clm with call := call, hold := hold, heatWanted := heat, held := .none } }) ∧
      (i = 3 → n = 0 → old.guardEnabled = true → p.clm.guard = .safe → noHeater →
        gives ({ w with clm := { p.clm with
          guard := .off, hold := false, riskTimer := none, unknownTimer := 0, heatWanted := p.clm.call
          held := .none } }.postFrost .safe .setting)) ∧
      (i = 3 → n = 0 → old.guardEnabled = true → p.clm.guard = .safe ∨ p.clm.guard = .watch ∨ p.clm.guard = .risk →
        makes fun q => q.clm.guard = .off ∧ q.clm.hold = false ∧ q.clm.riskTimer = none ∧ q.clm.unknownTimer = 0 ∧
          ∀ l, old.loadWith .heater = some l → p.clm.guard = .risk → (q.load l).promoted = false) ∧
      (i = 3 → n = 1 → old.guardEnabled = false → p.clm.guard = .off →
        makes fun q => q.clm.guard = fromWatch.getD .watch) ∧
      (i = 3 → p.clm.guard = .dumped → gives w) ∧
      (i = 4 ∨ i = 5 ∨ i = 6 →
        let next : Option GuardState := match p.clm.guard, p.clm.bay with
          | .safe, none => some (if silent = true then .risk else .watch)
          | .safe, some t => if t < warn then some (if t < dump then .risk else .watch) else none
          | .watch, _ => fromWatch
          | .risk, some t =>
            if dump + hysteresis ≤ t then some (if warn + hysteresis ≤ t then .safe else .watch) else none
          | _, _ => none
        (next = none → gives w) ∧ ∀ g, next = some g → makes fun q => q.clm.guard = g) ∧
      (i = 7 → gives w))

/-- The requests that only read: each answers OK with its fields in the order of its rule, and nothing changes but the reply slot;
READ_PARAM is BAD_ARG by page and count and RANGE from a start past the page. The empty payload of a refused READ_PARAM, a lone
two-valued field as 0 for the value its list names first, times in whole seconds, the widths and presence bytes of some fields, the
countdowns that do not run, and the list count of a reply for one channel or line are the model's choice (logs 15, 16, 24, 40, 49,
51, 55, 56). -/
def Obligations.ReadingRequestsOnlyRead : Prop :=
  ∀ (s : State) (page start count : Byte) (b : Bank) (l : LoadId) (t : Tank) (x : Byte), s.part.Ready →
    let p := s.part
    let gives := fun (i : Instr) (fields : List (List Byte)) => Replies i s p .ok fields.flatten
    let yes := fun c : Bool => n8 (if c = true then 0 else 1)
    let num := fun {n : Nat} (y : Fin n) => n8 y.val
    let status := fun y : Status => n8 y.code
    let seconds := fun y : Option Nat => y.map fun n => n / 1000
    let bus := p.busOfBank b
    let base := if bus = .B then 16 else 0
    gives .identify [n16 (p.params.nat 0 0), n16 (p.params.nat 0 1), n16 (p.params.nat 0 3), n8 (resetKindCode p.mdc.resetKind),
      n32 p.uptime.toNat, n32 (if p.lnk.fastRate = true then 115200 else 19200), n8 p.mdc.mode.code, p.progressStates] ∧
    (page.toNat ≤ 9 → 1 ≤ count.toNat → count.toNat ≤ 28 → start.toNat < pageLength page.toNat →
      Replies (.readParam page start count) s p .ok ([page, start] ++
        listField encodeWord (p.params.values page.toNat start.toNat count.toNat))) ∧
    (9 < page.toNat ∨ count.toNat < 1 ∨ 28 < count.toNat → Replies (.readParam page start count) s p .badArg []) ∧
    (page.toNat ≤ 9 → 1 ≤ count.toNat → count.toNat ≤ 28 → pageLength page.toNat ≤ start.toNat →
      Replies (.readParam page start count) s p .range []) ∧
    (bankArg x = some b →
      let r := p.bank b
      let ps := p.params
      gives (.getBank x) [n8 (bankIdx b), n8 ps.chemistry.code, n8 r.acct.code, n16 (ps.capacity b), n64 (ps.fullContent b),
        n64 r.content, n16 (p.bankSoc b), optField (leSigned 4) r.lastCurrent, optField n16 r.lastVoltage, leSigned 2 r.offset,
        n16 (ps.gain b), optField n16 r.pendingGain, n16 (ps.efficiency b), optField n16 r.pendingEff,
        n8 (flagBits [r.estimated, r.full, r.empty, r.currentSat, r.offsetSat, r.atRest]), n16 (r.restTimer / 10),
        n8 (r.fullSyncTimer / 10), optField n16 r.timeToEmpty]) ∧
    (let c := p.chg
      let cold := c.coldInhibit.isSome
      gives .getCharge [yes c.shoreEnable, n8 (flagBits [!p.mains, cold, c.calHold]), yes c.solarEnable,
        n8 (flagBits [cold, c.calHold]), n8 (if c.splitClosed = true then 1 else 0),
        n8 (flagBits [!p.dplus, p.dplus && decide (c.dplusCount < 50), decide (c.highCount < 50), cold, c.calHold]),
        optField n16 p.mdc.starterVoltage, n8 c.dplusCount, n8 c.highCount, n8 c.lowCount, yes p.mains, yes p.dplus,
        n8 p.params.chemistry.code, optField (leSigned 2) c.battTemp, yes cold,
        optField (fun y : InhibitCause => n8 y.code) c.coldInhibit, leSigned 1 p.params.chargeMinimum, n8 c.pad.code,
        optField num (p.params.loadWith .battPad), optField status c.pad.refusal, optField n8 (seconds c.padRetry),
        n8 p.params.tieSetting.code, n8 c.tieRelay.code, yes c.calHold]) ∧
    (bankArg x = some b →
      let r := p.bus bus
      let limit := busLimitOf p.params bus
      let sum := p.committedSum bus
      gives (.getBus x) [n8 p.chg.tieRelay.code, n8 (busNameCode bus), n32 limit, n32 sum, leSigned 4 ((limit : Int) - sum),
        n16 r.soc, optField n16 r.voltage, n16 (busFloorOf p.params bus 2), n16 (busFloorOf p.params bus 3),
        n16 (busFloorOf p.params bus 4), n8 p.params.restoreHysteresis, n16 (busCutOf p.params bus), yes r.uvFlag,
        optField n8 (seconds r.belowCut), n8 (busWarnOf p.params bus), n8 r.stack.length, n8 r.onList.length,
        (r.onList.map fun m => num m ++ n8 (p.effClass m) ++ n16 (p.committed m)).flatten]) ∧
    (bankArg x = some b →
      let r := p.bus bus
      gives (.shedList x) [n8 r.stack.length, n8 (if bus = .joined then 32 else 16), n8 (busWarnOf p.params bus), yes r.depthMark,
        n8 (p.ldm.restoreTimer / 1000), n8 r.stack.length,
        ((r.stack.zipIdx base).reverse.map fun (e, place) => n8 place ++ num e.load ++ n8 e.cause.code ++ n32 e.shedAt.toNat ++
          n32 (p.uptime - e.shedAt).toNat ++ n8 (p.effClass e.load) ++ n16 (p.committed e.load)).flatten]) ∧
    (loadArg x = some l →
      let r := p.load l
      let ps := p.params
      let first := if p.busOf l = .B then 16 else 0
      gives (.loadGet x) [num l, n8 (ps.role l).code, n8 (ownerOf ps l).code, n8 (ps.loadClass l), n8 (p.effClass l),
        yes r.promoted, n8 (bankIdx (ps.homeBank l)), n16 (ps.nominal l), n8 r.state.code, yes r.wanted,
        if 12 ≤ l.val ∧ l.val < 18 then n16 r.wantedLevel else [],
        if r.state = .on then n8 1 ++ n32 r.admittedAt.toNat else n8 0, optField n16 r.measured, yes r.fresh,
        n16 (p.committed l), optField n8 r.motorClass,
        match r.state, ((p.bus (p.busOf l)).stack.zipIdx first).find? fun y => y.1.load == l with
        | .shed, some (e, place) => n8 place ++ n8 e.cause.code
        | _, _ => []]) ∧
    (tankArg x = some t →
      let r := p.tank t
      let role := match t with
        | .fresh => LineRole.freshLevel
        | .grey => .greyLevel
      gives (.tankGet x) [n8 t.code, optField num (p.params.lineWith role), n8 r.levelState.code, optField n8 r.level,
        n8 r.status.code, optField n16 (p.volume t), n8 r.window.length, (r.window.map n8).flatten, yes r.alarm,
        n8 (match t with | .fresh => p.params.nat 6 0 | .grey => p.params.nat 6 1), yes r.senderFault,
        match t with
        | .fresh => yes p.wat.dry ++ yes p.wat.dumped
        | .grey => []]) ∧
    (let w := p.wat
      let line := p.params.lineWith .flow
      let pump := p.params.loadWith .pump
      gives .flowGet [optField num line, n32 w.total.toNat, n16 w.remainder, optField n32 w.rate, n16 (p.params.nat 6 4),
        optField (fun m : LineId => yes (p.line m).standstill) line, optField num pump, yes w.request, n8 w.pump.code,
        optField status w.lastAnswer, optField n16 (pump.bind fun m => (p.load m).measured),
        yes (pump.any fun m => (p.load m).fresh), n16 (p.params.nat 6 2), n8 (p.params.nat 6 3), n16 w.dryTimer]) ∧
    (let c := p.clm
      let ps := p.params
      gives .climateGet [n8 ps.thermoMode.code, n8 ps.setpoint.toNat, n8 ps.thermoHysteresis, optField (leSigned 2) c.cabin,
        optField (leSigned 2) c.bay, yes c.call, yes c.hold, yes c.heatWanted, optField num (ps.loadWith .heater),
        n8 c.heater.code, optField status c.heater.denial, n8 c.held.code, optField n8 (seconds c.minOn),
        optField n8 (seconds c.minOff), n8 ((seconds c.evalTimer).getD 0), n8 (if ps.guardEnabled = true then 1 else 0),
        n8 c.guard.code, leSigned 1 ps.warnThreshold, leSigned 1 ps.dumpThreshold, n8 ps.guardHysteresis,
        n8 (c.unknownTimer / 1000), optField n16 (seconds c.riskTimer), n16 (ps.riskMs / 1000),
        yes ((ps.loadWith .heater).any fun m => (p.load m).promoted), optField num (ps.loadWith .frostValve),
        optField (fun m : LoadId => n8 (p.load m).state.code) (ps.loadWith .frostValve)]) ∧
    (let m := p.mot
      let target := match m.active with
        | some y => if y.axis = .awn then y.target else none
        | none => none
      let axis := fun a => n8 (p.axis a).state.code ++ yes (p.inSwitch a) ++ yes (p.outSwitch a) ++
        (if a = .awn then optField n16 (p.axis a).position ++ optField n16 target else []) ++ n8 (p.axis a).stall ++
        optField (fun r : MotionResult => n8 r.code) (p.axis a).lastResult ++ optField n16 (p.axis a).lastCurrent ++
        n8 (p.load (motorOf a)).state.code
      let waits := m.active.any fun y => y.stage == .backoffWait
      gives .motionGet [axis .awn, axis .step,
        optField (fun y : Motion => n8 (axisCode y.axis) ++ n8 y.dir.code ++ optField n16 y.target ++ n8 y.motorClass ++
          n8 y.stage.code) m.active,
        optField (fun y : PendingMove => n8 (axisCode y.axis) ++ n8 y.dir.code ++ optField n16 y.target ++ n8 y.origin.code) m.pend,
        optField n8 m.dead, optField n32 (if waits = true then none else m.timeout), optField n16 m.backoff, yes p.dplus,
        yes p.handbrake, yes p.parked]) ∧
    (∀ cs, channelsArg x = some cs → gives (.outputStatus x 0) [n8 cs.length, (cs.map fun c =>
      let r := p.chan c
      let k := r.latched
      n8 r.switching.code ++
        n8 (flagBits [k.short, k.overcurrent, k.openLoad, k.backfeed, k.hot]) ++ n8 r.overCount ++
        n8 r.openCount ++ n8 r.tripCount ++ optField n16 r.last ++ yes r.fresh ++ leSigned 2 r.zero ++ yes r.zeroSat ++
        (if 12 ≤ c.val ∧ c.val < 18 then n16 r.duty else []) ++ n8 (if p.out.exercise = some c then 1 else 0)).flatten]) ∧
    (∀ ls, linesArg x = some ls → gives (.lineGet x 0) [n8 ls.length, (ls.map fun m =>
      let r := p.line m
      let k := r.latched
      let nodata := yes r.nodata ++ n32 r.nodataTimer
      n8 r.enabled.toNat ++ n8 r.supply.code ++ n8 (p.params.lineMode m).code ++ n8 (p.params.lineRole m).code ++
        n8 (p.params.adaptive m).toNat ++ n8 (p.params.lineField m 4) ++ n16 r.thr.t1 ++ n16 r.thr.t2 ++ n16 r.thr.fall1 ++
        n16 r.thr.fall2 ++
        (if p.params.adaptive m = true then n8 1 ++ leSigned 2 r.ib ++ leSigned 1 r.a1 ++ leSigned 1 r.a2 ++
          n8 (flagBits [r.baseSat, r.a1Sat, r.a2Sat]) else n8 0) ++
        (match r.value with
        | none => n8 0
        | some v => n8 1 ++ (match v with
          | .level percent st => n8 percent ++ n8 st.code
          | .temp y => leSigned 2 y
          | .rate n => n32 n) ++ n32 (r.age.getD 0)) ++
        (match p.params.lineMode m with
        | .level => n8 r.bits ++ yes r.complete ++ nodata
        | .width => optField n16 r.width ++ nodata
        | .pulse => n32 r.pulseTotal.toNat ++ yes r.standstill ++ n32 r.standstillTimer) ++
        n8 r.openTimer ++ n8 r.highCount ++
        n16 (flagBits [k.shortGnd, k.shortBat, k.openWire, k.currentHigh, k.hot, k.invalid, k.pulseOverflow, k.outOfRange,
          k.senderFault])).flatten])

/-- A request whose argument is out of its list is refused with BAD_ARG and changes nothing, a MOVE with a target but AWN EXTEND
too. In START the requests that act are refused with STARTING, and nothing changes but the reply slot. The payloads of refused
replies, and the bytes 1 to 3 for the modes of MODE_SET, are the model's choice (logs 15, 67). -/
def Obligations.RefusedRequestsChangeNothing : Prop :=
  (∀ (s : State) (x y : Byte) (v w : Word) (r : Instr), s.part.Ready →
      (2 ≤ x.toNat ∧ r ∈ [.getBank x, .tieSet x, .getBus x, .shedList x, .water x, .tankGet x]) ∨
      (3 ≤ x.toNat ∧ r ∈ [.bankZero x, .heatSet x v]) ∨
      (4 ≤ x.toNat ∧ r ∈ [.sceneRecall x v, .sceneStore x]) ∨
      (6 ≤ x.toNat ∧ r ∈ [.lineControl x y, .lightSet x v w]) ∨
      (6 ≤ x.toNat ∧ x ≠ 0xFF#8 ∧ r ∈ [.lineGet x y]) ∨
      (20 ≤ x.toNat ∧ r ∈ [.loadGet x, .loadSet x y, .spotCheck x, .exercise x (some y)]) ∨
      (20 ≤ x.toNat ∧ x ≠ 0xFF#8 ∧ r ∈ [.outputStatus x y, .exercise x none]) ∨
      (2 ≤ y.toNat ∧ r ∈ [.lineControl x y, .exercise x (some y), .outputStatus x y, .lineGet x y]) →
      Replies r s s.part .badArg []) ∧
  (∀ (s : State) (x d : Byte) (w : Option Word) (a : Axis), s.part.Ready →
      (2 ≤ x.toNat → Replies (.move x d w) s s.part .badArg []) ∧
      (axisArg x = some a → 3 ≤ d.toNat ∨ w.isSome = true ∧ (a = .step ∨ d ≠ 0#8) →
        Replies (.move x d w) s s.part .badArg (s.part.movePayload a))) ∧
  (∀ (s : State) (x : Byte) (a : Axis) (d : Byte) (c : LightId) (l : LoadId) (n : LineId) (v w : Word), s.part.Ready →
      s.part.mdc.mode = .start →
      let p := s.part
      let starting := fun i payload => Replies i s p .starting payload
      starting .save [] ∧ starting .loadDefaults [] ∧ starting .frostDump [] ∧ starting .frostClose [] ∧
      (x.toNat ≤ 2 → starting (.bankZero x) []) ∧ (x.toNat ≤ 1 → starting (.tieSet x) []) ∧
      (x.toNat ≤ 1 → ownerOf p.params l = .host →
        starting (.loadSet (BitVec.ofNat 8 l.val) x) (p.loadSetPayload l .starting)) ∧
      (x.toNat ≤ 1 → starting (.exercise (BitVec.ofNat 8 l.val) (some x)) []) ∧ starting (.exercise 0xFF#8 none) [] ∧
      (x.toNat ≤ 1 → starting (.lineControl (BitVec.ofNat 8 n.val) x) []) ∧
      starting (.water 0) p.waterPayload ∧ (x.toNat ≤ 2 → starting (.heatSet x v) []) ∧
      (axisArg x = some a → d.toNat ≤ 2 → starting (.move x d none) (p.movePayload a)) ∧
      starting (.lightSet (BitVec.ofNat 8 c.val) v w)
        (p.lightPayload c (min 1000 v.toNat) (min 10000 w.toNat)) ∧
      (x.toNat ≤ 3 → starting (.sceneRecall x v) []) ∧ (x.toNat ≤ 3 → starting (.sceneStore x) []) ∧
      (1 ≤ x.toNat → x.toNat ≤ 3 → starting (.modeSet x) (p.modePayload .start)))

/-- LOAD_DEFAULTS: STARTING, WRONG_MODE and EXERCISE_ACTIVE change nothing; in SERVICE the reply is OK with the values kept, which
are a PARKED value while not parked, an OFFLINE field of a load that is not OFF and one of an enabled line. Every other writable
value takes its default, under the chemistry and capacities the request leaves in force: a PERIOD value waits in its slot, and a
disabled line whose default role an enabled line keeps gets role NONE. The read-only values, the tie relay, the line supplies and
enables and the store stay, and SETTINGS_UNSAVED is set. A battery pad that is not OFF, as none is in SERVICE, is left out. The
empty payload of a refusal and the form of the kept list are the model's choice (logs 15, 40). -/
def Obligations.LoadDefaultsSetsWorkingValuesOnly : Prop :=
  ∀ s : State, s.part.Ready →
    let p := s.part
    (p.mdc.mode = .start → Replies .loadDefaults s p .starting []) ∧
    (p.mdc.mode = .active ∨ p.mdc.mode = .storage → Replies .loadDefaults s p .wrongMode []) ∧
    (p.mdc.mode = .service → p.out.exercise.isSome = true → Replies .loadDefaults s p .exerciseActive []) ∧
    (p.mdc.mode = .service → p.out.exercise = none → (∀ page, (p.params.getD page []).length = pageLength page) →
      (∀ l, p.params.role l = .battPad → (p.load l).state = .off) →
      let old := p.params
      let kept := fun page idx => match (paramSpec page idx).map ParamSpec.cls with
        | some .parked => !p.parked
        | some .offlineLoad => (List.finRange 20).any fun l => idx / 6 == l.val && (p.load l).state != .off
        | some .offlineLine => (List.finRange 6).any fun l => idx / 11 == l.val && (p.line l).enabled
        | _ => false
      let keptList := (List.range 10).flatMap fun page =>
        ((List.range (pageLength page)).filter (kept page)).map fun i => (page, i)
      let chemistry := if p.parked = true then Chemistry.lithium else old.chemistry
      let capacity := fun b => if p.parked = true then 100 else old.capacity b
      let default := paramDefault chemistry (capacity .A) (capacity .B)
      ∃ t x, exec .loadDefaults s = .next t ∧ t.pending = s.pending ∧ t.part.lnk.reply = some x ∧ x.kind = 0x85#8 ∧
        x.status = .ok ∧ x.payload = keptPayload keptList ∧ t.part.lnk.unsaved = true ∧
        t.part.lnk.store = p.lnk.store ∧ t.part.chg.tieRelay = p.chg.tieRelay ∧
        (∀ l, (t.part.line l).enabled = (p.line l).enabled ∧ (t.part.line l).supply = (p.line l).supply) ∧
        (∀ page idx, badIndex page idx = true ∨ kept page idx = true →
          t.part.params.get page idx = old.get page idx) ∧
        (∀ b, (t.part.bank b).pendingGain = some (default 1 (3 + bankIdx b)).toNat ∧
          (t.part.bank b).pendingEff = some (default 1 (5 + bankIdx b)).toNat) ∧
        (∀ page idx, badIndex page idx = false → kept page idx = false → ¬(page = 1 ∧ 3 ≤ idx ∧ idx ≤ 6) →
          page ≠ 5 ∨ 66 ≤ idx ∨ idx % 11 ≠ 2 → t.part.params.get page idx = default page idx) ∧
        ∀ l : LineId, (p.line l).enabled = false →
          let role := default5 (11 * l.val + 2)
          t.part.params.get 5 (11 * l.val + 2) =
            if ∃ l', (p.line l').enabled = true ∧ old.lineField l' 2 = role then 0#16 else BitVec.ofNat 16 role)

/-! ### Battery banks (R1 to R18) -/

/-- A CALIBRATING sample: the voltage, CURRENT_SAT, the sum and the count; at the 8th the offset is the sum over 8, rounded toward
zero and clamped to 512 either way, and the bank counts from whole seconds and minutes on. The other bank stays. The last bank of
a calibration lowers the hold: the enables and the split relay are evaluated, and the tie relay takes the tie setting, with cause
START in START and CAL_HOLD later; in START the bank mark is set, and with the zero calibration done START ends. That the storage
resume flag stays set where START ends in ACTIVE is the model's choice (log 26). -/
def Obligations.CalibrationSampleOfABank : Prop :=
  ∀ (s : State) (b : Bank) (c : Word) (mv : Int),
    let r := s.part.bank b
    let n := { r with
      lastVoltage := some (min 20000 mv.toNat)
      currentSat := decide (c.toInt = -32768 ∨ c.toInt = 32767)
      calSum := r.calSum + c.toInt
      calSamples := r.calSamples + 1 }
    r.acct = .calibrating →
    ∃ t, exec (.bankSample b c mv) s = .next t ∧ t.pending = s.pending ∧
      (∀ b', b' ≠ b → t.part.bank b' = s.part.bank b') ∧ t.part.params = s.part.params ∧
      (r.calSamples + 1 < 8 → t.part.bank b = n ∧ t.part.mdc = s.part.mdc ∧ t.part.sli = s.part.sli) ∧
      (8 ≤ r.calSamples + 1 → t.part.bank b = { n with
        offset := max (-512) (min 512 (n.calSum.tdiv 8))
        offsetSat := decide (n.calSum.tdiv 8 < -512 ∨ 512 < n.calSum.tdiv 8)
        acct := .counting, secondCount := 0, minuteCount := 0, minuteSum := 0 } ∧
        ((∀ b', b' ≠ b → (s.part.bank b').acct = .counting) → t.part.chg.calHold = false ∧
          (s.part.outbox = [] → s.part.chg.calHold = true →
            let p := s.part
            let warm := p.chg.coldInhibit.isNone
            let tie := p.params.tieSetting
            let evaluated := t.part.chg.shoreEnable = (p.mains && warm) ∧ t.part.chg.solarEnable = warm ∧
              t.part.chg.splitClosed =
                (p.chg.splitClosed || p.dplus && p.chg.dplusCount == 50 && p.chg.highCount == 50 && warm)
            t.part.chg.tieRelay = tie ∧
            (p.Hears .charge → p.chg.tieRelay ≠ tie →
              ⟨.charge, 5, n8 tie.code ++ n8 (if p.mdc.mode = .start then 2 else 1)⟩ ∈ t.part.lnk.notices) ∧
            (p.mdc.mode ≠ .start → t.part.mdc = p.mdc ∧ evaluated) ∧
            (p.mdc.mode = .start → p.mdc.zeroDone = false → t.part.mdc = { p.mdc with bankDone := true } ∧ evaluated) ∧
            (p.mdc.mode = .start → p.mdc.zeroDone = true → StartEnds p t.part ∧
              (p.params.chemistry = .lead → p.chg.coldInhibit = none → evaluated)))))

/-- A COUNTING sample does the work of R17 in its order: the pending gain and efficiency at a whole second, voltage, current and
CURRENT_SAT, charge increment and content, full sync, rest and recalibration, the counts and the time to empty. A plain COUNTING
sample of a part in which nothing is due for shedding changes its bank's record and publishes the state of charge and the voltage
of its bus, and does nothing else. -/
def Obligations.CountingSampleDoesItsWorkInOrder : Prop :=
  (∀ (s : State) (b : Bank) (c : Word) (mv : Int),
      let p := s.part
      let r := p.bank b
      r.acct = .counting → 7 ≤ (p.params.getD 1 []).length →
      let v := min 20000 mv.toNat
      let gain := if r.secondCount = 0 then (r.pendingGain.map (· % 65536)).getD (p.params.gain b) else p.params.gain b
      let eff := if r.secondCount = 0 then (r.pendingEff.map (· % 65536)).getD (p.params.efficiency b)
        else p.params.efficiency b
      let i := divHalfAway ((c.toInt - r.offset) * gain) 1024
      let d := if 0 < i then i * eff / 1000 else i
      let full := p.params.fullContent b
      let c1 := min full (r.content + d).toNat
      let qualifies : Prop := 0 < i ∧ p.params.fullVoltage b ≤ v ∧ i ≤ p.params.tailCurrent b
      let sync : Prop := qualifies ∧ 600 ≤ r.fullSyncTimer + 1
      let quiet : Prop := i.natAbs ≤ p.params.restCurrent
      let rested : Prop := quiet ∧ p.params.restSamples ≤ r.restTimer + 1
      let ocv := ocvLookup p.params.ocvTable v
      let off := max (ocv - c1 * 1000 / full) (c1 * 1000 / full - ocv)
      let corrected : Prop := rested ∧ ¬ sync ∧ p.params.correctionBand < off
      ∃ t, exec (.bankSample b c mv) s = .next t ∧ t.pending = s.pending ∧
        let x := t.part.bank b
        t.part.params.gain b = gain ∧ t.part.params.efficiency b = eff ∧
        x.pendingGain = (if r.secondCount = 0 then none else r.pendingGain) ∧
        x.pendingEff = (if r.secondCount = 0 then none else r.pendingEff) ∧
        x.acct = .counting ∧ x.offset = r.offset ∧ x.lastVoltage = some v ∧ x.lastCurrent = some i ∧
        x.currentSat = decide (c.toInt = -32768 ∨ c.toInt = 32767) ∧
        (sync → x.content = full ∧ x.full = true ∧ x.empty = false ∧ x.estimated = false ∧ x.fullSyncTimer = 0) ∧
        (qualifies → ¬ sync → x.fullSyncTimer = r.fullSyncTimer + 1) ∧ (¬ qualifies → x.fullSyncTimer = 0) ∧
        (corrected → x.content = ocv * full / 1000) ∧ (rested → x.estimated = false ∧ x.restTimer = 0 ∧ x.atRest = true) ∧
        (quiet → ¬ rested → x.restTimer = r.restTimer + 1 ∧ x.atRest = r.atRest) ∧
        (¬ quiet → x.restTimer = 0 ∧ x.atRest = false) ∧
        (¬ sync → ¬ corrected → x.content = c1) ∧
        (¬ sync → ¬ rested → x.estimated = r.estimated ∧
          (x.full = true ↔ full * 995 ≤ c1 * 1000 ∧ (r.full = true ∨ 0 < d ∧ (full : Int) ≤ r.content + d)) ∧
          (x.empty = true ↔ c1 * 1000 ≤ full * 5 ∧ (r.empty = true ∨ d < 0 ∧ (r.content : Int) + d ≤ 0))) ∧
        x.secondCount = (if r.secondCount = 9 then 0 else r.secondCount + 1) ∧
        (r.minuteCount + 1 < 600 → x.minuteCount = r.minuteCount + 1 ∧ x.minuteSum = r.minuteSum + d ∧
          x.timeToEmpty = r.timeToEmpty) ∧
        (600 ≤ r.minuteCount + 1 → x.minuteCount = 0 ∧ x.minuteSum = 0 ∧
          let avg := (r.minuteSum + d).tdiv 600
          x.timeToEmpty = if avg < 0 then some (min 65535 (x.content / (600 * avg.natAbs))) else none) ∧
        (∀ b', b' ≠ b → t.part.bank b' = p.bank b') ∧ t.part.bnk.zeroing = p.bnk.zeroing ∧
        (∀ page idx, page ≠ 1 ∨ (idx ≠ 3 + bankIdx b ∧ idx ≠ 5 + bankIdx b) →
          t.part.params.get page idx = p.params.get page idx) ∧
        t.part.sli = p.sli ∧ t.part.mdc = p.mdc) ∧
  (∀ (s : State) (b : Bank) (c : Word) (mv : Int),
      let p := s.part
      let r := p.bank b
      let v := min 20000 mv.toNat
      let i := divHalfAway ((c.toInt - r.offset) * p.params.gain b) 1024
      let full := p.params.fullContent b
      let bus : BusName := match b with | .A => .A | .B => .B
      r.acct = .counting → r.secondCount ≠ 0 → r.minuteCount < 599 → p.outbox = [] → p.chg.tieRelay = .split →
      i < 0 → p.params.restCurrent < i.natAbs → 0 < r.content + i → r.full = false → r.empty = false →
      full * 5 < (r.content + i).toNat * 1000 → (r.content + i).toNat ≤ full →
      (p.bus bus).onList = [] → (p.bus bus).uvFlag = false → busCutOf p.params bus ≤ v →
      LeadsTo (.bankSample b c mv) s ((p.setBank b { r with
          lastVoltage := some v, lastCurrent := some i
          currentSat := decide (c.toInt = -32768 ∨ c.toInt = 32767)
          content := (r.content + i).toNat, fullSyncTimer := 0, restTimer := 0, atRest := false
          secondCount := if r.secondCount = 9 then 0 else r.secondCount + 1
          minuteCount := r.minuteCount + 1, minuteSum := r.minuteSum + i }).setBus bus
        { p.bus bus with soc := (r.content + i).toNat * 1000 / full, voltage := some v, belowCut := none }))

/-- BANK_ZERO: refused by mode, exercise and loads in the order of R6; accepted it holds its reply, puts the selected banks into
CALIBRATING and raises the hold, which takes the sources off, opens the split relay and splits the tie. The 8th sample of the last
selected bank forms the held reply with the new offset and OFFSET_SAT of each selected bank, and the request leaves the queue; the
8th sample of another leaves it held. The empty payload of a refusal, OFFSET_SAT as 0 when set, and the list's count are the
model's choice (logs 15, 16, 51). -/
def Obligations.BankZeroChecksThenCalibrates : Prop :=
  (∀ (s : State) (b : Bank) (c : Word) (mv : Int) (x : Byte) (z : Zeroing) (rest : List Request),
    (s.part.bank b).acct = .calibrating → (s.part.bank b).calSamples = 7 → s.part.bnk.zeroing = some z →
    s.part.lnk.requests = .bankZero x :: rest → s.part.lnk.inFlight = true → s.part.lnk.reply = none →
    s.part.lnk.tx.isSome = true →
    let last := ∀ b', b' ≠ b → (s.part.bank b').acct = .calibrating → (match b' with | .A => z.a | .B => z.b) = false
    ∃ t, exec (.bankSample b c mv) s = .next t ∧ t.pending = s.pending ∧
      (¬ last → t.part.bnk.zeroing = some z ∧ t.part.lnk.requests = .bankZero x :: rest ∧ t.part.lnk.inFlight = true ∧
        t.part.lnk.reply = none) ∧
      (last →
        let entry := fun b' => leSigned 2 (t.part.bank b').offset ++ [if (t.part.bank b').offsetSat = true then 0#8 else 1#8]
        t.part.bnk.zeroing = none ∧ t.part.lnk.requests = rest ∧ t.part.lnk.inFlight = false ∧
        t.part.lnk.reply = some ⟨replyKind (requestKind (.bankZero x)), .ok,
          n8 (z.a.toNat + z.b.toNat) ++ (if z.a = true then entry .A else []) ++ (if z.b = true then entry .B else []),
          none, 0⟩)) ∧
  ∀ (s : State) (x : Byte) (z : Zeroing), s.part.Ready → zeroArg x = some z →
    let p := s.part
    let loaded : Prop := ∃ l, (p.load l).state = .on ∧ p.params.role l ≠ .frostValve
    (p.mdc.mode = .start → Replies (.bankZero x) s p .starting []) ∧
    (p.mdc.mode = .active ∨ p.mdc.mode = .storage → Replies (.bankZero x) s p .wrongMode []) ∧
    (p.mdc.mode = .service → p.out.exercise.isSome = true → Replies (.bankZero x) s p .exerciseActive []) ∧
    (p.mdc.mode = .service → p.out.exercise = none → loaded → Replies (.bankZero x) s p .loadActive []) ∧
    (p.mdc.mode = .service → p.out.exercise = none → ¬ loaded → p.chg.calHold = false →
      ∃ t, exec (.bankZero x) s = .next t ∧ t.pending = s.pending ∧
        t.part.lnk.requests = [.bankZero x] ∧ t.part.lnk.inFlight = true ∧ t.part.lnk.reply = none ∧
        t.part.bnk.zeroing = some z ∧
        t.part.bank .A = (if z.a then { p.bank .A with acct := .calibrating, calSum := 0, calSamples := 0 } else p.bank .A) ∧
        t.part.bank .B = (if z.b then { p.bank .B with acct := .calibrating, calSum := 0, calSamples := 0 } else p.bank .B) ∧
        t.part.chg.calHold = true ∧ t.part.chg.shoreEnable = false ∧ t.part.chg.solarEnable = false ∧
        t.part.chg.splitClosed = false ∧ t.part.chg.tieRelay = .split ∧
        t.part.params = p.params ∧ t.part.mdc = p.mdc ∧ t.part.sli = p.sli)

/-- The OCV lookup over the eight points of a table with ascending voltages: below the first point its state of charge, above the
last point its state of charge, and between two adjacent points the interpolation, truncated toward zero; at a point the point's
own state of charge. It uses the active table's points, and both tables have the defaults of the rule; 13,260 mV give 540 ‰. -/
def Obligations.OcvLookupInterpolates : Prop :=
  (∀ (t : List (Nat × Nat)) (v : Nat), t.length = 8 → t.Pairwise (fun a b => a.1 < b.1 ∧ a.2 ≤ b.2) →
      let volts := fun i => (t.getD i (0, 0)).1
      let soc := fun i => (t.getD i (0, 0)).2
      (v < volts 0 → ocvLookup t v = soc 0) ∧ (volts 7 < v → ocvLookup t v = soc 7) ∧
      (∀ i, i < 7 → volts i ≤ v → v ≤ volts (i + 1) →
        (ocvLookup t v : Int) = soc i +
          (((v : Int) - volts i) * ((soc (i + 1) : Int) - soc i)).tdiv ((volts (i + 1) : Int) - volts i)) ∧
      (∀ i, i < 8 → v = volts i → ocvLookup t v = soc i)) ∧
  (∀ ps : Pages, ps.ocvTable =
      (List.range 8).map fun i =>
        let first := if ps.chemistry = .lead then 14 else 30
        (ps.nat 1 (first + 2 * i), ps.nat 1 (first + 2 * i + 1))) ∧
  (∀ (chem : Chemistry) (capA capB : Nat),
      ((List.range 32).map fun i => (paramDefault chem capA capB 1 (14 + i)).toNat) =
        [11800, 0, 11950, 100, 12100, 250, 12250, 400, 12400, 600, 12550, 800, 12650, 900, 12750, 1000,
         12000, 0, 12800, 100, 13000, 150, 13200, 300, 13300, 700, 13350, 900, 13400, 990, 13600, 1000]) ∧
  ocvLookup defaultPages.ocvTable 13260 = 540

/-! ### Charge control (R27 to R38) -/

/-- A starter sample: the voltage, the three counts, then the split relay. -/
def Obligations.StarterSampleCountsAndSwitches : Prop :=
  ∀ (s : State) (mv : Int), s.part.outbox = [] →
    let p := s.part
    let v := min 20000 mv.toNat
    let high := if 13200 ≤ v then min 50 (p.chg.highCount + 1) else 0
    let low := if v < 12700 then min 100 (p.chg.lowCount + 1) else 0
    let dplus := if p.dplus then min 50 (p.chg.dplusCount + 1) else p.chg.dplusCount
    let q := { p with
      mdc := { p.mdc with starterVoltage := some v }
      chg := { p.chg with highCount := high, lowCount := low, dplusCount := dplus } }
    let closes : Prop := p.dplus = true ∧ dplus = 50 ∧ high = 50 ∧ p.chg.coldInhibit = none ∧ p.chg.calHold = false
    (p.chg.splitClosed = true → low ≠ 100 → LeadsTo (.starterSample mv) s q) ∧
    (p.chg.splitClosed = true → low = 100 → LeadsTo (.starterSample mv) s
      (({ q with chg := { q.chg with splitClosed := false } }).postCharge .split .starterLow)) ∧
    (p.chg.splitClosed = false → ¬ closes → LeadsTo (.starterSample mv) s q) ∧
    (p.chg.splitClosed = false → closes → LeadsTo (.starterSample mv) s
      (({ q with chg := { q.chg with splitClosed := true } }).postCharge .split .closed))

/-- A battery temperature whose value has reached the limit in force is unknown: CLEAR with LEAD; with LITHIUM the inhibit is SET,
cause UNKNOWN, and a SET inhibit keeps the enables OFF and the split relay OPEN; an inhibit SET with cause COLD takes cause UNKNOWN,
with its notice. An expiry at a younger value counts down what is left of the limit (log 41). The pad retry: with a condition of R35
failed (LITHIUM, a known temperature below the charge minimum + 6, mains or D+, ACTIVE or STORAGE) the demand is dropped and the
state is IDLE; with them held the demand is placed again, and the answer gives the state. -/
def Obligations.BatteryTemperatureAndPadFollow : Prop :=
  (∀ s : State, s.part.outbox = [] → s.part.chg.battTimer.isSome = true →
      let p := s.part
      let limit := if p.mdc.mode = .storage then 2 * p.params.dutyMs else 10000
      let stale := ∀ a, p.ageOf .battTemp = some a → limit ≤ a
      let rests := p.chg.pad = .idle ∨ p.chg.pad = .noPad ∨ p.chg.pad = .faulted
      let q := { p with chg := { p.chg with battTimer := none, battTemp := none } }
      (stale → rests → p.params.chemistry = .lithium → p.chg.coldInhibit = some .unknown → LeadsTo .battTempStale s q) ∧
      (stale → rests → p.params.chemistry = .lead → p.chg.coldInhibit = none → LeadsTo .battTempStale s q) ∧
      (∀ a, p.ageOf .battTemp = some a → a < limit → rests → p.params.chemistry = .lead → p.chg.coldInhibit = none →
        LeadsTo .battTempStale s { p with chg := { p.chg with
          battTimer := some (limit - a), battTemp := p.knownTemp .battTemp } }) ∧
      (stale → rests → p.params.chemistry = .lithium → p.chg.coldInhibit = some .cold →
        p.chg.shoreEnable = false → p.chg.solarEnable = false → p.chg.splitClosed = false →
        LeadsTo .battTempStale s
          (({ q with chg := { q.chg with coldInhibit := some .unknown } }).postCharge .coldInhibit .unknown)) ∧
      (stale → p.params.chemistry = .lithium → p.chg.coldInhibit ≠ some .unknown →
        ∃ t, exec .battTempStale s = .next t ∧ t.pending = s.pending ∧ t.part.chg.battTemp = none ∧
          t.part.chg.battTimer = none ∧ t.part.chg.coldInhibit = some .unknown ∧ t.part.chg.shoreEnable = false ∧
          t.part.chg.solarEnable = false ∧ t.part.chg.splitClosed = false ∧
          t.part.bnk = p.bnk ∧ t.part.params = p.params ∧ t.part.mdc = p.mdc ∧ t.part.sli = p.sli)) ∧
  (∀ (s : State) (l : LoadId) (code : Status), s.part.outbox = [] → s.part.chg.padRetry.isSome = true →
      s.part.chg.pad = .refused code → s.part.params.loadWith .battPad = some l → l.val < 12 →
      let p := s.part
      let holds : Prop := p.params.chemistry = .lithium ∧
        (p.chg.battTemp.any fun t => decide (t < p.params.chargeMinimum + 6)) = true ∧ (p.mains = true ∨ p.dplus = true) ∧
        (p.mdc.mode = .active ∨ p.mdc.mode = .storage)
      let take := fun (q : Part) (st : PadState) => ({ q with chg := { q.chg with pad := st, padRetry := none } }).postPad
      (¬ holds → (p.load l).wanted = false → LeadsTo .padRetryExpiry s (take p .idle)) ∧
      (holds → (p.load l).state = .faulted → p.modeRefusal l (p.effClass l) = none →
        LeadsTo .padRetryExpiry s (take p .faulted)) ∧
      (holds → (p.load l).state = .shed → p.modeRefusal l (p.effClass l) = none →
        LeadsTo .padRetryExpiry s (take p .waiting)) ∧
      (holds → p.Admits l → (p.chan l).switching ≠ .tripped →
        LeadsTo .padRetryExpiry s (take (p.admitLoad l none) .running)) ∧
      (holds → (p.load l).state = .off → p.modeRefusal l (p.effClass l) = none →
        p.chargeRefusal (p.busOf l) (p.effClass l) = true → code = .lowCharge →
        LeadsTo .padRetryExpiry s { p with chg := { p.chg with padRetry := some 10000 } }))

/-- TIE_SET: the checks of R38 in order; an accepted one writes the setting; a change of the relay is taken whole, with the bus
values of the new tie state. On empty lists and stacks nothing is shed. Over any lists without a class-2 motor, a join merges the
on-lists by admitted time, an A entry before a B entry of the same time, and puts B's stack on A's, and a split gives each entry
to its home bus; the checks of the new records shed what they call for, and the reply counts it. The empty payload of a refusal,
the clear depth mark of a re-formed record, and that a join which sets the joined flag posts no SHED_DEPTH for it, are the model's
choice (logs 15, 40, 46). -/
def Obligations.TieSetJoinsAndSplits : Prop :=
  (∀ (p : Part) (as bs : List LoadId),
    let t := fun l => (p.load l).admittedAt.toNat
    let merged := p.mergeLists as bs
    merged.Perm (as ++ bs) ∧ as.Sublist merged ∧ bs.Sublist merged ∧
      (as.Pairwise (fun x y => t x ≤ t y) → bs.Pairwise (fun x y => t x ≤ t y) →
        merged.Pairwise fun x y => t x ≤ t y ∧ (t x = t y → x ∈ as ∨ y ∈ bs))) ∧
  ∀ s : State, s.part.Ready →
    let p := s.part
    let set := fun w : Word => { p with
      params := p.params.set 2 0 w
      lnk := { p.lnk with unsaved := p.lnk.unsaved || p.params.get 2 0 != w } }
    let empty := fun r : BusRec => r.onList = [] ∧ r.stack = []
    let refused := fun st => ∀ x : Byte, x.toNat ≤ 1 → Replies (.tieSet x) s p st []
    (p.mdc.mode = .start → refused .starting) ∧
    (p.mdc.mode = .storage ∨ p.mdc.mode = .service → refused .interlock) ∧
    (p.mdc.mode = .active → p.parked = false ∨ p.mot.active.isSome = true → refused .interlock) ∧
    (p.mdc.mode = .active → p.parked = true → p.mot.active = none →
      (p.chg.tieRelay = .joined → Replies (.tieSet 1) s (set 1) .ok [1#8, 0#8]) ∧
      (p.chg.tieRelay = .split → Replies (.tieSet 0) s (set 0) .ok [0#8, 0#8]) ∧
      (p.chg.tieRelay = .split → empty p.ldm.busA → empty p.ldm.busB → 0 < busWarnOf p.params .joined →
        let q := set 1
        Replies (.tieSet 1) s (({ q with
          chg := { q.chg with tieRelay := .joined }
          ldm := { q.ldm with
            busA := BusRec.reset, busB := BusRec.reset
            busJ := { BusRec.reset with
              soc := p.joinedSoc, voltage := p.joinedVoltage, uvFlag := p.ldm.busA.uvFlag || p.ldm.busB.uvFlag } } }).postCharge
          .tie .request) .ok [1#8, 0#8]) ∧
      (p.chg.tieRelay = .split → (p.ldm.busA.onList ++ p.ldm.busB.onList).Nodup →
        (∀ l ∈ p.ldm.busA.onList ++ p.ldm.busB.onList, (p.load l).motorClass ≠ some 2) →
        ∃ q n, Replies (.tieSet 1) s q .ok ([1#8] ++ n8 n) ∧ q.chg.tieRelay = .joined ∧ q.params = (set 1).params ∧
          q.bnk = p.bnk ∧ q.ldm.busA = BusRec.reset ∧ q.ldm.busB = BusRec.reset ∧
          TieChecked p q .joined { BusRec.reset with
            soc := p.joinedSoc, voltage := p.joinedVoltage, uvFlag := p.ldm.busA.uvFlag || p.ldm.busB.uvFlag
            onList := p.mergeLists p.ldm.busA.onList p.ldm.busB.onList, stack := p.ldm.busA.stack ++ p.ldm.busB.stack } n) ∧
      (p.chg.tieRelay = .joined → p.ldm.busJ.onList.Nodup →
        (∀ l ∈ p.ldm.busJ.onList, (p.load l).motorClass ≠ some 2) →
        let record := fun b => { BusRec.reset with
          soc := p.bankSoc b, voltage := (p.bank b).lastVoltage, uvFlag := p.ldm.busJ.uvFlag
          onList := p.ldm.busJ.onList.filter fun l => p.params.homeBank l == b
          stack := p.ldm.busJ.stack.filter fun e => p.params.homeBank e.load == b }
        ∃ q n m, Replies (.tieSet 0) s q .ok ([0#8] ++ n8 (n + m)) ∧ q.chg.tieRelay = .split ∧ q.params = (set 0).params ∧
          q.bnk = p.bnk ∧ q.ldm.busJ = BusRec.reset ∧ TieChecked p q .A (record .A) n ∧ TieChecked p q .B (record .B) m) ∧
      (p.chg.tieRelay = .joined → empty p.ldm.busJ → 0 < busWarnOf p.params .A → 0 < busWarnOf p.params .B →
        let q := set 0
        let record := fun b => { BusRec.reset with
          soc := p.bankSoc b, voltage := (p.bank b).lastVoltage, uvFlag := p.ldm.busJ.uvFlag }
        Replies (.tieSet 0) s (({ q with
          chg := { q.chg with tieRelay := .split }
          ldm := { q.ldm with busA := record .A, busB := record .B, busJ := BusRec.reset } }).postCharge .tie .request)
          .ok [0#8, 0#8]))

/-! ### The load manager (R44 to R68) -/

/-- The refusals of a demand by the mode and by the charge. LOAD_SET ON of a host's load: the answers that change nothing (OK for an
ON load, SHED, and each refusal in the order of R55 and R56, NO_BUDGET also where all victims together would not make room and none
is shed), the admission of an OFF load that finds room, and the one that makes room: the fewest victims of higher classes from the
front of their order are SHED with cause ROOM, and for a class-1 load that does not fit all of them are, before it is admitted
above the limit. LOAD_SET OFF of a host's load: an ON load leaves its on-list, a SHED one its stack, whose mark is judged; the
output is ordered off and LOAD_STATE is posted; an OFF load is left. A load of another owner is refused with OWNED. That a refused
LOAD_SET carries its payload is the model's choice (log 15). -/
def Obligations.LoadSetSwitchesAHostsLoad : Prop :=
  (∀ (p : Part) (l : LoadId) (cls : Nat),
      let role := p.params.role l
      p.modeRefusal l cls =
        if p.mdc.mode = .start then some .starting
        else if p.mdc.mode = .storage ∧ 3 ≤ cls then some .wrongMode
        else if p.mdc.mode = .service ∧ role ≠ .motor ∧ role ≠ .frostValve ∧
          ¬ (role = .heater ∧ (p.load l).promoted = true) then some .wrongMode
        else none) ∧
  (∀ (p : Part) (b : BusName) (cls : Nat), p.chargeRefusal b cls =
    decide (2 ≤ cls ∧ ((p.bus b).soc < busFloorOf p.params b cls ∨ (p.bus b).uvFlag = true))) ∧
  (∀ (s : State) (l : LoadId), s.part.Ready → l.val < 12 → ownerOf s.part.params l = .host → s.part.mdc.mode ≠ .start →
      let p := s.part
      let cls := p.effClass l
      let b := p.busOf l
      let onlyReply := fun st => Replies (.loadSet (BitVec.ofNat 8 l.val) 0#8) s p st (p.loadSetPayload l st)
      let wrongMode := p.mdc.mode = .storage ∧ 3 ≤ cls ∨ p.mdc.mode = .service
      (wrongMode → onlyReply .wrongMode) ∧
      (¬ wrongMode →
        ((p.load l).state = .faulted → onlyReply .faulted) ∧ ((p.load l).state = .exercised → onlyReply .exerciseActive) ∧
        ((p.load l).state = .shed → onlyReply .shed) ∧ ((p.load l).state = .on → onlyReply .ok) ∧
        ((p.load l).state = .off → 2 ≤ cls → (p.bus b).soc < busFloorOf p.params b cls ∨ (p.bus b).uvFlag = true →
          onlyReply .lowCharge) ∧
        ((p.load l).state = .off → p.chargeRefusal b cls = false → 2 ≤ cls →
          let victims := (p.victims b fun c => decide (cls < c)).filter (· ≠ l)
          busLimitOf p.params b < p.committedSum b + p.committed l - (victims.map p.committed).sum → onlyReply .noBudget)) ∧
      (p.Admits l →
        let q := ((p.setLoad l { p.load l with state := .on, admittedAt := p.uptime, motorClass := none }).setBus b
          { p.bus b with onList := (p.bus b).onList ++ [l] }).orderOn l
        (p.chan l).switching ≠ .tripped →
        Replies (.loadSet (BitVec.ofNat 8 l.val) 0#8) s (q.postLoad l .admitted) .ok (q.loadSetPayload l .ok)) ∧
      (p.modeRefusal l cls = none → (p.load l).state = .off → p.chargeRefusal b cls = false → (p.bus b).onList.Nodup →
        l ∉ (p.bus b).onList → (∀ m ∈ (p.bus b).onList, (p.load m).motorClass ≠ some 2) → (p.chan l).switching ≠ .tripped →
        let victims := p.victims b fun c => decide (cls < c)
        let tight := fun k => busLimitOf p.params b <
          p.committedSum b + p.committed l - ((victims.take k).map p.committed).sum
        ∀ k, k ≤ victims.length → (∀ j, j < k → tight j) → ¬ tight k ∨ cls = 1 ∧ k = victims.length →
          ∃ q, Replies (.loadSet (BitVec.ofNat 8 l.val) 0#8) s q .ok (q.loadSetPayload l .ok) ∧
            (q.load l).state = .on ∧ (q.load l).admittedAt = p.uptime ∧ (q.chan l).switching = .on ∧
            (∀ v ∈ victims.take k, (q.load v).state = .shed) ∧
            (∀ m, m ≠ l → m ∉ victims.take k → q.load m = p.load m) ∧
            (q.bus b).onList = ((p.bus b).onList.filter fun m => decide (m ∉ victims.take k)) ++ [l] ∧
            (q.bus b).stack = (p.bus b).stack ++ (victims.take k).map (fun v => ⟨v, .room, p.uptime⟩) ∧
            (∀ b', b' ≠ b → q.bus b' = p.bus b') ∧ q.params = p.params ∧ q.bnk = p.bnk)) ∧
  (∀ (s : State) (l : LoadId), s.part.Ready → s.part.mdc.mode ≠ .start →
      let p := s.part
      let b := p.busOf l
      (ownerOf p.params l = .host → (p.load l).state = .off →
        Replies (.loadSet (BitVec.ofNat 8 l.val) 1#8) s p .ok (p.loadSetPayload l .ok)) ∧
      (ownerOf p.params l = .host → (p.load l).state = .on →
        let q := ((p.setBus b { p.bus b with onList := (p.bus b).onList.filter (· ≠ l) }).setLoad l
          { p.load l with state := .off, motorClass := none }).orderOff l
        Replies (.loadSet (BitVec.ofNat 8 l.val) 1#8) s (q.postLoad l .off) .ok (q.loadSetPayload l .ok)) ∧
      (ownerOf p.params l = .host → (p.load l).state = .shed →
        let stack := (p.bus b).stack.filter fun e => decide (e.load ≠ l)
        let deep := decide (busWarnOf p.params b ≤ stack.length)
        (deep = true → (p.bus b).depthMark = true) →
        let q := ((p.setBus b { p.bus b with stack := stack, depthMark := deep }).setLoad l
          { p.load l with state := .off, motorClass := none }).orderOff l
        Replies (.loadSet (BitVec.ofNat 8 l.val) 1#8) s (q.postLoad l .off) .ok (q.loadSetPayload l .ok)) ∧
      (ownerOf p.params l ≠ .host →
        Replies (.loadSet (BitVec.ofNat 8 l.val) 1#8) s p .owned (p.loadSetPayload l .owned) ∧
        Replies (.loadSet (BitVec.ofNat 8 l.val) 0#8) s p .owned (p.loadSetPayload l .owned)))

/-- Victim order (R53). The candidates of a bus are its sheddable loads whose class the calling rule names, a higher class before a
lower one, and within a class the later one of the on-list first, which is the most recent admitted time first on a list in the
order of admission. They are taken from the front until the rule's condition is met: the fewest whose draws bring a need to a
limit, none where all of them do not, and an overload's until the committed sum is at or below the limit. The order is formed once:
the loads taken are shed in it, one upon the other, and every other load keeps its state and its place on the list. -/
def Obligations.VictimsByClassThenLatest : Prop :=
  (∀ (p : Part) (b : BusName) (ok : Nat → Bool),
      let t := fun l => (p.load l).admittedAt.toNat
      (∀ l, l ∈ p.victims b ok ↔
        l ∈ (p.bus b).onList ∧ p.sheddable l = true ∧ p.effClass l ≤ 4 ∧ ok (p.effClass l) = true) ∧
      (p.victims b ok).Pairwise (fun x y => p.effClass y ≤ p.effClass x) ∧
      (∀ cls ≤ 4, ((p.victims b ok).filter fun l => p.effClass l == cls) =
        ((p.bus b).onList.reverse.filter fun l => p.sheddable l && ok (p.effClass l) && p.effClass l == cls)) ∧
      ((p.bus b).onList.Pairwise (fun x y => t x ≤ t y) →
        (p.victims b ok).Pairwise fun x y => p.effClass x = p.effClass y → t y ≤ t x)) ∧
  (∀ (p : Part) (limit need : Nat) (ls : List LoadId),
      let freed := fun k => ((ls.take k).map p.committed).sum
      (∀ taken, p.victimsToFit limit need ls = some taken →
        ∃ k, taken = ls.take k ∧ k ≤ ls.length ∧ need - freed k ≤ limit ∧ ∀ j, j < k → limit < need - freed j) ∧
      (p.victimsToFit limit need ls = none ↔ limit < need - freed ls.length)) ∧
  (∀ (p : Part) (b : BusName) (ls : List LoadId),
      let after := fun k => p.shedAll b .overload (ls.take k)
      ∃ k ≤ ls.length, p.shedToFit b ls = after k ∧
        (∀ j, j < k → busLimitOf p.params b < (after j).committedSum b) ∧
        ((after k).committedSum b ≤ busLimitOf p.params b ∨ k = ls.length)) ∧
  (∀ (p : Part) (b : BusName) (cause : ShedCause) (ls : List LoadId), ls.Nodup →
      (∀ l ∈ ls, l ∈ (p.bus b).onList ∧ p.sheddable l = true) →
      let q := p.shedAll b cause ls
      (q.bus b).onList = ((p.bus b).onList.filter fun l => decide (l ∉ ls)) ∧
      (q.bus b).stack = (p.bus b).stack ++ ls.map (fun l => ⟨l, cause, p.uptime⟩) ∧
      (∀ l ∈ ls, (q.load l).state = .shed) ∧ (∀ l, l ∉ ls → q.load l = p.load l) ∧ ∀ b', b' ≠ b → q.bus b' = p.bus b')

/-- The below-cut timer's expiry: the undervoltage flag is set with a SHED_DEPTH notice, and every sheddable load of the bus is
SHED; with none on the bus nothing else happens. The configured classes are 1 to 4, as the parameter table has them. The restore
examination: the timer is reloaded; a stack whose top fails one of the five conditions of R63 stays; a top that meets them all (30
s on the stack, the charge, the flag, the mode, the room) leaves the stack, becomes ON at the end of its on-list, its owner hears
of it (WAT, CLM, CHG take it as running, LUX fades the light up to its target), and it is posted RESTORED. That the notice of the
flag carries the stack from before the shedding is the model's choice (log 46). -/
def Obligations.UndervoltageShedsAndTheStackRestores : Prop :=
  (∀ (s : State) (b : BusName), s.part.outbox = [] → (s.part.bus b).belowCut.isSome = true →
      (∀ l ∈ (s.part.bus b).onList, s.part.effClass l ≤ 4) →
      let p := s.part
      let q := (p.setBus b { p.bus b with belowCut := none, uvFlag := true }).postDepth b
      ((p.bus b).onList = [] → LeadsTo (.undervoltageExpiry b) s q) ∧
      ∃ t, exec (.undervoltageExpiry b) s = .next t ∧ t.pending = s.pending ∧ (t.part.bus b).uvFlag = true ∧
        (t.part.bus b).belowCut = none ∧ t.part.bnk = p.bnk ∧ t.part.params = p.params ∧ t.part.sli = p.sli ∧
        t.part.mdc = p.mdc ∧ t.part.uptime = p.uptime ∧
        ∀ l ∈ (p.bus b).onList, p.sheddable l = true → (t.part.load l).state = .shed) ∧
  (∀ s : State, s.part.outbox = [] →
      let p := s.part
      let q := { p with ldm := { p.ldm with restoreTimer := 2000 } }
      let restorable := fun (b : BusName) (e : ShedEntry) =>
        30 ≤ (p.uptime - e.shedAt).toNat ∧
        busFloorOf p.params b (p.effClass e.load) + p.params.restoreHysteresis ≤ (p.bus b).soc ∧
        (p.bus b).uvFlag = false ∧ p.modeRefusal e.load (p.effClass e.load) = none ∧
        p.committedSum b + p.committed e.load ≤ busLimitOf p.params b
      ((∀ b ∈ p.liveBuses, ∀ e, (p.bus b).stack.getLast? = some e → ¬ restorable b e) →
        LeadsTo .restoreExamination s q) ∧
      (∀ b ∈ p.liveBuses, ∀ rest e, (∀ b' ∈ p.liveBuses, b' ≠ b → (p.bus b').stack = []) →
        (p.bus b).stack = rest ++ [e] → (∀ x ∈ rest, x.load ≠ e.load) → p.busOf e.load = b →
        (p.chan e.load).switching ≠ .tripped → rest.length < busWarnOf p.params b → restorable b e →
        let l := e.load
        let on := (q.setBus b { p.bus b with stack := rest, depthMark := false, onList := (p.bus b).onList ++ [l] }).setLoad l
          { p.load l with state := .on, admittedAt := p.uptime, motorClass := none }
        let restored := fun x : Part => LeadsTo .restoreExamination s (x.postLoad l .restored)
        (l.val < 12 → p.params.role l = .general → restored (on.orderOn l)) ∧
        (l.val < 12 → p.params.role l = .pump →
          restored { on.orderOn l with wat := { p.wat with pump := .running } }) ∧
        (l.val < 12 → p.params.role l = .heater → p.clm.heater ≠ .running →
          restored ({ on.orderOn l with clm := { p.clm with minOn := some 120000, heater := .running } }).postHeater) ∧
        (l.val < 12 → p.params.role l = .battPad → p.chg.pad ≠ .running →
          restored ({ on.orderOn l with chg := { p.chg with pad := .running, padRetry := none } }).postPad) ∧
        (∀ c : LightId, l = lightLoad c → p.out.exercise ≠ some l → 0 < (p.light c).target →
          (p.light c).present < (p.light c).target →
          let d := (p.light c).target - (p.light c).present
          let x := on.orderOn l
          restored (x.setLight c { p.light c with
            fadeEnd := (p.light c).target, fadeStep := some ((d * 10 + 999) / 1000), tick := some 10 }))))

/-! ### The output monitor (R78 to R98) -/

/-- The completion of a sweep or tracking measurement that trips nothing: the reading is stored and fresh, the counters move, the
eighth open reading latches OPEN with its notice, the Load Manager has the reading (a committed draw that is not raised, or still
fits with no class-2 motor on the bus, sheds nothing), a dry timer whose condition has failed is 0, MOT keeps a motor's current,
and the sweep's next channel is granted; nothing else changes. A tracking result of the axis that drives also restarts the result
watch and moves the stall counter; the third one stalls: an extension ends BLOCKED, a parked retraction stands in BACKOFF_WAIT.
That a tracking result restarts the watch in BACKOFF too is the model's choice (log 24). The timers of the channels: a freshness
expiry clears fresh in the channel and the load, an inrush blank ends, and the pass timer reloads and releases a held sweep. -/
def Obligations.MeasurementsAreStoredAndExpire : Prop :=
  (∀ (s : State) (m : Measuring) (raw : Int),
      let p := s.part
      let c := m.channel
      let r := p.chan c
      let b := p.busOf c
      let ma := min 30000 (raw - r.zero).toNat
      let swept : LoadId := if h : c.val + 1 < 20 then ⟨c.val + 1, h⟩ else 0
      let next := if m.source = .sweep then swept else p.out.sweepPos
      let overs := if r.latched.overcurrent = true then r.overCount else if r.inrush.isSome = true then 0
        else if m.onThroughout = true ∧ p.params.tripCurrent c < ma then min 8 (r.overCount + 1) else r.overCount - 1
      let opened := if m.onThroughout = true then
          (if ma < p.openLevel c then min 8 (r.openCount + 1) else r.openCount - 1)
        else r.openCount
      let stored := { r with
        last := some ma, fresh := true, overCount := overs, openCount := opened
        freshTimer := some (if p.mdc.mode = .storage then 2500 else 250) }
      let q := if 8 ≤ opened ∧ r.latched.openLoad = false then
          (p.setChan c { stored with latched := { r.latched with openLoad := true } }).postOutputFault c .openLoad
        else p.setChan c stored
      let q := q.setLoad c { p.load c with measured := some ma, fresh := true }
      let dry := if p.params.loadWith .pump = some c ∧ q.dryCondition = false then
          { q with wat := { p.wat with dryTimer := 0 } }
        else q
      let granted := fun q : Part => { q with out := { q.out with
        lastGroup := some (groupOf c), sweepPos := next
        running := some ⟨next, .sweep, false, decide ((q.chan next).switching = .on),
          if groupOf next = groupOf c then 1 else 3⟩ } }
      p.outbox = [] → p.out.running = some m → p.out.zeroPass = none → m.source = .sweep ∨ m.source = .tracking →
      m.host = false → p.out.trackingSlot = none → p.out.spotQueue = [] → p.out.sweepHeld = false →
      (m.source = .sweep → c = 19 → p.mdc.mode ≠ .storage) → r.latched.overcurrent = true ∨ overs < 8 →
      ((p.load c).state = .on → ma ≤ p.committed c ∨
        q.committedSum b ≤ busLimitOf p.params b ∧ ∀ l ∈ (p.bus b).onList, (p.load l).motorClass ≠ some 2) →
      (c.val < 18 → LeadsTo (.measurementComplete raw) s (granted dry)) ∧
      ∀ a, c = motorOf a →
        let x := { p.axis a with lastCurrent := some ma }
        (m.source = .sweep ∨ (∀ mo, p.mot.active = some mo → mo.axis ≠ a) →
          LeadsTo (.measurementComplete raw) s (granted (dry.setAxis a x))) ∧
        ∀ mo, m.source = .tracking → p.mot.active = some mo → mo.axis = a →
          let watched := { dry with mot := { dry.mot with watch := some 50 } }
          (mo.stage = .wait ∨ mo.stage = .backoffWait →
            LeadsTo (.measurementComplete raw) s (granted (dry.setAxis a x))) ∧
          (mo.stage = .backoff → LeadsTo (.measurementComplete raw) s (granted (watched.setAxis a x))) ∧
          (mo.stage = .drive →
            let count := if p.mot.inrush.isSome = true then 0
              else if p.params.stallThreshold a < ma then x.stall + 1 else x.stall - 1
            (count < 3 → LeadsTo (.measurementComplete raw) s (granted (watched.setAxis a { x with stall := count }))) ∧
            (3 ≤ count → p.mot.pend = none → (p.load c).state = .on → r.switching ≠ .tripped →
              ∃ t, exec (.measurementComplete raw) s = .next t ∧ t.pending = s.pending ∧ t.part.mot.bridge = .brake ∧
                t.part.mot.dead = some 200 ∧ t.part.mot.tick = none ∧ t.part.mot.watch = none ∧
                (t.part.chan c).switching = .off ∧ t.part.params = p.params ∧ t.part.bnk = p.bnk ∧
                (mo.dir = .extend ∨ p.parked = false → t.part.mot.active = none ∧ t.part.mot.timeout = none ∧
                  (t.part.axis a).state = .blocked ∧ (t.part.axis a).lastResult = some .blocked ∧
                  (t.part.load c).state = .off) ∧
                (mo.dir = .retract → p.parked = true → t.part.mot.active = some { mo with stage := .backoffWait } ∧
                  t.part.mot.timeout = p.mot.timeout ∧ (t.part.axis a).state = x.state ∧ (t.part.load c).state = .on)))) ∧
  (∀ (s : State) (m : Measuring) (raw : Int), s.part.out.running = some m → s.part.out.zeroPass = none →
      let c := m.channel
      let ma := min 30000 (raw - (s.part.chan c).zero).toNat
      ∃ t, exec (.measurementComplete raw) s = .next t ∧ t.pending = s.pending ∧ (t.part.chan c).last = some ma ∧
        (t.part.chan c).fresh = true ∧ (t.part.load c).measured = some ma ∧ (t.part.load c).fresh = true ∧
        t.part.params = s.part.params ∧ t.part.bnk = s.part.bnk) ∧
  (∀ (s : State) (c : LoadId) (a : Axis), s.part.outbox = [] →
      let p := s.part
      let m := motorOf a
      ((p.chan c).freshTimer.isSome = true → LeadsTo (.freshnessExpiry c) s
        ((p.setChan c { p.chan c with fresh := false, freshTimer := none }).setLoad c { p.load c with fresh := false })) ∧
      LeadsTo (.inrushBlankExpiry a) s (p.setChan m { p.chan m with inrush := none }) ∧
      (p.out.passTimer.isSome = true → p.out.running.isSome = true → LeadsTo .storagePassTimer s
        { p with out := { p.out with passTimer := some 1000, sweepHeld := false } }) ∧
      (p.out.passTimer.isSome = true → p.out.running = none → p.out.zeroPass = none → p.out.trackingSlot = none →
        p.out.spotQueue = [] → LeadsTo .storagePassTimer s
        { p with out := { p.out with
          passTimer := some 1000, sweepHeld := false
          running := some ⟨p.out.sweepPos, .sweep, false, decide ((p.chan p.out.sweepPos).switching = .on),
            if p.out.lastGroup = some (groupOf p.out.sweepPos) then 1 else 3⟩ } }))

/-- The eighth overcurrent measurement in a row trips the channel: TRIPPED with OVERCURRENT latched, one more trip, and its load
FAULTED; the reading is stored. A short of an ON channel whose load is an ON load of the host: TRIPPED, SHORT latched, one more
trip, the load FAULTED, both notices posted; a channel that is not ON, or has SHORT latched, is left. A short of the motor channel
that drives: the channel is TRIPPED, the motor load FAULTED, and the motion ends with result TRIPPED and its axis in FAULT.
A short of a unit's ON load, which the unit hears of: a light goes dark at once, its fade and courtesy timer stopped; the pump is
FAULTED with its request OFF; the heater is FAULTED, with the minimum off countdown loaded where its demand stood; the pad is
FAULTED but in SERVICE; a frost valve takes the guard into DUMPED with cause VALVE_FAULT, the tank marked DUMPED and the pump's
request OFF, and changes only its load where the guard is DUMPED. That a light keeps its wanted level, and that the guard hears of
its valve once the Load Manager has finished, is the model's choice (logs 59, 6). -/
def Obligations.TripsSwitchOffAndFault : Prop :=
  (∀ (s : State) (m : Measuring) (raw : Int),
      let p := s.part
      let c := m.channel
      let r := p.chan c
      let ma := min 30000 (raw - r.zero).toNat
      p.outbox = [] → p.out.running = some m → p.out.zeroPass = none → m.onThroughout = true → r.switching = .on →
      p.params.tripCurrent c < ma → 7 ≤ r.overCount → r.latched.overcurrent = false → r.inrush = none →
      c.val < 12 → p.params.role c = .general → (p.load c).state ≠ .faulted →
      ∃ t, exec (.measurementComplete raw) s = .next t ∧ t.pending = s.pending ∧
        (t.part.chan c).switching = .tripped ∧ (t.part.chan c).latched.overcurrent = true ∧
        (t.part.chan c).tripCount = min 255 (r.tripCount + 1) ∧ (t.part.chan c).overCount = 8 ∧
        (t.part.chan c).openCount = 0 ∧ (t.part.chan c).last = some ma ∧ (t.part.load c).state = .faulted ∧
        (t.part.load c).measured = some ma ∧ (∀ c', c' ≠ c → t.part.chan c' = p.chan c') ∧
        (∀ l, l ≠ c → t.part.load l = p.load l) ∧ t.part.params = p.params ∧ t.part.bnk = p.bnk ∧ t.part.mot = p.mot) ∧
  (∀ (s : State) (c : LoadId), s.part.outbox = [] →
      let p := s.part
      let r := p.chan c
      (r.switching ≠ .on ∨ r.latched.short = true → LeadsTo (.driverShort c) s p) ∧
      (r.switching = .on → r.latched.short = false → c.val < 12 → p.params.role c = .general → p.out.exercise ≠ some c →
        (p.load c).state = .on →
        let q := (p.setChan c { r with
          switching := .tripped, latched := { r.latched with short := true }
          tripCount := min 255 (r.tripCount + 1), openCount := 0 }).setBus (p.busOf c)
            { p.bus (p.busOf c) with onList := (p.bus (p.busOf c)).onList.filter (· ≠ c) }
        let q := q.setLoad c { p.load c with state := .faulted, motorClass := none }
        let q := { q with out := { q.out with
          running := q.out.running.map fun m : Measuring => if m.channel = c then { m with onThroughout := false } else m } }
        LeadsTo (.driverShort c) s ((q.postLoad c .faulted).postOutputFault c .short))) ∧
  (∀ (s : State) (m : Motion), s.part.outbox = [] → s.part.mot.active = some m → s.part.mot.pend = none →
      let p := s.part
      let c := motorOf m.axis
      m.stage = .drive ∨ m.stage = .backoff → (p.chan c).switching = .on → (p.chan c).latched.short = false →
      (p.load c).state = .on →
      ∃ t, exec (.driverShort c) s = .next t ∧ t.pending = s.pending ∧ (t.part.chan c).switching = .tripped ∧
        (t.part.chan c).latched.short = true ∧ (t.part.load c).state = .faulted ∧ t.part.mot.active = none ∧
        (t.part.axis m.axis).state = .fault ∧ (t.part.axis m.axis).lastResult = some .tripped ∧
        t.part.mot.bridge = .brake ∧ t.part.mot.dead = some 200 ∧ t.part.mot.tick = none ∧ t.part.mot.timeout = none ∧
        (∀ c', c' ≠ c → t.part.chan c' = p.chan c') ∧ (∀ l, l ≠ c → t.part.load l = p.load l) ∧
        t.part.params = p.params ∧ t.part.bnk = p.bnk ∧ t.part.lux = p.lux) ∧
  (∀ (s : State) (c : LoadId), s.part.outbox = [] →
      let p := s.part
      let r := p.chan c
      let tripped := { r with
        switching := .tripped, latched := { r.latched with short := true }, tripCount := min 255 (r.tripCount + 1)
        openCount := 0 }
      let faulted := { p.load c with state := .faulted, motorClass := none }
      let q := ((p.setChan c tripped).setBus (p.busOf c)
        { p.bus (p.busOf c) with onList := (p.bus (p.busOf c)).onList.filter (· ≠ c) }).setLoad c faulted
      let q := { q with out := { q.out with
        running := q.out.running.map fun m : Measuring => if m.channel = c then { m with onThroughout := false } else m } }
      let ends := fun x : Part => LeadsTo (.driverShort c) s ((x.postLoad c .faulted).postOutputFault c .short)
      r.switching = .on → r.latched.short = false → p.out.exercise ≠ some c → (p.load c).state = .on →
      (∀ i : LightId, c.val = 12 + i.val →
        ends ((q.setChan c { tripped with duty := 0 }).setLight i ⟨0, 0, 0, none, none, none⟩)) ∧
      (c.val < 12 → p.params.role c = .pump →
        ends { q with wat := { p.wat with pump := .faulted, request := false } }) ∧
      (c.val < 12 → p.params.role c = .heater →
        let stood := p.clm.heater = .running ∨ p.clm.heater = .waiting
        let x := { q with clm := { p.clm with
          heater := .faulted, minOff := if stood then some 60000 else p.clm.minOff } }
        ends (if p.clm.heater = .faulted then x else x.postHeater)) ∧
      (c.val < 12 → p.params.role c = .battPad →
        let x := { q with chg := { p.chg with pad := .faulted, padRetry := none } }
        (p.mdc.mode = .service → ends q) ∧
        (p.mdc.mode ≠ .service → ends (if p.chg.pad = .faulted then x else x.postPad))) ∧
      (c.val < 12 → p.params.role c = .frostValve →
        (p.clm.guard = .dumped → ends q) ∧
        (p.clm.guard ≠ .dumped → ∃ t, exec (.driverShort c) s = .next t ∧ t.pending = s.pending ∧
          t.part.clm.guard = .dumped ∧ t.part.clm.riskTimer = none ∧ t.part.clm.unknownTimer = 0 ∧
          t.part.wat.dumped = true ∧ t.part.wat.request = false ∧ t.part.chan c = tripped ∧ t.part.load c = faulted ∧
          (p.Hears .frost → ∃ data, t.part.lnk.notices =
            [⟨.frost, 0, n8 p.clm.guard.code ++ n8 GuardState.dumped.code ++ n8 FrostCause.valveFault.code ++ data⟩]) ∧
          t.part.params = p.params ∧ t.part.bnk = p.bnk ∧ t.part.mdc = p.mdc)))

/-- A completion of the zero calibration: the raw reading of an OFF channel that takes part joins its sum; at the end of passes 1 to
7 the pass is counted and the sweep goes on from position 0; at the end of the 8th pass every such channel's offset is its sum over
8, toward zero, clamped to 200 mA either way, and the zero mark is set; in START, with the banks calibrated, START ends. That the
storage resume flag stays set where START ends in ACTIVE is the model's choice (log 26). -/
def Obligations.ZeroCalibrationSumsAndSetsOffsets : Prop :=
  ∀ (s : State) (m : Measuring) (raw : Int) (n : Nat), s.part.outbox = [] → s.part.out.running = some m →
    s.part.out.zeroPass = some n → m.source = .sweep → s.part.out.sweepHeld = false →
    let p := s.part
    let c := m.channel
    let sums := fun x : LoadId =>
      (p.chan x).calSum + if x = c ∧ (p.chan x).switching = .off ∧ (p.chan x).calTakes = true then raw else 0
    (∀ h : c.val + 1 < 20, LeadsTo (.measurementComplete raw) s
      (let q := p.setChan c { p.chan c with calSum := sums c }
      { q with out := { q.out with
        lastGroup := some (groupOf c), sweepPos := ⟨c.val + 1, h⟩
        running := some ⟨⟨c.val + 1, h⟩, .sweep, false, decide ((p.chan ⟨c.val + 1, h⟩).switching = .on),
          if groupOf ⟨c.val + 1, h⟩ = groupOf c then 1 else 3⟩ } })) ∧
    (c = 19 → n + 1 < 8 → p.mdc.mode ≠ .storage → LeadsTo (.measurementComplete raw) s
      (let q := p.setChan c { p.chan c with calSum := sums c }
      { q with out := { q.out with
        zeroPass := some (n + 1), lastGroup := some (groupOf c), sweepPos := 0
        running := some ⟨0, .sweep, false, decide ((p.chan 0).switching = .on), if groupOf 0 = groupOf c then 1 else 3⟩ } })) ∧
    (c = 19 → n + 1 = 8 → ∃ t, exec (.measurementComplete raw) s = .next t ∧ t.pending = s.pending ∧
      t.part.out.zeroPass = none ∧
      (p.mdc.mode ≠ .start ∨ p.mdc.bankDone = false → t.part.mdc = { p.mdc with zeroDone := true }) ∧
      (p.mdc.mode = .start → p.mdc.bankDone = true → StartEnds p t.part) ∧
      ∀ x, (t.part.chan x).calSum = 0 ∧
        ((p.chan x).calTakes = true →
          (t.part.chan x).zero = max (-200) (min 200 ((sums x).tdiv 8)) ∧
          (t.part.chan x).zeroSat = decide ((sums x).tdiv 8 < -200 ∨ 200 < (sums x).tdiv 8)) ∧
        ((p.chan x).calTakes = false →
          (t.part.chan x).zero = (p.chan x).zero ∧ (t.part.chan x).zeroSat = (p.chan x).zeroSat))

/-- The drivers' reports. A backfeed report latches BACKFEED once and leaves the switching state; of an ON channel it changes
nothing (log 27). The withdrawals change no channel state and no line, only the standing of the report, which the model holds (log
10). A group's temperature warning trips every channel of the group with cause HOT, whatever its state, and no other channel; the
loads of the group are FAULTED. The warning is stated for a group without a unit's load and a bridge at rest. -/
def Obligations.DriverReportsLatchAndTrip : Prop :=
  (∀ (s : State) (c : LoadId) (g : GroupId), s.part.outbox = [] →
      let p := s.part
      let r := p.chan c
      (r.switching = .on → LeadsTo (.backfeedReport c) s p) ∧
      (r.switching ≠ .on → r.latched.backfeed = false → LeadsTo (.backfeedReport c) s
        ((p.setChan c { r with backfeedStands := true, latched := { r.latched with backfeed := true } }).postOutputFault c
          .backfeed)) ∧
      (r.switching ≠ .on → r.latched.backfeed = true → LeadsTo (.backfeedReport c) s
        (p.setChan c { r with backfeedStands := true })) ∧
      LeadsTo (.backfeedWithdrawn c) s (p.setChan c { r with backfeedStands := false }) ∧
      LeadsTo (.groupHotWithdrawn g) s { p with out := { p.out with groupHot := p.out.groupHot.set g false } } ∧
      LeadsTo .lineDriverHotWithdrawn s { p with sli := { p.sli with driverHot := false } }) ∧
  (∀ (s : State) (g : GroupId), s.part.outbox = [] → s.part.mot.active = none →
      (∀ c, groupOf c = g → s.part.params.role c = .general ∨ s.part.params.role c = .stepLight ∨
        s.part.params.role c = .motor) →
      ∃ t, exec (.groupHotWarning g) s = .next t ∧ t.pending = s.pending ∧ t.part.out.groupHot[g] = true ∧
        (∀ c, groupOf c = g → (t.part.chan c).latched = { (s.part.chan c).latched with hot := true } ∧
          ((s.part.chan c).latched.hot = false → (t.part.chan c).switching = .tripped ∧
            ((s.part.chan c).switching ≠ .tripped →
              (t.part.chan c).tripCount = min 255 ((s.part.chan c).tripCount + 1) ∧ (t.part.chan c).openCount = 0 ∧
              (t.part.load c).state = .faulted))) ∧
        (∀ c, groupOf c ≠ g → t.part.chan c = s.part.chan c ∧ t.part.load c = s.part.load c) ∧
        t.part.params = s.part.params ∧ t.part.bnk = s.part.bnk ∧ t.part.sli = s.part.sli ∧ t.part.mdc = s.part.mdc)

/-- OUTPUT_STATUS with clear on one channel: each latch whose condition is absent is removed, OVERCURRENT and OPEN with their
counters; a TRIPPED channel left without a cause becomes OFF and its FAULTED load OFF, with FAULT_CLEARED posted. The form of the
list in the reply is the model's choice (log 15). -/
def Obligations.ClearRemovesAbsentCauses : Prop :=
  ∀ (s : State) (c : LoadId), s.part.Ready → c.val < 12 → s.part.params.role c = .general →
    let p := s.part
    let r := p.chan c
    let on := r.switching = .on
    let opened := on ∧ ∃ ma, r.last = some ma ∧ ma < p.openLevel c
    let kept : OutLatches :=
      ⟨r.latched.short && decide on, r.latched.overcurrent && decide on, r.latched.openLoad && p.outCondition c .openLoad,
        r.latched.backfeed && r.backfeedStands, r.latched.hot && p.out.groupHot[groupOf c]⟩
    let cleared := { r with
      latched := kept
      overCount := if r.latched.overcurrent = true ∧ kept.overcurrent = false then 0 else r.overCount
      openCount := if r.latched.openLoad = true ∧ kept.openLoad = false then 0 else r.openCount }
    let q := p.setChan c cleared
    let off := { p.setChan c { cleared with switching := .off } with
      out := { (p.setChan c { cleared with switching := .off }).out with
        running := p.out.running.map fun m : Measuring => if m.channel = c then { m with onThroughout := false } else m } }
    let i : Instr := .outputStatus (BitVec.ofNat 8 c.val) 1#8
    (p.outCondition c .openLoad = true ↔ opened) ∧
    (r.switching ≠ .tripped ∨ kept ≠ OutLatches.none → Replies i s q .ok (listField q.channelPayload [c])) ∧
    (r.switching = .tripped → kept = OutLatches.none → (p.load c).state = .faulted →
      Replies i s ((off.setLoad c { p.load c with state := .off, motorClass := none }).postLoad c .faultCleared) .ok
        (listField off.channelPayload [c]))

/-- SPOT_CHECK: STARTING during the zero calibration, BUSY with four other channels queued; else the entry is queued or joined and
the reply is held until the measurement completes. At the completion on a switch or light channel, ON, OFF or TRIPPED, that latches
nothing and raises no committed draw, the reading is stored, the counters move, the Load Manager has it, the reply carries the
channel, the reading, the switching state, the latched causes and a light's duty, and the sweep goes on unless it is held. The
empty payload of a refusal is the model's choice (log 15). -/
def Obligations.SpotCheckQueuesAndWaits : Prop :=
  ∀ (s : State) (c : LoadId), s.part.Ready →
    let p := s.part
    let i : Instr := .spotCheck (BitVec.ofNat 8 c.val)
    let held := fun q : Part => { q with lnk := { q.lnk with requests := [.spotCheck (BitVec.ofNat 8 c.val)], inFlight := true } }
    (p.out.zeroPass.isSome = true → Replies i s p .starting []) ∧
    (p.out.zeroPass = none → 4 ≤ p.out.spotQueue.length → (∀ e ∈ p.out.spotQueue, e.channel ≠ c) → Replies i s p .busy []) ∧
    (p.out.zeroPass = none → p.out.running.isSome = true → p.out.spotQueue.length < 4 →
      (∀ e ∈ p.out.spotQueue, e.channel ≠ c) →
      LeadsTo i s (held { p with out := { p.out with spotQueue := p.out.spotQueue ++ [⟨c, true, false⟩] } })) ∧
    (p.out.zeroPass = none → p.out.running.isSome = true → ∀ before e after, p.out.spotQueue = before ++ e :: after →
      e.channel = c → (∀ x ∈ before ++ after, x.channel ≠ c) →
      LeadsTo i s (held { p with out := { p.out with spotQueue := before ++ { e with host := true } :: after } })) ∧
    (p.out.zeroPass = none → p.out.running = none → p.out.trackingSlot = none → p.out.spotQueue = [] →
      LeadsTo i s (held { p with out := { p.out with
        running := some ⟨c, .spot, true, decide ((p.chan c).switching = .on),
          if p.out.lastGroup = some (groupOf c) then 1 else 3⟩ } })) ∧
    ∀ (m : Measuring) (raw : Int), p.out.running = some m → m.host = true → m.source = .spot → m.channel = c → c.val < 18 →
      p.out.zeroPass = none → p.out.spotQueue = [] → p.out.trackingSlot = none →
      let u : State := { s with part := { p with lnk := { p.lnk with
        requests := [.spotCheck (BitVec.ofNat 8 c.val)], inFlight := true } } }
      let r := p.chan c
      let ma := min 30000 (raw - r.zero).toNat
      let overs := if r.latched.overcurrent = true then r.overCount else if r.inrush.isSome = true then 0
        else if m.onThroughout = true ∧ p.params.tripCurrent c < ma then min 8 (r.overCount + 1) else r.overCount - 1
      let opened := if m.onThroughout = true then
          (if ma < p.openLevel c then min 8 (r.openCount + 1) else r.openCount - 1)
        else r.openCount
      r.latched.overcurrent = true ∨ overs < 8 → r.latched.openLoad = true ∨ opened < 8 →
      ((p.load c).state = .on → ma ≤ p.committed c) →
      let q := (p.setChan c { r with
          last := some ma, fresh := true, freshTimer := some (if p.mdc.mode = .storage then 2500 else 250)
          overCount := overs, openCount := opened }).setLoad c { p.load c with measured := some ma, fresh := true }
      let q := if p.params.loadWith .pump = some c ∧ q.dryCondition = false then
          { q with wat := { p.wat with dryTimer := 0 } }
        else q
      let switching := match r.switching with
        | .off => 0
        | .on => 1
        | .tripped => 2
      let next := p.out.sweepPos
      let granted : Measuring := ⟨next, .sweep, false, decide ((p.chan next).switching = .on),
        if groupOf next = groupOf c then 1 else 3⟩
      LeadsTo (.measurementComplete raw) u
        ({ q with out := { q.out with
            running := if p.out.sweepHeld = true then none else some granted, lastGroup := some (groupOf c) } }.withReply
          (.spotCheck (BitVec.ofNat 8 c.val)) .ok
          (n8 c.val ++ n16 ma ++ n8 switching ++ n8 r.latched.bits ++ if 12 ≤ c.val then n16 r.duty else []))

/-- EXERCISE: the refusals of R94 in order; the selection of an OFF host's load makes it EXERCISED and switches its channel; NONE
switches the selected channel off and returns its load to OFF. The empty payload of a refusal and the absent fields of a release
are the model's choice (log 15). -/
def Obligations.ExerciseSelectsAndReleases : Prop :=
  ∀ (s : State) (c : LoadId) (x : Byte), s.part.Ready → x.toNat ≤ 1 →
    let p := s.part
    let i : Instr := .exercise (BitVec.ofNat 8 c.val) (some x)
    let payload := fun q : Part => q.exercisePayload
    (p.mdc.mode = .active ∨ p.mdc.mode = .storage → Replies i s p .wrongMode []) ∧
    (p.mdc.mode = .service →
      (p.params.role c = .frostValve ∨ 18 ≤ c.val → Replies i s p .owned []) ∧
      (p.params.role c ≠ .frostValve → c.val < 18 →
        (∀ c', p.out.exercise = some c' → c' ≠ c → Replies i s p .exerciseActive []) ∧
        (p.out.exercise = none ∨ p.out.exercise = some c → (p.chan c).switching = .tripped → Replies i s p .faulted []) ∧
        (p.out.exercise = none ∨ p.out.exercise = some c → (p.chan c).switching ≠ .tripped →
          (p.load c).state = .on ∨ (p.load c).state = .shed → Replies i s p .loadActive [])) ∧
      (c.val < 12 → p.params.role c = .general → p.out.exercise = none → (p.chan c).switching ≠ .tripped →
        (p.load c).state = .off →
        let q := { p with out := { p.out with exercise := some c } }
        let q := (q.setLoad c { p.load c with state := .exercised, motorClass := none }).postLoad c .exercised
        let q := if x = 0#8 then q.orderOn c else q.orderOff c
        Replies i s q .ok (payload q)) ∧
      (p.out.exercise = none → Replies (.exercise 0xFF#8 none) s p .ok [0#8]) ∧
      (c.val < 12 → p.params.role c = .general → p.out.exercise = some c → (p.chan c).switching ≠ .tripped →
        (p.load c).state = .exercised →
        let q := p.orderOff c
        let q := { q with out := { q.out with exercise := none } }
        Replies (.exercise 0xFF#8 none) s
          ((q.setLoad c { p.load c with state := .off, motorClass := none }).postLoad c .released) .ok [0#8]))

/-! ### Sensor lines (R99 to R123) -/

/-- A line that has settled is ON with its level state at BASE; a PULSE line also starts its rate countdown and zeroes its
standstill timer and second count. A line that is not SETTLING is left. The holder of a temperature role settles and its unit judges
the temperature anew: the line's value while its age is below the limit in force, else unknown.
The storage duty cycle: at the end of a window every powered duty line goes to OFF; at the end of the duty countdown it is
reloaded, a window of 500 ms opens, and every duty line that is OFF settles. Other lines stay. That the open timer of a line that
becomes ON is 0 (log 40), and that a value whose age is exactly the limit is unknown (log 41), is the model's choice. -/
def Obligations.LinesSettleAndFollowTheDutyCycle : Prop :=
  (∀ (s : State) (l : LineId), s.part.outbox = [] →
      let p := s.part
      let r := { p.line l with supply := Supply.on, settle := none, level := .base, windowBase := true, openTimer := 0 }
      let r := if p.params.lineMode l = .pulse then { r with rateTimer := some 1000, standstillTimer := 0, secondCount := 0 }
        else r
      let limit := if p.mdc.mode = .storage then 2 * p.params.dutyMs else 10000
      let known : Option Int := match (p.line l).value, (p.line l).age with
        | some (.temp x), some a => if a < limit then some x else none
        | _, _ => none
      ((p.line l).supply ≠ .settling → LeadsTo (.settlingExpiry l) s p) ∧
      ((p.line l).supply = .settling →
        (p.params.lineRole l ∉ [.cabinTemp, .bayTemp, .battTemp] → LeadsTo (.settlingExpiry l) s (p.setLine l r)) ∧
        ∃ t, exec (.settlingExpiry l) s = .next t ∧ t.pending = s.pending ∧ t.part.line l = r ∧
          (∀ l', l' ≠ l → t.part.line l' = p.line l') ∧ t.part.bnk = p.bnk ∧ t.part.params = p.params ∧
          (p.params.lineWith .cabinTemp = some l → t.part.clm.cabin = known) ∧
          (p.params.lineWith .bayTemp = some l → t.part.clm.bay = known) ∧
          (p.params.lineWith .battTemp = some l → t.part.chg.battTemp = known))) ∧
  (∀ s : State, s.part.mdc.mode = .storage →
      let p := s.part
      let powered := fun l => (p.line l).supply = .settling ∨ (p.line l).supply = .on
      (p.sli.windowTimer.isSome = true → ∃ t, exec .storageWindowExpiry s = .next t ∧ t.pending = s.pending ∧
        t.part.sli.windowTimer = none ∧ t.part.sli.dutyTimer = p.sli.dutyTimer ∧
        ∀ l, (p.isDuty l = true ∧ powered l → (t.part.line l).supply = .off ∧ (t.part.line l).settle = none ∧
            (t.part.line l).enabled = true ∧ (t.part.line l).value = (p.line l).value ∧
            (t.part.line l).thr = (p.line l).thr) ∧
          (p.isDuty l = false ∨ ¬ powered l → t.part.line l = p.line l)) ∧
      (p.sli.dutyTimer.isSome = true → ∃ t, exec .storageDutyExpiry s = .next t ∧ t.pending = s.pending ∧
        t.part.sli.windowTimer = some 500 ∧ t.part.sli.dutyTimer = some p.params.dutyMs ∧
        ∀ l, (p.isDuty l = true ∧ (p.line l).supply = .off →
            t.part.line l = { p.line l with supply := .settling, settle := some 20, windowBase := true }) ∧
          (p.isDuty l = false ∨ (p.line l).supply ≠ .off → t.part.line l = p.line l)))

/-- The level states of an ON line: the crossing table of R100, a sync that is recognized, and what each step leaves; a crossing
that the table does not have, or of a line that is not ON, changes nothing. The end of a tier-1 pulse teaches A1 and the end of a
sync on a LEVEL line A2, as BaseWindowsLearnAndCount has their learning (R105). A sync recognized during a frame's slots truncates
the frame (R108). A current already above T1 or T2 as the line becomes ON moves the level state without a pulse or a sync (R99), and
a crossing that shows 2 mA or more, by its threshold or by the mean of the plateau it ends, sets the open timer to 0 (R117). That
crossings come from outside with their dates and means, what a crossing shows of the current, and that the first crossing of a line
become ON says that it stood there before, are the model's choice (logs 3, 29, 30). -/
def Obligations.CrossingsMoveTheLevelState : Prop :=
  ∀ (s : State) (l : LineId) (date mean : Nat), s.part.outbox = [] →
    let p := s.part
    let r := p.line l
    let levelled : Prop := p.params.lineMode l = .level
    let raised := fun threshold : Nat =>
      let shown := max r.current (threshold + 1)
      { r with current := shown, openTimer := if 20 ≤ shown then 0 else r.openTimer, windowBase := false }
    let crossed := fun c x => LeadsTo (.crossingRecognized l c date mean) s (p.setLine l x)
    let left := fun c => LeadsTo (.crossingRecognized l c date mean) s p
    let lowered := fun (x : LineRec) (threshold : Nat) =>
      ({ x with current := min x.current threshold, openTimer := if 20 ≤ mean then 0 else x.openTimer } : LineRec)
    let based := fun x : LineRec =>
      let y := lowered x x.thr.fall1
      { (if y.pulse = some false then y.learnA1 p.params l mean else y) with
        level := .base, pulse := none, sync := none, widthStart := none, overflow := false }
    let synced := { (lowered r r.thr.fall2).learnA2 p.params l mean with level := .tier1, sync := none, frame := some [] }
    (r.supply ≠ .on → ∀ c, left c) ∧
    (r.supply = .on →
      (r.level = .base →
        (p.params.lineMode l ≠ .pulse → crossed .risingT1 { raised r.thr.t1 with
          level := .tier1, pulse := some false, widthStart := if p.params.lineMode l = .width then some date else none }) ∧
        (∀ tier2, crossed (.highAtOn tier2)
          { raised (if tier2 = true then r.thr.t2 else r.thr.t1) with
            level := if tier2 = true then .tier2 else .tier1, pulse := none, sync := none, widthStart := none }) ∧
        ∀ c, c = .risingT2 ∨ c = .fallingT1 ∨ c = .fallingT2 → left c) ∧
      (r.level = .tier1 →
        crossed .risingT2 { raised r.thr.t2 with level := .tier2, pulse := r.pulse.map fun _ => true, sync := some false } ∧
        (r.widthStart = none → crossed .fallingT1 (based r)) ∧
        ∀ c, c = .risingT1 ∨ c = .fallingT2 ∨ (∃ tier2, c = .highAtOn tier2) → left c) ∧
      (r.level = .tier2 →
        (r.sync = some true → levelled → crossed .fallingT2 synced ∧
          (r.widthStart = none → crossed .fallingT1 (based synced))) ∧
        (r.sync ≠ some true ∨ ¬ levelled →
          let passed := { lowered r r.thr.fall2 with level := LevelState.tier1, sync := none }
          crossed .fallingT2 passed ∧ (r.widthStart = none → crossed .fallingT1 (based passed))) ∧
        ∀ c, c = .risingT1 ∨ c = .risingT2 ∨ (∃ tier2, c = .highAtOn tier2) → left c)) ∧
    (r.sync.isSome = true → r.frame = none → LeadsTo (.syncRecognized l) s (p.setLine l { r with sync := some true })) ∧
    (∀ slots, r.sync.isSome = true → r.frame = some slots → LeadsTo (.syncRecognized l) s
      (p.setLine l { r with sync := some true, frame := none, bits := slots.length, complete := false })) ∧
    (r.sync = none → LeadsTo (.syncRecognized l) s p)

/-- The ADAPTIVE method: base windows teach IB by an eighth, tier-1 pulses A1 by a quarter, both toward zero and clamped to their
limits, and the thresholds follow; with the FIXED method nothing is learned. The end of a window: base learning, the window mean
and, on an ON line, the open timer at 0 where the window shows 2 mA or more, and the current-high counter with its latch at 16; an
unpowered line is left. That windows come from outside and the current as last observed is held is the model's choice (logs 3, 29). -/
def Obligations.BaseWindowsLearnAndCount : Prop :=
  (∀ (ps : Pages) (l : LineId) (r : LineRec) (mean : Nat),
      let lo : Int := ps.lineField l 7
      let hi : Int := lo + ps.lineField l 8
      let ib := r.ib + ((mean : Int) - r.ib).tdiv 8
      let limits := fun n : Nat => ((match n with
        | 0 => (60, 80) | 1 => (50, 90) | 2 => (40, 100) | _ => (30, 110)) : Int × Int)
      let lim := limits (ps.lineField l 9)
      let lim2 := limits (ps.lineField l 10)
      let a2 := r.a2 + ((mean : Int) - r.ib - r.a1 - r.a2).tdiv 4
      let a1 := r.a1 + ((mean : Int) - r.ib - r.a1).tdiv 4
      let thr := fun (b x y : Int) => (⟨(b + x.tdiv 2).toNat, (b + x + y.tdiv 2).toNat, (b + x.tdiv 2 - x.tdiv 8).toNat,
        (b + x + y.tdiv 2 - y.tdiv 8).toNat⟩ : Thresholds)
      (ps.adaptive l = false → r.learnBase ps l mean = r ∧ r.learnA1 ps l mean = r ∧ r.learnA2 ps l mean = r) ∧
      (ps.adaptive l = true →
        r.learnBase ps l mean = { r with
          ib := max lo (min hi ib), baseSat := decide (ib < lo ∨ hi < ib), thr := thr (max lo (min hi ib)) r.a1 r.a2 } ∧
        r.learnA1 ps l mean = { r with
          a1 := max lim.1 (min lim.2 a1), a1Sat := decide (a1 < lim.1 ∨ lim.2 < a1)
          thr := thr r.ib (max lim.1 (min lim.2 a1)) r.a2 } ∧
        r.learnA2 ps l mean = { r with
          a2 := max lim2.1 (min lim2.2 a2), a2Sat := decide (a2 < lim2.1 ∨ lim2.2 < a2)
          thr := thr r.ib r.a1 (max lim2.1 (min lim2.2 a2)) })) ∧
  (∀ (s : State) (l : LineId) (mean current : Nat), s.part.outbox = [] →
      let p := s.part
      let r := p.line l
      let after := fun x : LineRec => { x with
        windowMean := mean, current := current, windowBase := decide (x.level = .base)
        openTimer := if x.supply = .on ∧ (20 ≤ current ∨ 20 ≤ mean) then 0 else x.openTimer }
      let learned := if r.supply = .settling ∨ r.windowBase = true then r.learnBase p.params l mean else r
      let count := if 400 < mean then min 16 (r.highCount + 1) else r.highCount - 1
      let q := p.setLine l { after learned with highCount := count }
      (r.supply = .off ∨ r.supply = .fault → LeadsTo (.lineWindowEnd l mean current) s p) ∧
      (r.supply = .settling → LeadsTo (.lineWindowEnd l mean current) s (p.setLine l (after learned))) ∧
      (r.supply = .on → count < 16 → LeadsTo (.lineWindowEnd l mean current) s q) ∧
      (r.supply = .on → 16 ≤ count → LeadsTo (.lineWindowEnd l mean current) s (q.latchLine l .currentHigh)))

/-- The slots of a LEVEL frame: each sample against falling T1; at the tenth the frame is judged by parity, status and level, and
a valid level reaches the tank, FRESH or GREY, published at once while parked and as the window's mean otherwise; LOW of FRESH and
FULL of GREY are judged on it with 3 % of hysteresis, and DRY on FRESH. That slots come from outside (log 3), that a slot's sample
is the line's current as last observed, by which the open timer goes (log 29), and that a fault frame leaves a tank without a
published level as it is (log 50), is the model's choice. -/
def Obligations.LevelFrameIsJudgedAtItsTenthSlot : Prop :=
  ∀ (s : State) (l : LineId) (current : Nat) (slots : List Bool), s.part.outbox = [] →
    (s.part.line l).frame = some slots →
    let p := s.part
    let openTimer := if (p.line l).supply = .on ∧ 20 ≤ current then 0 else (p.line l).openTimer
    let all := slots ++ [decide ((p.line l).thr.fall1 < current)]
    let level := (all.take 7).foldr (fun (b : Bool) (n : Nat) => b.toNat + 2 * n) 0
    let status := ((all.drop 7).take 2).foldr (fun (b : Bool) (n : Nat) => b.toNat + 2 * n) 0
    let odd : Prop := all.count true % 2 = 1
    let bad : Prop := 2 ≤ status ∨ level = 127
    let fresh := p.tank .fresh
    let grey := p.tank .grey
    (all.length < 10 → LeadsTo (.levelSlotSample l current) s
      (p.setLine l { p.line l with frame := some all, current := current, openTimer := openTimer })) ∧
    (all.length = 10 → odd → LeadsTo (.levelSlotSample l current) s
      ((p.setLine l { p.line l with
        frame := none, current := current, openTimer := openTimer, bits := 10, complete := true }).latchLine l .invalid)) ∧
    (all.length = 10 → ¬ odd → bad → ∃ t, exec (.levelSlotSample l current) s = .next t ∧ t.pending = s.pending ∧
      (t.part.line l).latched.senderFault = true ∧ (t.part.line l).value = (p.line l).value ∧
      (t.part.line l).frame = none ∧ (t.part.line l).bits = 10 ∧ (t.part.line l).complete = true ∧
      (p.params.lineRole l = .freshLevel → t.part.wat.fresh.senderFault = true ∧ t.part.wat.fresh.level = fresh.level ∧
        (fresh.levelState = .current → t.part.wat.fresh.levelState = .held)) ∧
      (p.params.lineRole l = .greyLevel → t.part.wat.grey = { grey with
        senderFault := true, levelState := if grey.levelState = .current then .held else grey.levelState })) ∧
    (all.length = 10 → ¬ odd → ¬ bad → ∃ t, exec (.levelSlotSample l current) s = .next t ∧ t.pending = s.pending ∧
      (t.part.line l).value = some (.level (min 100 level) (if status = 1 then .drift else .ok)) ∧
      (t.part.line l).age = some 0 ∧ (t.part.line l).nodataTimer = 0 ∧ (t.part.line l).nodata = false ∧
      (100 < level → (t.part.line l).latched.outOfRange = true) ∧
      (∀ l', l' ≠ l → t.part.line l' = p.line l') ∧ t.part.bnk = p.bnk ∧ t.part.params = p.params ∧
      (∀ c, t.part.chan c = p.chan c) ∧ (∀ k, t.part.load k = p.load k) ∧
      (p.params.lineRole l = .freshLevel →
        let window := if p.parked then fresh.window
          else if 8 < (fresh.window ++ [min 100 level]).length then (fresh.window ++ [min 100 level]).drop 1
          else fresh.window ++ [min 100 level]
        let published := if p.parked then min 100 level else window.sum / window.length
        t.part.wat.fresh.window = window ∧ t.part.wat.fresh.level = some published ∧
        t.part.wat.fresh.levelState = .current ∧ t.part.wat.fresh.senderFault = false ∧
        (published ≤ p.params.lowThreshold → t.part.wat.fresh.alarm = true) ∧
        (p.params.lowThreshold + 3 ≤ published → t.part.wat.fresh.alarm = false ∧ t.part.wat.dry = false)) ∧
      (p.params.lineRole l = .greyLevel →
        let window := if p.parked then grey.window
          else if 8 < (grey.window ++ [min 100 level]).length then (grey.window ++ [min 100 level]).drop 1
          else grey.window ++ [min 100 level]
        let published := if p.parked then min 100 level else window.sum / window.length
        t.part.wat.grey = {
          levelState := .current, level := some published, status := if status = 1 then .drift else .ok, window := window
          alarm := if p.params.fullThreshold ≤ published then true
            else if published + 3 ≤ p.params.fullThreshold then false else grey.alarm
          senderFault := false } ∧
        t.part.wat.fresh = fresh ∧ t.part.wat.dry = p.wat.dry))

/-- The timed data of the other lines: the rise from BASE on a WIDTH line starts a width at its date, and the return to BASE ends
it, teaching A1 where it ends a tier-1 pulse; a completed width is its count less 160 half degrees, clamped at 80 and 410; a width
that runs 2,555 µs ends without a value; a pulse is counted, a rate formed, standstill and no data marked. For lines without a
role; LinesReachTheirRoleHolders has the roles. A crossing that shows 2 mA or more sets the open timer to 0 (R117). That crossings
come from outside with their dates and means (log 3), what a crossing shows of the current as last observed (log 29), and that a
timer at its limit or beyond it keeps its reading (log 38), is the model's choice. -/
def Obligations.WidthsPulsesAndSilence : Prop :=
  ∀ (s : State) (l : LineId) (date mean : Nat), s.part.outbox = [] → s.part.params.lineRole l = .none →
    let p := s.part
    let r := p.line l
    let shown := max r.current (r.thr.t1 + 1)
    (r.supply = .on → p.params.lineMode l = .width → r.level = .base →
      LeadsTo (.crossingRecognized l .risingT1 date mean) s (p.setLine l { r with
        current := shown, openTimer := if 20 ≤ shown then 0 else r.openTimer, windowBase := false
        level := .tier1, pulse := some false
        widthStart := some date })) ∧
    (∀ start, r.supply = .on → r.level = .tier1 ∨ r.level = .tier2 ∧ p.params.lineMode l = .width →
      r.widthStart = some start →
      let below := if r.level = .tier2 then min r.current r.thr.fall2 else r.current
      let fallen := { r with
        current := min below r.thr.fall1, openTimer := if 20 ≤ mean then 0 else r.openTimer }
      let taught := if r.pulse = some false then fallen.learnA1 p.params l mean else fallen
      let count := min 511 ((date - start) / 5)
      let kept := max 80 (min 410 count)
      let q := p.setLine l { taught with
        level := .base, pulse := none, sync := none, widthStart := none, overflow := false, width := some count
        value := some (.temp ((kept : Int) - 160)), age := some 0, nodataTimer := 0, nodata := false
        clampedValue := decide (kept ≠ count) }
      LeadsTo (.crossingRecognized l .fallingT1 date mean) s (if kept = count then q else q.latchLine l .outOfRange)) ∧
    (r.widthStart.isSome = true → LeadsTo (.pulseOverflow l) s
      ((p.setLine l { r with widthStart := none, overflow := true }).latchLine l .pulseOverflow)) ∧
    (r.supply = .on → p.params.lineMode l = .pulse → r.level = .base →
      LeadsTo (.crossingRecognized l .risingT1 date mean) s (p.setLine l { r with
        current := shown, openTimer := if 20 ≤ shown then 0 else r.openTimer, windowBase := false
        level := .tier1, pulse := some false
        widthStart := none, pulseTotal := r.pulseTotal + 1, secondCount := r.secondCount + 1, standstillTimer := 0
        standstill := false })) ∧
    (r.rateTimer.isSome = true → LeadsTo (.rateCountdownExpiry l) s (p.setLine l { r with
      value := some (.rate r.secondCount), age := some 0, secondCount := 0, rateTimer := some 1000
      clampedValue := false })) ∧
    (p.params.lineMode l = .pulse → r.supply = .on → LeadsTo (.standstillReached l) s
      (p.setLine l { r with standstill := true, standstillTimer := max r.standstillTimer p.params.standstillMs })) ∧
    (r.enabled = true → p.params.lineMode l ≠ .pulse → p.mdc.mode ≠ .storage → LeadsTo (.nodataReached l) s
      (p.setLine l { r with nodata := true, nodataTimer := max r.nodataTimer 1000 }))

/-- The supply faults of a line: a short latches and, on a powered line, takes the supply to FAULT and abandons what is in
progress, a short to ground with the open timer of an ON line at 0; an open wire only latches; the driver's heat latches all six
lines and takes every powered one to FAULT. A latch posts LINE_FAULT once: a cause already latched changes nothing. What the
operands of the two shorts mean, that the current last observed judges OPEN, and that the open timer then stands at its limit of
20 ms, is the model's choice (logs 28, 29, 38). -/
def Obligations.LineFaultsLatchAndUnpower : Prop :=
  (∀ (s : State) (l : LineId) (current : Nat) (over' : Int), s.part.outbox = [] →
      s.part.params.lineRole l ∉ [.freshLevel, .greyLevel, .cabinTemp, .bayTemp, .battTemp] →
      let p := s.part
      let r := p.line l
      let powered : Prop := r.supply = .settling ∨ r.supply = .on
      let dark := fun x : LineRec => { x with
        supply := .fault, settle := none, rateTimer := none, pulse := none, sync := none, frame := none, widthStart := none
        overflow := false }
      (powered → 600 < current →
        LeadsTo (.lineShortGnd l current) s ((p.setLine l (dark { r with
          current := current, openTimer := if r.supply = .on then 0 else r.openTimer })).latchLine l .shortGnd)) ∧
      (¬ powered ∨ current ≤ 600 → LeadsTo (.lineShortGnd l current) s p) ∧
      (powered → 500 < over' →
        LeadsTo (.lineShortBat l over') s ((p.setLine l (dark { r with overRail := over' })).latchLine l .shortBat)) ∧
      (¬ powered → 500 < over' →
        LeadsTo (.lineShortBat l over') s ((p.setLine l { r with overRail := over' }).latchLine l .shortBat)) ∧
      (over' ≤ 500 → LeadsTo (.lineShortBat l over') s (p.setLine l { r with overRail := over' })) ∧
      (r.supply = .on → r.current < 20 →
        LeadsTo (.lineOpen l) s ((p.setLine l { r with openTimer := 20 }).latchLine l .openWire)) ∧
      ((∀ l', p.params.lineRole l' ∉ [.freshLevel, .greyLevel, .cabinTemp, .bayTemp, .battTemp]) →
        ∃ t, exec .lineDriverHot s = .next t ∧ t.pending = s.pending ∧ t.part.sli.driverHot = true ∧
          (∀ l', t.part.line l' =
            let x := { p.line l' with latched := { (p.line l').latched with hot := true } }
            if x.supply = .settling ∨ x.supply = .on then dark x else x) ∧
          (∀ c, t.part.chan c = p.chan c) ∧ (∀ k, t.part.load k = p.load k) ∧ t.part.bnk = p.bnk ∧ t.part.params = p.params)) ∧
  (∀ (p : Part) (l : LineId) (cause : LineCause),
      ((p.line l).latched.has cause = true → p.latchLine l cause = p) ∧
      ((p.line l).latched.has cause = false →
        p.latchLine l cause =
          (p.setLine l { p.line l with latched := (p.line l).latched.add cause }).post .lineFault l.val
            ([BitVec.ofNat 8 cause.code, BitVec.ofNat 8 ((p.line l).latched.add cause).bits,
              BitVec.ofNat 8 (((p.line l).latched.add cause).bits / 256), BitVec.ofNat 8 (p.line l).supply.code,
              BitVec.ofNat 8 (p.params.lineRole l).code])))

/-- What a datum, a fault and a silence of a line publish to the unit that holds its role. A tank: a short to ground and a NODATA
newly set hold a CURRENT level, which stays. FLOW: a pulse adds its volume, in mL with the remainder in µL, a rate gives mL per
minute, and standstill is only marked. CABIN_TEMP: a width becomes the cabin temperature and restarts its countdown; a short makes
it unknown; at a NODATA it is judged by its age. BAY_TEMP: the same, and the guard judges it: OFF, DUMPED and a warm SAFE stay, a
WATCH below the dump threshold becomes RISK, and an unknown bay takes SAFE to WATCH. BATT_TEMP: a width and a short likewise, and
with LITHIUM the cold inhibit follows, with LEAD there is none. The model's choice is that the dates and means of crossings come
from outside (log 3), that a short carries its current (log 28), that the current is kept as last observed and what a crossing
shows of it (log 29), a no-data timer beyond its limit (log 38), and that a value of exactly 10,000 ms is unknown (log 41). -/
def Obligations.LinesReachTheirRoleHolders : Prop :=
  ∀ (s : State) (l : LineId) (date mean current : Nat), s.part.outbox = [] → s.part.mdc.mode ≠ .storage →
    let p := s.part
    let r := p.line l
    let fallen := { r with
      current := min r.current r.thr.fall1, openTimer := if 20 ≤ mean then 0 else r.openTimer }
    let taught := if r.pulse = some false then fallen.learnA1 p.params l mean else fallen
    let powered := r.supply = .settling ∨ r.supply = .on
    let shorted := (p.setLine l { r with
      current := current, openTimer := if r.supply = .on then 0 else r.openTimer
      supply := .fault, settle := none, rateTimer := none, pulse := none, sync := none, frame := none
      widthStart := none, overflow := false }).latchLine l .shortGnd
    let silent := p.setLine l { r with nodata := true, nodataTimer := max r.nodataTimer 1000 }
    let fallsSilent := r.enabled = true ∧ p.params.lineMode l ≠ .pulse ∧ r.nodata = false
    let stale := ∀ a, r.age = some a → 10000 ≤ a
    let shown := max r.current (r.thr.t1 + 1)
    let raised := { r with
      current := shown, openTimer := if 20 ≤ shown then 0 else r.openTimer, windowBase := false, level := LevelState.tier1
      pulse := some false, widthStart := none, pulseTotal := r.pulseTotal + 1, secondCount := r.secondCount + 1
      standstillTimer := 0, standstill := false }
    let micro := p.wat.remainder + p.params.volumePerPulse
    let measured := fun start : Nat =>
      let count := min 511 ((date - start) / 5)
      let kept := max 80 (min 410 count)
      let q := p.setLine l { taught with
        level := .base, pulse := none, sync := none, widthStart := none, overflow := false, width := some count
        value := some (.temp ((kept : Int) - 160)), age := some 0, nodataTimer := 0, nodata := false
        clampedValue := decide (kept ≠ count) }
      (if kept = count then q else q.latchLine l .outOfRange, (kept : Int) - 160)
    let ends := fun start : Nat => r.supply = .on ∧ r.level = .tier1 ∧ r.widthStart = some start
    let fall := Instr.crossingRecognized l .fallingT1 date mean
    let warm := fun (q : Part) (x : Clm) => { q with clm := x }
    let padRests := p.chg.pad = .idle ∨ p.chg.pad = .noPad ∨ p.chg.pad = .faulted
    (∀ t, p.params.lineRole l = (match t with | .fresh => LineRole.freshLevel | .grey => .greyLevel) →
      let held := fun q : Part => q.setTank t { p.tank t with
        levelState := if (p.tank t).levelState = .current then .held else (p.tank t).levelState }
      (powered → 600 < current → LeadsTo (.lineShortGnd l current) s (held shorted)) ∧
      (fallsSilent → LeadsTo (.nodataReached l) s (held silent))) ∧
    (p.params.lineRole l = .flow → p.params.lineMode l = .pulse →
      (r.supply = .on → r.level = .base → LeadsTo (.crossingRecognized l .risingT1 date mean) s
        { p.setLine l raised with wat := { p.wat with
          total := p.wat.total + BitVec.ofNat 32 (micro / 1000), remainder := micro % 1000 } }) ∧
      (r.rateTimer.isSome = true → LeadsTo (.rateCountdownExpiry l) s
        { p.setLine l { r with
            value := some (.rate r.secondCount), age := some 0, secondCount := 0, rateTimer := some 1000
            clampedValue := false } with
          wat := { p.wat with rate := some (r.secondCount * p.params.volumePerPulse * 60 / 1000) } }) ∧
      (r.supply = .on → LeadsTo (.standstillReached l) s (p.setLine l { r with
        standstill := true, standstillTimer := max r.standstillTimer p.params.standstillMs }))) ∧
    (p.params.lineWith .cabinTemp = some l →
      (∀ start, ends start → LeadsTo fall s
        (warm (measured start).1 { p.clm with cabin := some (measured start).2, cabinTimer := some 10000 })) ∧
      (powered → 600 < current → LeadsTo (.lineShortGnd l current) s (warm shorted { p.clm with cabin := none })) ∧
      (fallsSilent → stale → LeadsTo (.nodataReached l) s (warm silent { p.clm with cabin := none }))) ∧
    (p.params.lineWith .bayTemp = some l →
      (∀ start, ends start →
        let v := (measured start).2
        let known := { p.clm with bay := some v, bayTimer := some 10000, unknownTimer := 0 }
        (p.clm.guard = .off ∨ p.clm.guard = .dumped ∨ p.clm.guard = .safe ∧ p.params.warnThreshold ≤ v →
          LeadsTo fall s (warm (measured start).1 known)) ∧
        (p.mdc.mode ≠ .start → p.clm.guard = .watch → v < p.params.dumpThreshold →
          p.params.dumpThreshold ≤ p.params.warnThreshold →
          ∃ t, exec fall s = .next t ∧ t.pending = s.pending ∧ t.part.clm.guard = .risk ∧ t.part.clm.hold = false ∧
            t.part.clm.riskTimer = some p.params.riskMs ∧ t.part.clm.heatWanted = true ∧ t.part.clm.bay = some v ∧
            t.part.params = p.params ∧ t.part.bnk = p.bnk ∧ t.part.mdc = p.mdc)) ∧
      (powered → 600 < current →
        (p.clm.guard = .off ∨ p.clm.guard = .dumped →
          LeadsTo (.lineShortGnd l current) s (warm shorted { p.clm with bay := none })) ∧
        (p.mdc.mode ≠ .start → p.clm.guard = .safe → p.clm.unknownTimer < 60000 →
          ∃ t, exec (.lineShortGnd l current) s = .next t ∧ t.pending = s.pending ∧ t.part.clm.guard = .watch ∧
            t.part.clm.bay = none ∧ t.part.params = p.params ∧ t.part.bnk = p.bnk ∧ t.part.mdc = p.mdc)) ∧
      (fallsSilent → stale → p.clm.guard = .off ∨ p.clm.guard = .dumped →
        LeadsTo (.nodataReached l) s (warm silent { p.clm with bay := none }))) ∧
    (p.params.lineWith .battTemp = some l →
      (p.params.chemistry = .lead → p.chg.coldInhibit = none → padRests →
        (∀ start, ends start → LeadsTo fall s
          { (measured start).1 with chg := { p.chg with
            battTemp := some (measured start).2, battTimer := some 10000 } }) ∧
        (powered → 600 < current → LeadsTo (.lineShortGnd l current) s
          { shorted with chg := { p.chg with battTemp := none } })) ∧
      (p.params.chemistry = .lithium →
        (∀ start, ends start →
          let v := (measured start).2
          ∃ t, exec fall s = .next t ∧ t.pending = s.pending ∧ t.part.chg.battTemp = some v ∧
            t.part.chg.battTimer = some 10000 ∧
            (t.part.chg.coldInhibit = if v < p.params.chargeMinimum + (if p.chg.coldInhibit.isSome = true then 6 else 0)
              then some .cold else none) ∧
            t.part.params = p.params ∧ t.part.bnk = p.bnk ∧ t.part.mdc = p.mdc) ∧
        (powered → 600 < current →
          ∃ t, exec (.lineShortGnd l current) s = .next t ∧ t.pending = s.pending ∧ t.part.chg.battTemp = none ∧
            t.part.chg.coldInhibit = some .unknown ∧ (p.chg.coldInhibit = none → t.part.chg.shoreEnable = false ∧
              t.part.chg.solarEnable = false ∧ t.part.chg.splitClosed = false) ∧
            t.part.params = p.params ∧ t.part.bnk = p.bnk ∧ t.part.mdc = p.mdc)))

/-- LINE_CONTROL outside START for a line without a role: ON of a disabled line enables it with initial learned values and, like
ON of an enabled line in FAULT, settles it, or leaves it OFF where STORAGE holds it; ON of any other line changes nothing but the
stored enable; a latched supply fault refuses ON with FAULTED; OFF disables and clears, keeping the latches. LINE_GET with clear,
in every mode, removes the latches whose condition in the table of R119 is absent, OPEN with its timer and CURRENT_HIGH with its
counter. The empty payload of a refusal, the current, the over-rail voltage and the mean as last observed, the list count in a reply
for one line, and the learned values that an ON of a powered or held line keeps against R103 are the model's choice (logs 15, 28, 29,
56, 74). -/
def Obligations.LineControlAndClear : Prop :=
  ∀ (s : State) (l : LineId), s.part.Ready →
    let p := s.part
    let r := p.line l
    let n := BitVec.ofNat 8 l.val
    let stored := fun w : Word => { p with
      params := p.params.set 5 (11 * l.val) w
      lnk := { p.lnk with unsaved := p.lnk.unsaved || p.params.get 5 (11 * l.val) != w } }
    let done := fun i q => Replies i s q .ok
      ([n] ++ [BitVec.ofNat 8 (q.line l).enabled.toNat, BitVec.ofNat 8 (q.line l).supply.code] ++ n16 (q.line l).latched.bits)
    let faulted : Prop := r.latched.shortGnd = true ∨ r.latched.shortBat = true ∨ r.latched.hot = true
    let begun := fun x : LineRec =>
      if p.mdc.mode = .storage then { x with
        supply := .off, settle := none, rateTimer := none, pulse := none, sync := none, frame := none, widthStart := none
        overflow := false }
      else { x with supply := .settling, settle := some 20, windowBase := true }
    (p.mdc.mode ≠ .start → p.params.lineRole l = .none →
      (faulted → Replies (.lineControl n 0) s p .faulted []) ∧
      (¬ faulted → r.enabled = true → r.supply ≠ .fault → done (.lineControl n 0) (stored 1)) ∧
      (¬ faulted → r.enabled = false → done (.lineControl n 0)
        ((stored 1).setLine l (begun (({ r with enabled := true, nodataTimer := 0 } : LineRec).initial (stored 1).params l)))) ∧
      (¬ faulted → r.enabled = true → r.supply = .fault → done (.lineControl n 0)
        ((stored 1).setLine l (begun (r.initial (stored 1).params l)))) ∧
      done (.lineControl n 1) ((stored 0).setLine l { r with
        enabled := false, supply := .off, settle := none, rateTimer := none, pulse := none, sync := none, frame := none
        widthStart := none, overflow := false, value := none, age := none, width := none, bits := 0, complete := false
        pulseTotal := 0, secondCount := 0, nodata := false, standstill := false, nodataTimer := 0, standstillTimer := 0
        openTimer := 0, highCount := 0, clampedValue := false })) ∧
    let present : LineCause → Bool := fun
      | .shortGnd => (r.supply == .settling || r.supply == .on) && decide (600 < r.current)
      | .shortBat => decide (500 < r.overRail)
      | .openWire => r.supply == .on && decide (r.current < 20)
      | .currentHigh => r.supply == .on && decide (400 < r.windowMean)
      | .hot => p.sli.driverHot
      | .invalid => false
      | .pulseOverflow => r.overflow
      | .outOfRange => r.clampedValue
      | .senderFault => r.lastFault
    ∃ q, Replies (.lineGet n 1) s q .ok (listField q.linePayload [l]) ∧
      (∀ c, (q.line l).latched.has c = (r.latched.has c && present c)) ∧
      q.line l = { r with
        latched := (q.line l).latched
        openTimer := if r.latched.openWire = true ∧ present .openWire = false then 0 else r.openTimer
        highCount := if r.latched.currentHigh = true ∧ present .currentHigh = false then 0 else r.highCount } ∧
      (∀ l', l' ≠ l → q.line l' = p.line l') ∧ { q with sli := p.sli } = p ∧ { q.sli with lines := p.sli.lines } = p.sli

/-! ### Water (R125 to R136) -/

/-- WATER: ON is checked in the order of R134; a RUNNING pump is left as it is, and any other is demanded, after DRY has been
cleared where the level is unknown, and the answer gives the state and the status; OFF drops a standing demand and zeroes the dry
timer. A pump that runs dry for the dry time: DRY is set, the request is OFF, the demand is dropped, the timer is 0 and the TANK
notice is posted; with the dry condition failed nothing happens. That a refused WATER carries its payload and leaves the pump
state is the model's choice (logs 15, 40). -/
def Obligations.WaterRunsThePumpWhileWet : Prop :=
  (∀ (s : State) (l : LoadId), s.part.Ready → s.part.mdc.mode ≠ .start →
      let p := s.part
      let w := p.wat
      let known := w.fresh.levelState = .current
      let off := { p with wat := { w with request := false, dryTimer := 0 } }
      let only := fun st => Replies (.water 0) s p st p.waterPayload
      let asked := fun (q : Part) (ans : Status) (req : Bool) (st : PumpState) =>
        { q with wat := { q.wat with request := req, pump := st, lastAnswer := some ans } }
      let answered := fun (q : Part) (st : Status) => Replies (.water 0) s q st q.waterPayload
      (p.params.loadWith .pump = none → only .range) ∧
      (p.params.loadWith .pump = some l →
        (w.dumped = true → only .interlock) ∧ (w.dumped = false → w.dry = true → known → only .dry) ∧
        (w.dumped = false → (w.dry = true → ¬ known) →
          let wet := if w.dry = true then ({ p with wat := { w with dry := false } }).postTank .fresh .notDry else p
          (w.pump = .running → only .ok) ∧
          (w.pump ≠ .running → p.modeRefusal l (p.effClass l) = none →
            ((p.load l).state = .on → answered (asked wet .ok true .running) .ok) ∧
            ((p.load l).state = .shed → answered (asked wet .shed true .waiting) .shed) ∧
            ((p.load l).state = .faulted → answered (asked wet .faulted false w.pump) .faulted) ∧
            (p.Admits l → l.val < 12 → (p.chan l).switching ≠ .tripped →
              answered (asked (wet.admitLoad l none) .ok true .running) .ok)) ∧
          (w.pump ≠ .running → ∀ st, p.modeRefusal l (p.effClass l) = some st →
            answered (asked wet st false w.pump) st))) ∧
      (w.pump ≠ .running → w.pump ≠ .waiting → Replies (.water 1) s off .ok off.waterPayload) ∧
      (p.params.loadWith .pump = some l → w.pump = .running ∨ w.pump = .waiting →
        let q := ({ off with wat := { off.wat with pump := .off } }).wantedOff l
        Replies (.water 1) s q .ok q.waterPayload)) ∧
  (∀ (s : State) (l : LoadId), s.part.outbox = [] → s.part.params.loadWith .pump = some l →
      let p := s.part
      (p.dryCondition = false → LeadsTo .dryTimeout s p) ∧
      (p.dryCondition = true → p.wat.pump = .running →
        LeadsTo .dryTimeout s ((({ p with wat := { p.wat with
          dry := true, request := false, pump := .off, dryTimer := 0 } }).wantedOff l).postTank .fresh .dry)) ∧
      (p.dryCondition = true ↔ (p.load l).state = .on ∧ (∃ x, p.params.lineWith .flow = some x ∧
        (p.line x).supply = .on ∧ (p.line x).standstill = true) ∧ (p.load l).fresh = true ∧
        ∃ ma, (p.load l).measured = some ma ∧ p.params.runningThreshold ≤ ma))

/-! ### The thermostat and the frost guard (R142 to R156) -/

/-- The thermostat with the guard in SAFE and the heater on a switch output: the call by setpoint and hysteresis, and the
judgement of the demand at an evaluation and at each minimum countdown, with the holds of the minimum times. -/
def Obligations.ThermostatJudgesTheHeater : Prop :=
  ∀ (s : State) (l : LoadId), s.part.outbox = [] → s.part.mdc.mode ≠ .start → s.part.clm.guard = .safe →
    s.part.params.loadWith .heater = some l → l.val < 12 →
    let p := s.part
    let h : Int := (p.params.thermoHysteresis / 2 : Nat)
    let rule := fun setpoint : Int => match p.clm.cabin with
      | none => false
      | some t => if t < setpoint - h then true else if setpoint + h ≤ t then false else p.clm.call
    let call := match p.params.thermoMode with
      | .off => false
      | .comfort => rule p.params.setpoint
      | .frostHold => rule 10
    let standing := p.clm.heater = .running ∨ p.clm.heater = .waiting
    let free := p.Admits l ∧ (p.chan l).switching ≠ .tripped
    let judged := fun (q : Part) (heat : Bool) (held : Held) => { q with clm := { q.clm with heatWanted := heat, held := held } }
    let dropped := fun q : Part =>
      let r := (judged q false .none).wantedOff l
      ({ r with clm := { r.clm with minOff := some 60000, heater := .idle } }).postHeater
    let placed := fun q : Part =>
      let r := (judged q true .none).admitLoad l none
      ({ r with clm := { r.clm with minOn := some 120000, heater := .running } }).postHeater
    let evaluated := { p with clm := { p.clm with evalTimer := some 10000, call := call, hold := false } }
    let wanted := p.clm.call || p.clm.hold
    (p.clm.evalTimer.isSome = true →
      (call = true → standing → LeadsTo .thermostatEvaluation s (judged evaluated true .none)) ∧
      (call = false → standing → p.clm.minOn.isSome = true →
        LeadsTo .thermostatEvaluation s (judged evaluated false .heldOn)) ∧
      (call = false → standing → p.clm.minOn = none → LeadsTo .thermostatEvaluation s (dropped evaluated)) ∧
      (call = false → p.clm.heater = .idle → LeadsTo .thermostatEvaluation s (judged evaluated false .none)) ∧
      (call = true → p.clm.heater = .idle → p.clm.minOff.isSome = true →
        LeadsTo .thermostatEvaluation s (judged evaluated true .heldOff)) ∧
      (call = true → p.clm.heater = .idle → p.clm.minOff = none → free →
        LeadsTo .thermostatEvaluation s (placed evaluated))) ∧
    (p.clm.minOn.isSome = true → standing →
      let q := { p with clm := { p.clm with minOn := none } }
      (wanted = true → LeadsTo .minOnExpiry s (judged q true .none)) ∧ (wanted = false → LeadsTo .minOnExpiry s (dropped q))) ∧
    (p.clm.minOff.isSome = true → p.clm.heater = .idle →
      let q := { p with clm := { p.clm with minOff := none } }
      (wanted = false → LeadsTo .minOffExpiry s (judged q false .none)) ∧
      (wanted = true → free → LeadsTo .minOffExpiry s (placed q)))

/-- HEAT_SET: the mode and the setpoint, clamped to 10 to 60 half degrees, go into their parameters, SETTINGS_UNSAVED is set if
either changed, and the call is formed anew, under a guard that does not act. The heater is judged at once: a standing demand that
is no longer wanted ends, or is held by the minimum on time; a wanted heat is demanded, or held by the minimum off time; a denied
heater that is not wanted is idle; a faulted one is left. -/
def Obligations.HeatSetStoresAndForms : Prop :=
  ∀ (s : State) (x : Byte) (v : Word), s.part.Ready → s.part.mdc.mode ≠ .start → x.toNat ≤ 2 →
    s.part.clm.guard ≠ .watch → s.part.clm.guard ≠ .risk →
    8 ≤ s.part.params.length → 2 ≤ (s.part.params.getD 7 []).length →
    let p := s.part
    let setpoint : Int := max 10 (min 60 v.toInt)
    let mode := BitVec.ofNat 16 x.toNat
    let word := BitVec.ofInt 16 setpoint
    let h : Int := (p.params.thermoHysteresis / 2 : Nat)
    let rule := fun setpoint : Int => match p.clm.cabin with
      | none => false
      | some t => if t < setpoint - h then true else if setpoint + h ≤ t then false else p.clm.call
    let call := if x = 1#8 then rule setpoint else if x = 2#8 then rule 10 else false
    let q := { p with
      params := (p.params.set 7 0 mode).set 7 1 word
      lnk := { p.lnk with unsaved := p.lnk.unsaved || p.params.get 7 0 != mode || p.params.get 7 1 != word }
      clm := { p.clm with call := call, hold := false } }
    let judged := fun (heat : Bool) (held : Held) => { q with clm := { q.clm with heatWanted := heat, held := held } }
    let answers := fun q : Part => Replies (.heatSet x v) s q .ok q.heatPayload
    let standing := p.clm.heater = .running ∨ p.clm.heater = .waiting
    (p.params.loadWith .heater = none → answers (judged call .none)) ∧
    (∀ l, p.params.loadWith .heater = some l → l.val < 12 →
      (call = true → standing ∨ p.clm.heater = .faulted → answers (judged true .none)) ∧
      (call = false → p.clm.heater = .idle ∨ p.clm.heater = .faulted → answers (judged false .none)) ∧
      (∀ code, call = false → p.clm.heater = .denied code →
        answers ({ judged false .none with clm := { (judged false .none).clm with heater := .idle } }).postHeater) ∧
      (call = false → standing → p.clm.minOn.isSome = true → answers (judged false .heldOn)) ∧
      (call = false → standing → p.clm.minOn = none →
        let r := (judged false .none).wantedOff l
        answers ({ r with clm := { r.clm with minOff := some 60000, heater := .idle } }).postHeater) ∧
      (call = true → p.clm.heater = .idle → p.clm.minOff.isSome = true → answers (judged true .heldOff)) ∧
      (call = true → p.clm.heater = .idle → p.clm.minOff = none → p.Admits l → (p.chan l).switching ≠ .tripped →
        let r := (judged true .none).admitLoad l none
        answers ({ r with clm := { r.clm with minOn := some 120000, heater := .running } }).postHeater))

/-- The frost guard on its timers: a cabin or bay temperature whose value has reached the limit in force is unknown at its expiry;
a younger value counts down what is left of the limit. An unknown bay takes SAFE to WATCH with the hold call formed, and 60 s of
it take WATCH to RISK, which loads the risk timer, promotes the heater and wants heat; OFF, RISK and DUMPED stay. That the unknown
timer stands at its limit of 60,000 ms, and that a countdown is formed anew from the value's age, is the model's choice (logs 38,
41). -/
def Obligations.GuardFollowsTheUnknownBay : Prop :=
  ∀ s : State, s.part.outbox = [] → s.part.mdc.mode ≠ .start →
    let p := s.part
    let c := p.clm
    let at' := fun x : Clm => { p with clm := x }
    let limit := if p.mdc.mode = .storage then 2 * p.params.dutyMs else 10000
    let stale := fun r : LineRole => ∀ a, p.ageOf r = some a → limit ≤ a
    let h : Int := (p.params.thermoHysteresis / 2 : Nat)
    let hold := match c.cabin with
      | none => true
      | some t => decide (t < 10 - h)
    let risk := { c with
      unknownTimer := 60000, guard := GuardState.risk, hold := false, riskTimer := some p.params.riskMs }
    let noHeater := p.params.loadWith .heater = none
    let kept := fun q : Part => q.params = p.params ∧ q.bnk = p.bnk ∧ q.mdc = p.mdc ∧ q.sli = p.sli
    (c.cabinTimer = none → LeadsTo (.climateTempStale .cabin) s p) ∧
    (c.bayTimer = none → LeadsTo (.climateTempStale .bay) s p) ∧
    (c.cabinTimer.isSome = true → stale .cabinTemp →
      LeadsTo (.climateTempStale .cabin) s (at' { c with cabinTimer := none, cabin := none })) ∧
    (∀ a, c.cabinTimer.isSome = true → p.ageOf .cabinTemp = some a → a < limit → LeadsTo (.climateTempStale .cabin) s
      (at' { c with cabinTimer := some (limit - a), cabin := p.knownTemp .cabinTemp })) ∧
    (c.bayTimer.isSome = true → stale .bayTemp →
      (c.guard = .off ∨ c.guard = .dumped ∨ c.guard = .risk ∨ c.guard = .watch ∧ c.unknownTimer < 60000 →
        LeadsTo (.climateTempStale .bay) s (at' { c with bayTimer := none, bay := none })) ∧
      (c.guard = .safe → c.unknownTimer < 60000 →
        (noHeater → LeadsTo (.climateTempStale .bay) s
          ((at' { c with
            bayTimer := none, bay := none, guard := .watch, hold := hold, heatWanted := c.call || hold
            held := .none }).postFrost .safe .unknown)) ∧
        ∃ t, exec (.climateTempStale .bay) s = .next t ∧ t.pending = s.pending ∧ t.part.clm.guard = .watch ∧
          t.part.clm.bay = none ∧ t.part.clm.hold = hold ∧ t.part.clm.heatWanted = (c.call || hold) ∧ kept t.part)) ∧
    (c.bay.isSome = true ∨ c.guard = .off ∨ c.guard = .dumped → LeadsTo .guardUnknownTimeout s p) ∧
    (c.bay = none → c.guard = .watch →
      (noHeater →
        LeadsTo .guardUnknownTimeout s ((at' { risk with heatWanted := true, held := .none }).postFrost .watch .unknown)) ∧
      (∀ l, p.params.loadWith .heater = some l →
        ((p.load l).promoted = false → (p.load l).state = .on → c.heater = .running →
          let q := ((((at' risk).setLoad l { p.load l with promoted := true }).postLoad l .promoted).postHeater)
          LeadsTo .guardUnknownTimeout s
            (({ q with clm := { q.clm with heatWanted := true, held := .none } }).postFrost .watch .unknown)) ∧
        ∃ t, exec .guardUnknownTimeout s = .next t ∧ t.pending = s.pending ∧ t.part.clm.guard = .risk ∧
          t.part.clm.hold = false ∧ t.part.clm.riskTimer = some p.params.riskMs ∧ t.part.clm.heatWanted = true ∧
          (t.part.load l).promoted = true ∧ kept t.part))

/-- Into DUMPED and out of it, with a heater load or without: the risk timer and FROST_DUMP open the valve, with the guard DUMPED,
the fresh tank marked, the heater no longer promoted and heat wanted by the thermostat alone; FROST_DUMP is INTERLOCK in OFF and
OK in DUMPED; FROST_CLOSE is checked in the order of R156, and accepted it closes the valve and judges the bay. The empty payload
of a refusal is the model's choice (log 15). -/
def Obligations.DumpOpensTheValveAndCloseShutsIt : Prop :=
  ∀ (s : State) (v : LoadId), s.part.mdc.mode ≠ .start → s.part.params.loadWith .frostValve = some v → v.val < 12 →
    let p := s.part
    let c := p.clm
    let acting := c.guard = .safe ∨ c.guard = .watch ∨ c.guard = .risk
    let energized := (p.load v).state = .on ∧ (p.chan v).switching = .on
    let w := p.params.warnThreshold
    let noHeater := p.params.loadWith .heater = none
    let kept := fun q : Part => q.params = p.params ∧ q.bnk = p.bnk ∧ q.mdc = p.mdc ∧ q.sli = p.sli ∧
      (noHeater → q.mot = p.mot)
    let opened := fun q : Part =>
      q.clm.guard = .dumped ∧ q.clm.hold = false ∧ q.clm.riskTimer = none ∧ q.clm.unknownTimer = 0 ∧
      q.clm.heatWanted = c.call ∧ (q.load v).state = .off ∧ (q.chan v).switching = .off ∧ q.wat.dumped = true ∧
      q.wat.fresh = p.wat.fresh ∧ (∀ l, p.params.loadWith .heater = some l → (q.load l).promoted = false) ∧
      (noHeater → q.clm = { c with
        guard := .dumped, hold := false, riskTimer := none, unknownTimer := 0, heatWanted := c.call, held := .none }) ∧ kept q
    (p.outbox = [] → acting → energized → c.riskTimer.isSome = true →
      ∃ t, exec .riskTimerExpiry s = .next t ∧ t.pending = s.pending ∧ opened t.part) ∧
    (p.Ready →
      (c.guard = .off → Replies .frostDump s p .interlock []) ∧
      (c.guard = .dumped → Replies .frostDump s p .ok p.dumpPayload) ∧
      (acting → energized → ∃ q, Replies .frostDump s q .ok q.dumpPayload ∧ opened q) ∧
      (c.guard ≠ .dumped → Replies .frostClose s p .ok p.closePayload) ∧
      (c.guard = .dumped →
        ((p.load v).state = .faulted → Replies .frostClose s p .faulted []) ∧
        ((p.load v).state ≠ .faulted → p.params.guardEnabled = true → (∀ t, c.bay = some t → t < w) →
          Replies .frostClose s p .interlock []) ∧
        (p.Admits v → (p.chan v).switching ≠ .tripped →
          let closed := fun (g : GuardState) => ∃ q, Replies .frostClose s q .ok q.closePayload ∧ q.clm.guard = g ∧
            (q.load v).state = .on ∧ (q.chan v).switching = .on ∧ q.wat.dumped = false ∧ kept q
          (p.params.guardEnabled = false → closed .off) ∧
          (∀ t, p.params.guardEnabled = true → p.params.dumpThreshold ≤ w → c.bay = some t → w ≤ t →
            closed (if w + p.params.guardHysteresis ≤ t then .safe else .watch)))))

/-! ### Motion (R162 to R174) -/

/-- MOVE EXTEND or RETRACT on an idle bridge in ACTIVE or SERVICE, AWN EXTEND with a target too: the interlocks and the switches
refuse it; at the end it leads to, or with a target at or below the position, it is OK with no change; and a demand that is
admitted takes the active slot, a target without a position lost, which waits out the dead time and then starts its drive. In
STORAGE every MOVE is WRONG_MODE. The expiry of the dead time: with an empty slot it only stops; a motion in WAIT starts its
drive, whatever its axis, direction, class and target, in every mode, or ends REACHED if it stands at its end, or a STEP EXTEND
ends INTERLOCK with D+ active or the handbrake released; one in BACKOFF_WAIT starts its back-off outward, or a locked STEP ends
BLOCKED. An admission and an ending rest on the role MOTOR of the axis's load, which R45 fixes. That a refused MOVE carries its
payload, and that no switch is judged at the start of a back-off, is the model's choice (logs 15, 54). -/
def Obligations.AcceptedMoveStartsOrWaits : Prop :=
  let drive := fun (q : Part) (m : Motion) =>
    let q := { q with mot := { q.mot with
      active := some { m with stage := .drive, basePos := (q.axis m.axis).position, drivenMs := 0, travelMs := q.params.travelMs }
      bridge := if m.dir = Direction.extend then Bridge.outward else .inward
      tick := some 10, inrush := some 150, watch := some 50, timeout := some (q.params.axisTimeoutMs m.axis) } }
    (q.setAxis m.axis { q.axis m.axis with stall := 0 }).orderOn (motorOf m.axis)
  (∀ (s : State) (a : Axis) (w : Option Word), s.part.Ready → s.part.mdc.mode = .storage →
    let i := fun c : Byte => Instr.move (BitVec.ofNat 8 (axisCode a)) c
    let refused := fun i => Replies i s s.part .wrongMode (s.part.movePayload a)
    (w.isSome = true → a = .awn) → refused (i 0 w) ∧ refused (i 1 none) ∧ refused (i 2 none)) ∧
  (∀ (s : State) (a : Axis) (d : Direction) (w : Option Word), s.part.mdc.mode = .active ∨ s.part.mdc.mode = .service →
    s.part.Ready → s.part.mot.active = none → (w.isSome = true → a = .awn ∧ d = .extend) →
    let p := s.part
    let x := p.axis a
    let target : Option Nat := w.map fun n => min 1000 n.toNat
    let met := match target, x.position with
      | some n, some pos => decide (n ≤ pos)
      | _, _ => false
    let l := motorOf a
    let b := p.busOf l
    let cls := if a = .step ∧ d = .retract then 1 else 2
    let i := Instr.move (BitVec.ofNat 8 (axisCode a)) (BitVec.ofNat 8 d.code) w
    let locked := d = .extend ∧ (p.dplus = true ∨ a = .step ∧ p.handbrake = false)
    let both := p.inSwitch a = true ∧ p.outSwitch a = true
    let goal := match d with
      | .extend => AxisState.extended
      | .retract => .retracted
    let atEnd := match d with
      | .extend => p.outSwitch a
      | .retract => p.inSwitch a
    let admits := p.params.role l = .motor ∧ (p.load l).state = .off ∧
      (cls = 2 → busFloorOf p.params b 2 ≤ (p.bus b).soc ∧ (p.bus b).uvFlag = false) ∧
      p.committedSum b + p.committed l ≤ busLimitOf p.params b
    (locked → Replies i s p .interlock (p.movePayload a)) ∧
    (¬ locked → both → Replies i s p .faulted (p.movePayload a)) ∧
    (¬ locked → ¬ both → x.state = goal ∨ met = true → Replies i s p .ok (p.movePayload a)) ∧
    (¬ locked → ¬ both → x.state ≠ goal → met = false → admits → atEnd = false → (p.chan l).switching ≠ .tripped →
      let m : Motion := ⟨a, d, if x.position.isSome then target else none, cls, .wait, x.state, none, 0, 1⟩
      let q := p.admitLoad l (some cls)
      let q := ({ q with mot := { q.mot with active := some m } }).setAxis a
        { x with state := if d = Direction.extend then AxisState.extending else .retracting }
      (p.mot.dead.isSome = true → Replies i s q .ok (q.movePayload a)) ∧
      (p.mot.dead = none → Replies i s (drive q m) .ok ((drive q m).movePayload a)))) ∧
  (∀ s : State, s.part.outbox = [] →
    let p := s.part
    let q := { p with mot := { p.mot with dead := none } }
    (p.mot.dead = none → LeadsTo .deadTimeExpiry s p) ∧
    (p.mot.dead.isSome = true →
      (p.mot.active = none → LeadsTo .deadTimeExpiry s q) ∧
      (∀ m, p.mot.active = some m →
        let l := motorOf m.axis
        let stepLocked := m.axis = .step ∧ (p.dplus = true ∨ p.handbrake = false)
        let atEnd := match m.dir with
          | .extend => p.outSwitch m.axis
          | .retract => p.inSwitch m.axis
        (m.stage = .wait → atEnd = false → ¬ (m.dir = .extend ∧ stepLocked) → (p.chan l).switching ≠ .tripped →
          LeadsTo .deadTimeExpiry s (drive q m)) ∧
        let ends := fun (r : MotionResult) (st : AxisState) =>
          p.mot.pend = none → p.params.role l = .motor → (p.load l).state = .on → (p.chan l).switching = .off →
          ∃ t, exec .deadTimeExpiry s = .next t ∧ t.pending = s.pending ∧ t.part.mot.active = none ∧ t.part.mot.dead = none ∧
            (t.part.axis m.axis).state = st ∧ (t.part.axis m.axis).lastResult = some r ∧ (t.part.load l).state = .off ∧
            t.part.mot.bridge = p.mot.bridge ∧ (t.part.chan l).switching = .off ∧
            (∀ a', a' ≠ m.axis → t.part.axis a' = p.axis a') ∧ t.part.params = p.params ∧ t.part.bnk = p.bnk
        (m.stage = .wait → atEnd = true → ends .reached (if m.dir = Direction.extend then .extended else .retracted)) ∧
        (m.stage = .wait → atEnd = false → m.dir = .extend → stepLocked → ends .interlock m.before) ∧
        (m.stage = .backoffWait → stepLocked → ends .blocked .blocked) ∧
        (m.stage = .backoffWait → ¬ stepLocked → (p.chan l).switching ≠ .tripped →
          let started := { q with mot := { q.mot with
            active := some { m with
              stage := .backoff, basePos := (q.axis m.axis).position, drivenMs := 0, travelMs := q.params.travelMs }
            bridge := .outward, tick := some 10, inrush := some 150, watch := some 50, backoff := some 300 } }
          LeadsTo .deadTimeExpiry s (started.orderOn l)) ∧
        (m.stage = .drive ∨ m.stage = .backoff → LeadsTo .deadTimeExpiry s q))))

/-- MOVE for an axis while a motion is active: STOP ends the motion of its own axis with STOPPED and leaves another's; the same
direction without a target changes nothing; the other axis's request goes to the free pending slot; a step that extends and is
asked to retract ends REVERSED and waits out the dead time for its retraction, which its notice already shows (log 52). STOP and
the reversal of a drive are stated with both switches inactive, since an outward drive at OUT has ended (R172). That a
same-direction MOVE without a target keeps the motion's is the model's choice (log 35). -/
def Obligations.MoveMeetsTheActiveMotion : Prop :=
  ∀ (s : State) (m : Motion) (a : Axis), s.part.Ready → s.part.mdc.mode = .active → s.part.mot.active = some m →
    s.part.mot.pend = none →
    let p := s.part
    let n := BitVec.ofNat 8 (axisCode a)
    let l := motorOf a
    (a ≠ m.axis → Replies (.move n 2 none) s p .ok (p.movePayload a)) ∧
    (a ≠ m.axis → (p.axis a).state ≠ .retracted → p.inSwitch a = false →
      let q := { p with mot := { p.mot with pend := some ⟨a, .retract, none, .host⟩ } }
      Replies (.move n 1 none) s q .ok (q.movePayload a)) ∧
    (a = m.axis → m.stage = .drive ∨ m.stage = .wait → m.dir = .retract → p.inSwitch a = false →
      Replies (.move n 1 none) s p .ok (p.movePayload a)) ∧
    (a = m.axis → m.stage = .drive → p.inSwitch a = false → p.outSwitch a = false → (p.load l).state = .on →
      (p.chan l).switching ≠ .tripped →
      ∃ q, Replies (.move n 2 none) s q .ok (q.movePayload a) ∧ q.mot.active = none ∧ (q.axis a).state = .stoppedMid ∧
        (q.axis a).lastResult = some .stopped ∧ q.mot.bridge = .brake ∧ q.mot.dead = some 200 ∧ q.mot.tick = none ∧
        q.mot.watch = none ∧ q.mot.timeout = none ∧ (q.load l).state = .off ∧ (q.chan l).switching = .off ∧
        (∀ a', a' ≠ a → q.axis a' = p.axis a') ∧ q.params = p.params ∧ q.bnk = p.bnk ∧ q.lux = p.lux) ∧
    (a = .step → m.axis = .step → m.dir = .extend → m.stage = .drive → p.inSwitch a = false → p.outSwitch a = false →
      p.params.role l = .motor → (p.load l).state = .on → (p.chan l).switching ≠ .tripped →
      noticeEnabled p.params .motion = true → p.lnk.notices = [] →
      ∃ q m', Replies (.move n 1 none) s q .ok (q.movePayload a) ∧ q.mot.active = some m' ∧ m'.axis = .step ∧
        m'.dir = .retract ∧ m'.stage = .wait ∧ m'.motorClass = 1 ∧ q.mot.bridge = .brake ∧ q.mot.dead = some 200 ∧
        (q.axis a).state = .retracting ∧ (q.axis a).lastResult = some .reversed ∧ (q.load l).state = .on ∧
        (q.chan l).switching = .off ∧ q.axis .awn = p.axis .awn ∧ q.params = p.params ∧ q.bnk = p.bnk ∧
        ∃ x ∈ q.lnk.notices, x.kind = .motion ∧ x.subject = 1 ∧ x.data.take 2 = [3#8, 3#8])

/-- The supervision of a drive: the timeout and the result watch end it in FAULT, the back-off time ends a back-off in BLOCKED, an
awning whose OUT became active in EXTENDED, and an awning's target below 1000 ends it in STOPPED_MID; each ending brakes the
bridge, starts the dead time of 200 ms, orders the channel off and takes the motor load off. The drive tick: it reloads with 10 ms
and asks for a tracking measurement; the awning's driven time grows by 10 ms and its position is the base plus or less
floor(driven time × 1000 / travel time), within 0 to 1000. That the result watch runs in BACKOFF too, with the timeout beside it,
that a target of 1000 is left to the switch, and that a back-off ends by OUT as it stands at the expiry, is the model's reading
(logs 24, 35, 54). -/
def Obligations.DrivesTickAndEnd : Prop :=
  (∀ (s : State) (m : Motion), s.part.outbox = [] → s.part.mot.active = some m → s.part.mot.pend = none →
      let p := s.part
      let a := m.axis
      let l := motorOf a
      (p.load l).state = .on → (p.chan l).switching ≠ .tripped →
      let ended := fun (i : Instr) (st : AxisState) (r : MotionResult) => ∃ t, exec i s = .next t ∧ t.pending = s.pending ∧
        t.part.mot.active = none ∧ (t.part.axis a).state = st ∧ (t.part.axis a).lastResult = some r ∧
        t.part.mot.bridge = .brake ∧ t.part.mot.dead = some 200 ∧ t.part.mot.tick = none ∧ t.part.mot.inrush = none ∧
        t.part.mot.watch = none ∧ t.part.mot.timeout = none ∧ t.part.mot.backoff = none ∧
        (t.part.load l).state = .off ∧ (t.part.chan l).switching = .off ∧ (∀ a', a' ≠ a → t.part.axis a' = p.axis a') ∧
        (∀ k, k ≠ l → t.part.load k = p.load k) ∧ (∀ c, c ≠ l → t.part.chan c = p.chan c) ∧
        t.part.params = p.params ∧ t.part.bnk = p.bnk ∧ t.part.lux = p.lux
      (m.stage = .drive ∨ m.stage = .backoff → p.mot.timeout.isSome = true → ended .motionTimeout .fault .timeout) ∧
      (m.stage = .drive ∨ m.stage = .backoff → p.mot.watch.isSome = true → ended .resultWatchExpiry .fault .noTracking) ∧
      (m.stage = .backoff → p.mot.backoff.isSome = true → p.outSwitch a = false → ended .backoffExpiry .blocked .blocked) ∧
      (m.stage = .backoff → p.mot.backoff.isSome = true → p.outSwitch a = true → a = .awn →
        ended .backoffExpiry .extended .blocked) ∧
      (∀ t base, m.stage = .drive → a = .awn → m.dir = .extend → p.mot.tick.isSome = true → m.target = some t → t < 1000 →
        m.basePos = some base → t ≤ min 1000 (base + (m.drivenMs + 10) * 1000 / m.travelMs) →
        ended .driveTick .stoppedMid .target) ∧
      LeadsTo .motionInrushBlankExpiry s { p with mot := { p.mot with inrush := none } }) ∧
  (∀ s : State, s.part.outbox = [] →
      let p := s.part
      (p.mot.tick = none ∨ p.mot.active = none → LeadsTo .driveTick s p) ∧
      (∀ m, p.mot.tick.isSome = true → p.mot.active = some m → (∀ t, m.target = some t → 1000 ≤ t) →
        p.out.zeroPass = none →
        p.out.running.isSome = true →
        let tracked := { p with
          out := { p.out with trackingSlot := some (motorOf m.axis) }, mot := { p.mot with tick := some 10 } }
        (m.axis = .step → LeadsTo .driveTick s tracked) ∧
        (∀ base, m.axis = .awn → m.stage = .drive → m.basePos = some base →
          let m' := { m with drivenMs := m.drivenMs + 10 }
          let moved := (m.drivenMs + 10) * 1000 / m.travelMs
          let q := { tracked with mot := { tracked.mot with active := some m' } }
          LeadsTo .driveTick s
            (q.setAxis .awn { p.axis .awn with
              position := some (if m.dir = Direction.extend then min 1000 (base + moved) else base - moved) }))))

/-! ### Lights (R179 to R186) -/

/-- LIGHT_SET outside START: EXERCISE_ACTIVE and FAULTED change nothing; level 0 of a dark load, a SHED load, an ON load and an
admitted load each take their level, the fade, and a stopped courtesy timer. A fade tick moves the present level one step toward
the fade end without passing it and hands over the duty of the brightness curve; at the fade end the tick stops, and a channel
that is dark is ordered OFF. That a refused LIGHT_SET carries its payload is the model's choice (log 15). -/
def Obligations.LightsTakeTheirLevelsByFades : Prop :=
  (∀ (s : State) (c : LightId) (v w : Word), s.part.Ready → s.part.mdc.mode ≠ .start →
      let p := s.part
      let l := lightLoad c
      let level := min 1000 v.toNat
      let fade := min 10000 w.toNat
      let r := p.light c
      let i := Instr.lightSet (BitVec.ofNat 8 c.val) v w
      let answered := fun (q : Part) (st : Status) => Replies i s q st (q.lightPayload c level fade)
      let d := if r.present ≤ level then level - r.present else r.present - level
      let fading := { r with
        target := level, fadeEnd := level, fadeStep := some ((d * 10 + fade - 1) / fade), tick := some 10, courtesy := none }
      let open' := p.modeRefusal l (p.effClass l) = none
      ((p.load l).state = .exercised → answered p .exerciseActive) ∧
      ((p.load l).state = .off ∨ (p.load l).state = .faulted → level = 0 →
        answered (p.setLight c { r with courtesy := none }) .ok) ∧
      ((p.load l).state = .faulted → 0 < level → open' → answered p .faulted) ∧
      ((p.load l).state = .shed → 0 < level → open' →
        answered ((p.setLoad l { p.load l with wantedLevel := level }).setLight c { r with target := level, courtesy := none })
          .shed) ∧
      ((p.load l).state = .on → 0 < level → open' → (p.chan l).switching = .on → 0 < fade → 0 < d →
        p.baseDrawAt l level ≤ p.baseDrawAt l (p.load l).wantedLevel →
        answered ((p.setLoad l { p.load l with wantedLevel := level }).setLight c fading) .ok) ∧
      ((p.load l).state = .on → level = 0 → 0 < fade → 0 < d →
        ∃ q, answered q .ok ∧ (q.load l).state = .off ∧ q.light c = fading ∧ q.out = p.out ∧ q.params = p.params) ∧
      ((p.load l).state = .off → 0 < level → open' → 0 < fade → 0 < d → (p.chan l).switching = .off →
        p.out.exercise ≠ some l → p.chargeRefusal (p.busOf l) (p.effClass l) = false →
        p.committedSum (p.busOf l) + max (lightDraw (p.params.nominal l) level) ((p.load l).measured.getD 0) ≤
          busLimitOf p.params (p.busOf l) →
        ∃ q, answered q .ok ∧ (q.load l).state = .on ∧ (q.load l).wantedLevel = level ∧ q.light c = fading ∧
          (q.chan l).switching = .on ∧ (q.bus (p.busOf l)).onList = (p.bus (p.busOf l)).onList ++ [l] ∧
          (∀ c', c' ≠ c → q.light c' = p.light c') ∧ q.params = p.params ∧ q.bnk = p.bnk)) ∧
  (∀ (s : State) (c : LightId), s.part.outbox = [] → s.part.out.exercise ≠ some (lightLoad c) →
      let p := s.part
      let r := p.light c
      let l := lightLoad c
      (r.tick = none → LeadsTo (.fadeTick c) s p) ∧
      (∀ step, r.tick.isSome = true → r.fadeStep = some step →
        let n := if r.present ≤ r.fadeEnd then min r.fadeEnd (r.present + step) else max r.fadeEnd (r.present - step)
        let moved := fun x : LightRec => (p.setLight c x).setChan l { p.chan l with duty := n * n / 1000 }
        (n ≠ r.fadeEnd → LeadsTo (.fadeTick c) s (moved { r with present := n, tick := some 10 })) ∧
        (n = r.fadeEnd → 0 < n → LeadsTo (.fadeTick c) s (moved { r with present := n, tick := none, fadeStep := none })) ∧
        (n = r.fadeEnd → n = 0 → LeadsTo (.fadeTick c) s
          ((moved { r with present := n, tick := none, fadeStep := none }).orderOff l))))

/-- SCENE_STORE: BAD_ARG above 3, STARTING in START, else the scene's six levels become the six targets, SETTINGS_UNSAVED is set
if one of them changed, and nothing else changes, the store among it. The reply carries the six levels; that they stand without a
list's entry count is the model's choice (log 56). -/
def Obligations.SceneStoreCopiesTheTargets : Prop :=
  ∀ (s : State) (x : Byte), s.part.Ready →
    let p := s.part
    let k := x.toNat
    (3 < k → ∃ payload, Replies (.sceneStore x) s p .badArg payload) ∧
    (k ≤ 3 → p.mdc.mode = .start → ∃ payload, Replies (.sceneStore x) s p .starting payload) ∧
    (k ≤ 3 → p.mdc.mode ≠ .start → 10 ≤ p.params.length → 24 ≤ (p.params.getD 9 []).length →
      ∃ q, Replies (.sceneStore x) s q .ok
          ([x] ++ (List.finRange 6).flatMap fun c : LightId => n16 (q.params.get 9 (6 * k + c.val)).toNat) ∧
        (∀ c : LightId, q.params.get 9 (6 * k + c.val) = BitVec.ofNat 16 (p.light c).target) ∧
        (∀ page idx, page ≠ 9 ∨ idx < 6 * k ∨ 6 * k + 5 < idx → q.params.get page idx = p.params.get page idx) ∧
        (q.lnk.unsaved = true ↔ p.lnk.unsaved = true ∨
          ∃ c : LightId, p.params.get 9 (6 * k + c.val) ≠ BitVec.ofNat 16 (p.light c).target) ∧
        { q with params := p.params, lnk := { q.lnk with unsaved := p.lnk.unsaved } } = p)

/-- SCENE_RECALL over six ON lights whose new levels draw no more starts six fades. An idle step that enters EXTENDED at its OUT
switch is handed to LUX: without a step light, with the courtesy level 0, or with a target at or above it, nothing more happens; a
running courtesy timer is reloaded; otherwise the light is set to the courtesy level over 1 s, and the timer starts with 120 s on
an answer of OK or SHED and not on a refusal. The expiry of the timer takes the step light off and fades it out in 1 s. That each
entry of the step into EXTENDED starts the light, and that the debounce expiry leaves the switch's timer at its limit of 20 ms, is
the model's choice (logs 21, 38). -/
def Obligations.RecallAndCourtesySetLevels : Prop :=
  ∀ (s : State) (k : Nat) (w : Word), k ≤ 3 →
    let p := s.part
    let fade := min 10000 w.toNat
    let level := fun c => p.params.sceneLevel k c
    let dist := fun (a b : Nat) => if a ≤ b then b - a else a - b
    let fading := fun (c : LightId) (goal time : Nat) => { p.light c with
      target := goal, fadeEnd := goal, fadeStep := some ((dist (p.light c).present goal * 10 + time - 1) / time)
      tick := some 10, courtesy := none }
    (p.Ready → p.mdc.mode ≠ .start →
      (∀ c, (p.load (lightLoad c)).state = .on ∧ (p.chan (lightLoad c)).switching = .on ∧
        p.modeRefusal (lightLoad c) (p.effClass (lightLoad c)) = none ∧ 0 < level c ∧ level c ≠ (p.light c).present ∧
        p.baseDrawAt (lightLoad c) (level c) ≤ p.baseDrawAt (lightLoad c) (p.load (lightLoad c)).wantedLevel) →
      0 < fade →
      ∃ q, Replies (.sceneRecall (BitVec.ofNat 8 k) w) s q .ok (q.recallPayload k fade (List.replicate 6 .ok)) ∧
        (∀ c, q.light c = fading c (level c) fade ∧
          q.load (lightLoad c) = { p.load (lightLoad c) with wantedLevel := level c }) ∧
        q.out = p.out ∧ q.params = p.params ∧ q.bnk = p.bnk) ∧
    (p.outbox = [] →
      (p.stepLight = none → LeadsTo .courtesyTimerExpiry s p) ∧
      (∀ c, p.stepLight = some c → (p.light c).courtesy = none → LeadsTo .courtesyTimerExpiry s p) ∧
      (∀ c, p.stepLight = some c → (p.light c).courtesy.isSome = true → 0 < (p.light c).present →
        (p.load (lightLoad c)).state = .on →
        ∃ t, exec .courtesyTimerExpiry s = .next t ∧ t.pending = s.pending ∧ t.part.light c = fading c 0 1000 ∧
          (t.part.load (lightLoad c)).state = .off ∧ (∀ c', c' ≠ c → t.part.light c' = p.light c') ∧
          t.part.out = p.out ∧ t.part.params = p.params)) ∧
    (p.outbox = [] → (p.signal .stepOut).raw = true → (p.signal .stepOut).deb = false → p.inSwitch .step = false →
      (p.axis .step).state = .retracted ∨ (p.axis .step).state = .stoppedMid → (∀ m, p.mot.active = some m → m.axis = .awn) →
      let q := (p.setSignal .stepOut ⟨true, true, 20⟩).setAxis .step { p.axis .step with state := .extended }
      let courtesy := p.params.courtesyLevel
      let out := fun q : Part => LeadsTo (.debounceExpiry .stepOut) s q
      (p.stepLight = none → out q) ∧
      (∀ c, p.stepLight = some c →
        let l := lightLoad c
        let r := p.light c
        let timed := fun x : LightRec => { x with courtesy := some 120000 }
        (courtesy = 0 → out q) ∧
        (0 < courtesy → r.courtesy.isSome = true → out (q.setLight c (timed r))) ∧
        (0 < courtesy → r.courtesy = none → courtesy ≤ r.target → out q) ∧
        (r.courtesy = none → r.target < courtesy →
          ((p.load l).state = .exercised → out q) ∧
          (∀ st, p.modeRefusal l (p.effClass l) = some st → out q) ∧
          (p.modeRefusal l (p.effClass l) = none →
            ((p.load l).state = .faulted → out q) ∧
            ((p.load l).state = .off → p.chargeRefusal (p.busOf l) (p.effClass l) = true → out q) ∧
            ((p.load l).state = .shed → out ((q.setLoad l { p.load l with wantedLevel := courtesy }).setLight c
              (timed { r with target := courtesy }))) ∧
            ((p.load l).state = .on → (p.chan l).switching = .on → r.present ≠ courtesy →
              p.baseDrawAt l courtesy ≤ p.baseDrawAt l (p.load l).wantedLevel →
              out ((q.setLoad l { p.load l with wantedLevel := courtesy }).setLight c (timed (fading c courtesy 1000)))) ∧
            ((p.load l).state = .off → (p.chan l).switching = .off → r.present ≠ courtesy → p.out.exercise ≠ some l →
              p.chargeRefusal (p.busOf l) (p.effClass l) = false →
              p.committedSum (p.busOf l) + p.committedAt l courtesy ≤ busLimitOf p.params (p.busOf l) →
              ∃ t, exec (.debounceExpiry .stepOut) s = .next t ∧ t.pending = s.pending ∧ (t.part.load l).state = .on ∧
                (t.part.load l).wantedLevel = courtesy ∧ (t.part.chan l).switching = .on ∧
                t.part.light c = timed (fading c courtesy 1000) ∧ (∀ c', c' ≠ c → t.part.light c' = p.light c') ∧
                (t.part.axis .step).state = .extended ∧ t.part.params = p.params ∧ t.part.bnk = p.bnk)))))

/-! ### Mode control (R189 to R197) -/

/-- A raw change restarts the debounce timer; a debounce time over an unchanged level changes only the timer; over a changed end
switch of an idle axis it gives the axis the state of its switches and an awning its position; over a released handbrake it clears
parked and drives an extended step in. An awning that is out follows by the pending slot, or drives in at class 2 where the step
is in, and stays out where the charge refuses it; a motion of the awning that drives is pre-empted, but for a retraction with the
step in, which is left to run. The awning's drive-off is stated where the lists of the buses agree with the loads, which every step
keeps (EveryStepKeepsTheBounds). D+ becoming active does so too, and ends STORAGE in ACTIVE; D+ becoming inactive zeroes the D+
count, opens the split relay, and with the handbrake applied empties the level windows. MAINS_OK switches the shore charger. A
supply sample is held; below 9,000 mV it raises the warning once, which starts a snapshot write or holds it; at 9,500 mV and above
it lowers the warning. That a debounce timer stands at its debounce time after its expiry (log 38), that a slot stands with the
complemented CRC while its write runs (log 8), that a sample below 7,500 mV is only a sample, and no POWER reset (log 11), and that an
idle awning whose OUT is active keeps its position as IN becomes active too (log 76), is the model's choice. -/
def Obligations.PinsAndSuppliesAreFollowed : Prop :=
  (∀ (s : State) (x : Signal) (level : Bool), s.part.outbox = [] →
      let p := s.part
      let time := fun x : Signal => match x with
        | .dplus => 500
        | .handbrake => 200
        | .mainsOk => 2000
        | _ => 20
      let padRests := p.params.chemistry = .lead ∧ (p.chg.pad = .idle ∨ p.chg.pad = .noPad ∨ p.chg.pad = .faulted)
      let taken := fun x : Signal => p.setSignal x { p.signal x with deb := (p.signal x).raw, timer := time x }
      ((p.signal x).raw = level → LeadsTo (.rawSignalChange x level) s p) ∧
      ((p.signal x).raw ≠ level → LeadsTo (.rawSignalChange x level) s
        (p.setSignal x { p.signal x with raw := level, timer := 0 })) ∧
      ((p.signal x).raw = (p.signal x).deb → LeadsTo (.debounceExpiry x) s (taken x)) ∧
      (p.mot.active = none → (p.axis .awn).state ≠ .blocked → (p.axis .awn).state ≠ .fault →
        (p.signal .awnIn).raw ≠ (p.signal .awnIn).deb →
        ((p.signal .awnIn).raw = true → p.outSwitch .awn = false → LeadsTo (.debounceExpiry .awnIn) s
          ((taken .awnIn).setAxis .awn { p.axis .awn with state := .retracted, position := some 0 })) ∧
        ((p.signal .awnIn).raw = false → p.outSwitch .awn = false → LeadsTo (.debounceExpiry .awnIn) s
          ((taken .awnIn).setAxis .awn { p.axis .awn with state := .stoppedMid, position := none })) ∧
        ((p.signal .awnIn).raw = true → p.outSwitch .awn = true → LeadsTo (.debounceExpiry .awnIn) s
          (((taken .awnIn).setAxis .awn { p.axis .awn with state := .fault, lastResult := some .switchConflict }).postMotion .awn
            .switchConflict))) ∧
      (∀ m, p.mot.active = some m → p.mot.pend = none → m.axis = .awn → m.dir = .extend → m.stage = .drive →
        (p.signal .awnOut).raw = true → (p.signal .awnOut).deb = false → p.inSwitch .awn = false → (p.load 18).state = .on →
        (p.chan 18).switching ≠ .tripped →
        ∃ t, exec (.debounceExpiry .awnOut) s = .next t ∧ t.pending = s.pending ∧ t.part.mot.active = none ∧
          (t.part.axis .awn).state = .extended ∧ (t.part.axis .awn).position = some 1000 ∧
          (t.part.axis .awn).lastResult = some .reached ∧ t.part.mot.bridge = .brake ∧ t.part.mot.dead = some 200 ∧
          (t.part.load 18).state = .off ∧ (t.part.chan 18).switching = .off ∧ t.part.axis .step = p.axis .step) ∧
      (∀ x, p.mdc.mode = .active → x = .handbrake ∧ (p.signal x).raw = false ∧ (p.signal x).deb = true ∨
          x = .dplus ∧ (p.signal x).raw = true ∧ (p.signal x).deb = false ∧ padRests →
        (p.axis .awn).state = .retracted →
        let b := p.busOf 19
        ((p.axis .step).state = .retracted → LeadsTo (.debounceExpiry x) s (taken x)) ∧
        ((p.axis .step).state = .extended → p.mot.active = none → p.mot.pend = none → p.mot.dead = none →
          p.inSwitch .step = false → (p.load 19).state = .off → (p.chan 19).switching = .off →
          p.committedSum b + p.committed 19 ≤ busLimitOf p.params b →
          ∃ t m, exec (.debounceExpiry x) s = .next t ∧ t.pending = s.pending ∧
            t.part.signal x = (taken x).signal x ∧ t.part.parked = false ∧ t.part.mot.active = some m ∧ m.axis = .step ∧
            m.dir = .retract ∧ m.stage = .drive ∧ m.motorClass = 1 ∧
            (t.part.axis .step).state = .retracting ∧ t.part.mot.bridge = .inward ∧
            (t.part.load 19).state = .on ∧ (t.part.chan 19).switching = .on ∧ t.part.axis .awn = p.axis .awn)) ∧
      (∀ x, p.mdc.mode = .active → x = .handbrake ∧ (p.signal x).raw = false ∧ (p.signal x).deb = true ∨
          x = .dplus ∧ (p.signal x).raw = true ∧ (p.signal x).deb = false ∧ padRests →
        (p.axis .awn).state ≠ .retracted → ListsAgree p →
        let b := p.busOf 18
        let charged : Prop := busFloorOf p.params b 2 ≤ (p.bus b).soc ∧ (p.bus b).uvFlag = false
        let fits := fun l : LoadId =>
          (((p.bus (p.busOf l)).onList.filter fun k => decide (k ≠ 18)).map p.committed).sum + p.committed l ≤
            busLimitOf p.params (p.busOf l)
        let idle : Prop := p.mot.active = none ∧ p.mot.pend = none ∧ p.mot.dead = none
        let ready := fun l : LoadId => (p.load l).state = .off ∧ (p.chan l).switching = .off
        let drives := fun m : Motion => m.axis = .awn ∧ m.stage = .drive ∧ (p.load 18).state = .on ∧
          (p.chan 18).switching ≠ .tripped
        let leaves := fun holds : Part → Prop => ∃ t, exec (.debounceExpiry x) s = .next t ∧ t.pending = s.pending ∧
          t.part.signal x = (taken x).signal x ∧ t.part.parked = false ∧
          (p.Hears .driveWarning →
            ∃ data, t.part.lnk.notices = [⟨.driveWarning, if x = .dplus then 0 else 1, data⟩]) ∧ holds t.part
        ((p.axis .step).state = .retracted →
          (idle → p.inSwitch .awn = false → ready 18 → fits 18 → charged → leaves fun q =>
            ∃ m, q.mot.active = some m ∧ m.axis = .awn ∧ m.dir = .retract ∧ m.stage = .drive ∧ m.motorClass = 2 ∧
              (q.axis .awn).state = .retracting ∧ q.mot.bridge = .inward ∧ (q.load 18).state = .on ∧
              (q.chan 18).switching = .on ∧ q.axis .step = p.axis .step) ∧
          (idle → p.inSwitch .awn = false → ready 18 → ¬ charged → leaves fun q => q.mot = p.mot ∧ q.ldm = p.ldm) ∧
          (∀ m, p.mot.active = some m → m.axis = .awn → m.dir = .retract → m.stage = .wait ∨ m.stage = .drive →
            leaves fun q => q.mot = p.mot ∧ q.ldm = p.ldm) ∧
          (∀ m, p.mot.active = some m → drives m → m.dir = .extend → p.inSwitch .awn = false → fits 18 → charged →
            leaves fun q => ∃ m', q.mot.active = some m' ∧ m'.axis = .awn ∧ m'.dir = .retract ∧ m'.stage = .wait ∧
              m'.motorClass = 2 ∧ (q.axis .awn).lastResult = some .preempted ∧ (q.axis .awn).state = .retracting ∧
              q.mot.pend = p.mot.pend ∧ q.mot.bridge = .brake ∧ q.mot.dead = some 200 ∧ (q.load 18).state = .on ∧
              (q.chan 18).switching = .off ∧ q.axis .step = p.axis .step)) ∧
        ((p.axis .step).state = .extended → p.inSwitch .step = false → ready 19 → fits 19 →
          (idle → (p.load 18).state = .off → leaves fun q =>
            ∃ m, q.mot.active = some m ∧ m.axis = .step ∧ m.dir = .retract ∧ m.stage = .drive ∧ m.motorClass = 1 ∧
              (q.axis .step).state = .retracting ∧ q.mot.bridge = .inward ∧ (q.load 19).state = .on ∧
              q.mot.pend = some ⟨.awn, .retract, none, .driveOff⟩ ∧ q.axis .awn = p.axis .awn) ∧
          (∀ m, p.mot.active = some m → drives m → p.inSwitch .awn = false → p.params.role 18 = .motor → leaves fun q =>
            ∃ m', q.mot.active = some m' ∧ m'.axis = .step ∧ m'.dir = .retract ∧ m'.stage = .wait ∧ m'.motorClass = 1 ∧
              (q.axis .awn).lastResult = some .preempted ∧ (q.axis .step).state = .retracting ∧
              (q.mot.pend = match p.mot.pend with
                | some ⟨.awn, .retract, target, origin⟩ => some ⟨.awn, .retract, target, origin⟩
                | _ => some ⟨.awn, .retract, none, .driveOff⟩) ∧
              q.mot.bridge = .brake ∧ q.mot.dead = some 200 ∧ (q.load 18).state = .off ∧ (q.load 19).state = .on ∧
              (q.chan 18).switching = .off))) ∧
      (p.mdc.mode = .storage → (p.signal .dplus).raw = true → (p.signal .dplus).deb = false →
        ∃ t, exec (.debounceExpiry .dplus) s = .next t ∧ t.pending = s.pending ∧ t.part.dplus = true ∧
          t.part.mdc.mode = .active ∧ t.part.mdc.resume = false ∧ t.part.out.passTimer = none ∧
          t.part.out.sweepHeld = false ∧ t.part.bnk = p.bnk ∧ t.part.params = p.params) ∧
      ((p.signal .dplus).raw = false → (p.signal .dplus).deb = true → padRests →
        let q := { taken .dplus with chg := { p.chg with dplusCount := 0 } }
        let q := if p.chg.splitClosed = true then
            ({ q with chg := { q.chg with splitClosed := false } }).postCharge .split .noDplus
          else q
        LeadsTo (.debounceExpiry .dplus) s (if p.handbrake = true then
            { q with wat := { p.wat with fresh := { p.wat.fresh with window := [] }, grey := { p.wat.grey with window := [] } } }
          else q)) ∧
      ((p.signal .mainsOk).raw ≠ (p.signal .mainsOk).deb → padRests →
        let on := (p.signal .mainsOk).raw && p.chg.coldInhibit.isNone && !p.chg.calHold
        LeadsTo (.debounceExpiry .mainsOk) s (if on = p.chg.shoreEnable then taken .mainsOk
          else ({ taken .mainsOk with chg := { p.chg with shoreEnable := on } }).postCharge .shore
            (if on = true then .mains else .noMains)))) ∧
  (∀ (s : State) (mv : Nat), s.part.outbox = [] →
      let p := s.part
      let warned := fun b : Bool => { p with mdc := { p.mdc with supply := mv, supplyWarning := b } }
      let i := Instr.supplySample mv
      (mv < 9000 → p.mdc.supplyWarning = true → LeadsTo i s (warned true)) ∧
      (9000 ≤ mv → mv < 9500 → LeadsTo i s (warned p.mdc.supplyWarning)) ∧
      (9500 ≤ mv → LeadsTo i s (warned false)) ∧
      (mv < 9000 → p.mdc.supplyWarning = false → p.lnk.memory ≠ .idle →
        LeadsTo i s { warned true with lnk := { p.lnk with snapHeld := true } }) ∧
      (mv < 9000 → p.mdc.supplyWarning = false → p.lnk.memory = .idle → SnapshotBegins i s (warned true)))

/-- MODE_SET: BAD_ARG, STARTING, OK for the present mode, and the refusals in the order of R197, each with the reply's fields and
no change; an accepted request makes the mode change, with the storage resume flag set into STORAGE and cleared out of it, loads
of class 3 and 4 OFF in STORAGE, and the pass timer of the sweep. On entry to STORAGE both sensor countdowns are loaded, an OFF duty
line settles and every other powered line goes OFF; on leaving it both stop and an enabled OFF line settles; no other change touches
a line. STORAGE and SERVICE drop the pending motion, with its WRONG_MODE notice. On entry to SERVICE every load but the frost valve
that was ON or SHED is OFF, a heater where no guard acts on it, and a stack of the SHED loads of its bus is empty. The loads are
stated where the lists of the buses agree with them, which every step keeps (EveryStepKeepsTheBounds). The bytes 1 to 3 for the modes and the order of the blocks within a change are the model's choice
(logs 22, 67). -/
def Obligations.ModeSetChecksThenChanges : Prop :=
  ∀ (s : State) (x : Byte), s.part.Ready →
    let p := s.part
    let now := p.mdc.mode
    let only := fun st => Replies (.modeSet x) s p st (p.modePayload now)
    (x = 0#8 ∨ 3 < x.toNat → only .badArg) ∧
    (1 ≤ x.toNat → x.toNat ≤ 3 → now = .start → only .starting) ∧
    ∀ m, now ≠ .start → x = (match m with | .start => 0#8 | .active => 1#8 | .storage => 2#8 | .service => 3#8) → m ≠ .start →
      (m = now → only .ok) ∧
      (m ≠ now → now = .service → p.out.exercise.isSome = true → only .exerciseActive) ∧
      (m = .storage → now = .service → p.out.exercise = none → only .wrongMode) ∧
      (m = .service → now = .storage → only .wrongMode) ∧
      (m = .storage → now = .active → p.dplus = true → only .interlock) ∧
      (m = .service → now = .active → p.parked = false → only .interlock) ∧
      (m = .storage ∧ now = .active ∧ p.dplus = false ∨ m = .service ∧ now = .active ∧ p.parked = true ∨
          m = .active ∧ now = .storage ∨ m = .active ∧ now = .service ∧ p.out.exercise = none →
        ∃ q, Replies (.modeSet x) s q .ok (q.modePayload now) ∧ q.mdc.mode = m ∧
          q.mdc.resume = (if m = .storage then true else if now = .storage then false else p.mdc.resume) ∧
          q.mdc.signals = p.mdc.signals ∧ q.bnk = p.bnk ∧ q.params = p.params ∧ q.uptime = p.uptime ∧
          (m = .storage → q.out.passTimer = some 1000 ∧ (ListsAgree p →
            ∀ l : LoadId, l.val < 18 → p.params.role l ≠ .heater → 3 ≤ p.effClass l →
              (p.load l).state = .on ∨ (p.load l).state = .shed → (q.load l).state = .off)) ∧
          (m = .active → q.out.passTimer = none ∧ q.out.sweepHeld = false) ∧
          q.sli.dutyTimer = (if m = .storage then some p.params.dutyMs else if now = .storage then none else p.sli.dutyTimer) ∧
          q.sli.windowTimer = (if m = .storage then some 500 else if now = .storage then none else p.sli.windowTimer) ∧
          (∀ l,
            let r := p.line l
            let duty := r.enabled && [LineRole.cabinTemp, .bayTemp, .battTemp].contains (p.params.lineRole l)
            let powered := r.enabled && [Supply.settling, .on].contains r.supply
            let wakes := r.enabled = true ∧ r.supply = .off ∧ (m = .storage ∧ duty = true ∨ now = .storage)
            let rests := m = .storage ∧ duty = false ∧ powered = true
            (q.line l).supply = (if wakes then .settling else if rests then .off else r.supply) ∧
              (q.line l).settle = (if wakes then some 20 else if rests then none else r.settle) ∧
              (q.line l).enabled = r.enabled ∧ (q.line l).value = r.value ∧ (q.line l).latched = r.latched) ∧
          (m ≠ .active → q.mot.pend = none ∧ ∀ x, p.mot.pend = some x →
            (∀ y, p.mot.active = some y → y.axis ≠ x.axis) → p.Hears .motion →
            ∃ data, (⟨.motion, axisCode x.axis, n8 MotionResult.wrongMode.code ++ data⟩ : Notice) ∈ q.lnk.notices) ∧
          (m = .service → ListsAgree p →
            (∀ l, p.params.role l ≠ .frostValve →
              (p.params.role l = .heater → (p.load l).promoted = false ∧ (p.clm.guard = .off ∨ p.clm.guard = .dumped)) →
              (p.load l).state = .on ∨ (p.load l).state = .shed → (q.load l).state = .off) ∧
            ∀ b ∈ p.liveBuses,
              (∀ e ∈ (p.bus b).stack, (p.load e.load).state = .shed ∧ p.busOf e.load = b ∧
                p.params.role e.load ≠ .frostValve) → (q.bus b).stack = []))
end

