-- ==== Sys2Proof/Laws/State.lean ====
section
/-! SUPPORT. One lemma per field per update of the part, so that no proof unfolds a record update. -/

namespace Sys2Proof.Machine

variable (p : Part)

/-! ### `Part.setBank` -/

@[simp] theorem Part.setBank_uptime (b : Bank) (r : BankRec) : (p.setBank b r).uptime = p.uptime := by cases b <;> rfl
@[simp] theorem Part.setBank_subSecond (b : Bank) (r : BankRec) : (p.setBank b r).subSecond = p.subSecond := by cases b <;> rfl
@[simp] theorem Part.setBank_params (b : Bank) (r : BankRec) : (p.setBank b r).params = p.params := by cases b <;> rfl
@[simp] theorem Part.setBank_chg (b : Bank) (r : BankRec) : (p.setBank b r).chg = p.chg := by cases b <;> rfl
@[simp] theorem Part.setBank_ldm (b : Bank) (r : BankRec) : (p.setBank b r).ldm = p.ldm := by cases b <;> rfl
@[simp] theorem Part.setBank_out (b : Bank) (r : BankRec) : (p.setBank b r).out = p.out := by cases b <;> rfl
@[simp] theorem Part.setBank_sli (b : Bank) (r : BankRec) : (p.setBank b r).sli = p.sli := by cases b <;> rfl
@[simp] theorem Part.setBank_wat (b : Bank) (r : BankRec) : (p.setBank b r).wat = p.wat := by cases b <;> rfl
@[simp] theorem Part.setBank_clm (b : Bank) (r : BankRec) : (p.setBank b r).clm = p.clm := by cases b <;> rfl
@[simp] theorem Part.setBank_mot (b : Bank) (r : BankRec) : (p.setBank b r).mot = p.mot := by cases b <;> rfl
@[simp] theorem Part.setBank_lux (b : Bank) (r : BankRec) : (p.setBank b r).lux = p.lux := by cases b <;> rfl
@[simp] theorem Part.setBank_mdc (b : Bank) (r : BankRec) : (p.setBank b r).mdc = p.mdc := by cases b <;> rfl
@[simp] theorem Part.setBank_lnk (b : Bank) (r : BankRec) : (p.setBank b r).lnk = p.lnk := by cases b <;> rfl
@[simp] theorem Part.setBank_outbox (b : Bank) (r : BankRec) : (p.setBank b r).outbox = p.outbox := by cases b <;> rfl

/-! ### `Part.setLoad` -/

@[simp] theorem Part.setLoad_uptime (l : LoadId) (r : LoadRec) : (p.setLoad l r).uptime = p.uptime := by rfl
@[simp] theorem Part.setLoad_subSecond (l : LoadId) (r : LoadRec) : (p.setLoad l r).subSecond = p.subSecond := by rfl
@[simp] theorem Part.setLoad_params (l : LoadId) (r : LoadRec) : (p.setLoad l r).params = p.params := by rfl
@[simp] theorem Part.setLoad_bnk (l : LoadId) (r : LoadRec) : (p.setLoad l r).bnk = p.bnk := by rfl
@[simp] theorem Part.setLoad_chg (l : LoadId) (r : LoadRec) : (p.setLoad l r).chg = p.chg := by rfl
@[simp] theorem Part.setLoad_out (l : LoadId) (r : LoadRec) : (p.setLoad l r).out = p.out := by rfl
@[simp] theorem Part.setLoad_sli (l : LoadId) (r : LoadRec) : (p.setLoad l r).sli = p.sli := by rfl
@[simp] theorem Part.setLoad_wat (l : LoadId) (r : LoadRec) : (p.setLoad l r).wat = p.wat := by rfl
@[simp] theorem Part.setLoad_clm (l : LoadId) (r : LoadRec) : (p.setLoad l r).clm = p.clm := by rfl
@[simp] theorem Part.setLoad_mot (l : LoadId) (r : LoadRec) : (p.setLoad l r).mot = p.mot := by rfl
@[simp] theorem Part.setLoad_lux (l : LoadId) (r : LoadRec) : (p.setLoad l r).lux = p.lux := by rfl
@[simp] theorem Part.setLoad_mdc (l : LoadId) (r : LoadRec) : (p.setLoad l r).mdc = p.mdc := by rfl
@[simp] theorem Part.setLoad_lnk (l : LoadId) (r : LoadRec) : (p.setLoad l r).lnk = p.lnk := by rfl
@[simp] theorem Part.setLoad_outbox (l : LoadId) (r : LoadRec) : (p.setLoad l r).outbox = p.outbox := by rfl

/-! ### `Part.setBus` -/

@[simp] theorem Part.setBus_uptime (b : BusName) (r : BusRec) : (p.setBus b r).uptime = p.uptime := by cases b <;> rfl
@[simp] theorem Part.setBus_subSecond (b : BusName) (r : BusRec) : (p.setBus b r).subSecond = p.subSecond := by cases b <;> rfl
@[simp] theorem Part.setBus_params (b : BusName) (r : BusRec) : (p.setBus b r).params = p.params := by cases b <;> rfl
@[simp] theorem Part.setBus_bnk (b : BusName) (r : BusRec) : (p.setBus b r).bnk = p.bnk := by cases b <;> rfl
@[simp] theorem Part.setBus_chg (b : BusName) (r : BusRec) : (p.setBus b r).chg = p.chg := by cases b <;> rfl
@[simp] theorem Part.setBus_out (b : BusName) (r : BusRec) : (p.setBus b r).out = p.out := by cases b <;> rfl
@[simp] theorem Part.setBus_sli (b : BusName) (r : BusRec) : (p.setBus b r).sli = p.sli := by cases b <;> rfl
@[simp] theorem Part.setBus_wat (b : BusName) (r : BusRec) : (p.setBus b r).wat = p.wat := by cases b <;> rfl
@[simp] theorem Part.setBus_clm (b : BusName) (r : BusRec) : (p.setBus b r).clm = p.clm := by cases b <;> rfl
@[simp] theorem Part.setBus_mot (b : BusName) (r : BusRec) : (p.setBus b r).mot = p.mot := by cases b <;> rfl
@[simp] theorem Part.setBus_lux (b : BusName) (r : BusRec) : (p.setBus b r).lux = p.lux := by cases b <;> rfl
@[simp] theorem Part.setBus_mdc (b : BusName) (r : BusRec) : (p.setBus b r).mdc = p.mdc := by cases b <;> rfl
@[simp] theorem Part.setBus_lnk (b : BusName) (r : BusRec) : (p.setBus b r).lnk = p.lnk := by cases b <;> rfl
@[simp] theorem Part.setBus_outbox (b : BusName) (r : BusRec) : (p.setBus b r).outbox = p.outbox := by cases b <;> rfl

/-! ### `Part.setChan` -/

@[simp] theorem Part.setChan_uptime (c : LoadId) (r : Channel) : (p.setChan c r).uptime = p.uptime := by rfl
@[simp] theorem Part.setChan_subSecond (c : LoadId) (r : Channel) : (p.setChan c r).subSecond = p.subSecond := by rfl
@[simp] theorem Part.setChan_params (c : LoadId) (r : Channel) : (p.setChan c r).params = p.params := by rfl
@[simp] theorem Part.setChan_bnk (c : LoadId) (r : Channel) : (p.setChan c r).bnk = p.bnk := by rfl
@[simp] theorem Part.setChan_chg (c : LoadId) (r : Channel) : (p.setChan c r).chg = p.chg := by rfl
@[simp] theorem Part.setChan_ldm (c : LoadId) (r : Channel) : (p.setChan c r).ldm = p.ldm := by rfl
@[simp] theorem Part.setChan_sli (c : LoadId) (r : Channel) : (p.setChan c r).sli = p.sli := by rfl
@[simp] theorem Part.setChan_wat (c : LoadId) (r : Channel) : (p.setChan c r).wat = p.wat := by rfl
@[simp] theorem Part.setChan_clm (c : LoadId) (r : Channel) : (p.setChan c r).clm = p.clm := by rfl
@[simp] theorem Part.setChan_mot (c : LoadId) (r : Channel) : (p.setChan c r).mot = p.mot := by rfl
@[simp] theorem Part.setChan_lux (c : LoadId) (r : Channel) : (p.setChan c r).lux = p.lux := by rfl
@[simp] theorem Part.setChan_mdc (c : LoadId) (r : Channel) : (p.setChan c r).mdc = p.mdc := by rfl
@[simp] theorem Part.setChan_lnk (c : LoadId) (r : Channel) : (p.setChan c r).lnk = p.lnk := by rfl
@[simp] theorem Part.setChan_outbox (c : LoadId) (r : Channel) : (p.setChan c r).outbox = p.outbox := by rfl

/-! ### `Part.setLine` -/

@[simp] theorem Part.setLine_uptime (s : LineId) (r : LineRec) : (p.setLine s r).uptime = p.uptime := by rfl
@[simp] theorem Part.setLine_subSecond (s : LineId) (r : LineRec) : (p.setLine s r).subSecond = p.subSecond := by rfl
@[simp] theorem Part.setLine_params (s : LineId) (r : LineRec) : (p.setLine s r).params = p.params := by rfl
@[simp] theorem Part.setLine_bnk (s : LineId) (r : LineRec) : (p.setLine s r).bnk = p.bnk := by rfl
@[simp] theorem Part.setLine_chg (s : LineId) (r : LineRec) : (p.setLine s r).chg = p.chg := by rfl
@[simp] theorem Part.setLine_ldm (s : LineId) (r : LineRec) : (p.setLine s r).ldm = p.ldm := by rfl
@[simp] theorem Part.setLine_out (s : LineId) (r : LineRec) : (p.setLine s r).out = p.out := by rfl
@[simp] theorem Part.setLine_wat (s : LineId) (r : LineRec) : (p.setLine s r).wat = p.wat := by rfl
@[simp] theorem Part.setLine_clm (s : LineId) (r : LineRec) : (p.setLine s r).clm = p.clm := by rfl
@[simp] theorem Part.setLine_mot (s : LineId) (r : LineRec) : (p.setLine s r).mot = p.mot := by rfl
@[simp] theorem Part.setLine_lux (s : LineId) (r : LineRec) : (p.setLine s r).lux = p.lux := by rfl
@[simp] theorem Part.setLine_mdc (s : LineId) (r : LineRec) : (p.setLine s r).mdc = p.mdc := by rfl
@[simp] theorem Part.setLine_lnk (s : LineId) (r : LineRec) : (p.setLine s r).lnk = p.lnk := by rfl
@[simp] theorem Part.setLine_outbox (s : LineId) (r : LineRec) : (p.setLine s r).outbox = p.outbox := by rfl

/-! ### `Part.setTank` -/

@[simp] theorem Part.setTank_uptime (t : Tank) (r : TankRec) : (p.setTank t r).uptime = p.uptime := by cases t <;> rfl
@[simp] theorem Part.setTank_subSecond (t : Tank) (r : TankRec) : (p.setTank t r).subSecond = p.subSecond := by cases t <;> rfl
@[simp] theorem Part.setTank_params (t : Tank) (r : TankRec) : (p.setTank t r).params = p.params := by cases t <;> rfl
@[simp] theorem Part.setTank_bnk (t : Tank) (r : TankRec) : (p.setTank t r).bnk = p.bnk := by cases t <;> rfl
@[simp] theorem Part.setTank_chg (t : Tank) (r : TankRec) : (p.setTank t r).chg = p.chg := by cases t <;> rfl
@[simp] theorem Part.setTank_ldm (t : Tank) (r : TankRec) : (p.setTank t r).ldm = p.ldm := by cases t <;> rfl
@[simp] theorem Part.setTank_out (t : Tank) (r : TankRec) : (p.setTank t r).out = p.out := by cases t <;> rfl
@[simp] theorem Part.setTank_sli (t : Tank) (r : TankRec) : (p.setTank t r).sli = p.sli := by cases t <;> rfl
@[simp] theorem Part.setTank_clm (t : Tank) (r : TankRec) : (p.setTank t r).clm = p.clm := by cases t <;> rfl
@[simp] theorem Part.setTank_mot (t : Tank) (r : TankRec) : (p.setTank t r).mot = p.mot := by cases t <;> rfl
@[simp] theorem Part.setTank_lux (t : Tank) (r : TankRec) : (p.setTank t r).lux = p.lux := by cases t <;> rfl
@[simp] theorem Part.setTank_mdc (t : Tank) (r : TankRec) : (p.setTank t r).mdc = p.mdc := by cases t <;> rfl
@[simp] theorem Part.setTank_lnk (t : Tank) (r : TankRec) : (p.setTank t r).lnk = p.lnk := by cases t <;> rfl
@[simp] theorem Part.setTank_outbox (t : Tank) (r : TankRec) : (p.setTank t r).outbox = p.outbox := by cases t <;> rfl

/-! ### `Part.setAxis` -/

@[simp] theorem Part.setAxis_uptime (a : Axis) (r : AxisRec) : (p.setAxis a r).uptime = p.uptime := by cases a <;> rfl
@[simp] theorem Part.setAxis_subSecond (a : Axis) (r : AxisRec) : (p.setAxis a r).subSecond = p.subSecond := by cases a <;> rfl
@[simp] theorem Part.setAxis_params (a : Axis) (r : AxisRec) : (p.setAxis a r).params = p.params := by cases a <;> rfl
@[simp] theorem Part.setAxis_bnk (a : Axis) (r : AxisRec) : (p.setAxis a r).bnk = p.bnk := by cases a <;> rfl
@[simp] theorem Part.setAxis_chg (a : Axis) (r : AxisRec) : (p.setAxis a r).chg = p.chg := by cases a <;> rfl
@[simp] theorem Part.setAxis_ldm (a : Axis) (r : AxisRec) : (p.setAxis a r).ldm = p.ldm := by cases a <;> rfl
@[simp] theorem Part.setAxis_out (a : Axis) (r : AxisRec) : (p.setAxis a r).out = p.out := by cases a <;> rfl
@[simp] theorem Part.setAxis_sli (a : Axis) (r : AxisRec) : (p.setAxis a r).sli = p.sli := by cases a <;> rfl
@[simp] theorem Part.setAxis_wat (a : Axis) (r : AxisRec) : (p.setAxis a r).wat = p.wat := by cases a <;> rfl
@[simp] theorem Part.setAxis_clm (a : Axis) (r : AxisRec) : (p.setAxis a r).clm = p.clm := by cases a <;> rfl
@[simp] theorem Part.setAxis_lux (a : Axis) (r : AxisRec) : (p.setAxis a r).lux = p.lux := by cases a <;> rfl
@[simp] theorem Part.setAxis_mdc (a : Axis) (r : AxisRec) : (p.setAxis a r).mdc = p.mdc := by cases a <;> rfl
@[simp] theorem Part.setAxis_lnk (a : Axis) (r : AxisRec) : (p.setAxis a r).lnk = p.lnk := by cases a <;> rfl
@[simp] theorem Part.setAxis_outbox (a : Axis) (r : AxisRec) : (p.setAxis a r).outbox = p.outbox := by cases a <;> rfl

/-! ### `Part.setLight` -/

@[simp] theorem Part.setLight_uptime (c : LightId) (r : LightRec) : (p.setLight c r).uptime = p.uptime := by rfl
@[simp] theorem Part.setLight_subSecond (c : LightId) (r : LightRec) : (p.setLight c r).subSecond = p.subSecond := by rfl
@[simp] theorem Part.setLight_params (c : LightId) (r : LightRec) : (p.setLight c r).params = p.params := by rfl
@[simp] theorem Part.setLight_bnk (c : LightId) (r : LightRec) : (p.setLight c r).bnk = p.bnk := by rfl
@[simp] theorem Part.setLight_chg (c : LightId) (r : LightRec) : (p.setLight c r).chg = p.chg := by rfl
@[simp] theorem Part.setLight_ldm (c : LightId) (r : LightRec) : (p.setLight c r).ldm = p.ldm := by rfl
@[simp] theorem Part.setLight_out (c : LightId) (r : LightRec) : (p.setLight c r).out = p.out := by rfl
@[simp] theorem Part.setLight_sli (c : LightId) (r : LightRec) : (p.setLight c r).sli = p.sli := by rfl
@[simp] theorem Part.setLight_wat (c : LightId) (r : LightRec) : (p.setLight c r).wat = p.wat := by rfl
@[simp] theorem Part.setLight_clm (c : LightId) (r : LightRec) : (p.setLight c r).clm = p.clm := by rfl
@[simp] theorem Part.setLight_mot (c : LightId) (r : LightRec) : (p.setLight c r).mot = p.mot := by rfl
@[simp] theorem Part.setLight_mdc (c : LightId) (r : LightRec) : (p.setLight c r).mdc = p.mdc := by rfl
@[simp] theorem Part.setLight_lnk (c : LightId) (r : LightRec) : (p.setLight c r).lnk = p.lnk := by rfl
@[simp] theorem Part.setLight_outbox (c : LightId) (r : LightRec) : (p.setLight c r).outbox = p.outbox := by rfl

/-! ### `Part.setSignal` -/

@[simp] theorem Part.setSignal_uptime (x : Signal) (r : SignalRec) : (p.setSignal x r).uptime = p.uptime := by rfl
@[simp] theorem Part.setSignal_subSecond (x : Signal) (r : SignalRec) : (p.setSignal x r).subSecond = p.subSecond := by rfl
@[simp] theorem Part.setSignal_params (x : Signal) (r : SignalRec) : (p.setSignal x r).params = p.params := by rfl
@[simp] theorem Part.setSignal_bnk (x : Signal) (r : SignalRec) : (p.setSignal x r).bnk = p.bnk := by rfl
@[simp] theorem Part.setSignal_chg (x : Signal) (r : SignalRec) : (p.setSignal x r).chg = p.chg := by rfl
@[simp] theorem Part.setSignal_ldm (x : Signal) (r : SignalRec) : (p.setSignal x r).ldm = p.ldm := by rfl
@[simp] theorem Part.setSignal_out (x : Signal) (r : SignalRec) : (p.setSignal x r).out = p.out := by rfl
@[simp] theorem Part.setSignal_sli (x : Signal) (r : SignalRec) : (p.setSignal x r).sli = p.sli := by rfl
@[simp] theorem Part.setSignal_wat (x : Signal) (r : SignalRec) : (p.setSignal x r).wat = p.wat := by rfl
@[simp] theorem Part.setSignal_clm (x : Signal) (r : SignalRec) : (p.setSignal x r).clm = p.clm := by rfl
@[simp] theorem Part.setSignal_mot (x : Signal) (r : SignalRec) : (p.setSignal x r).mot = p.mot := by rfl
@[simp] theorem Part.setSignal_lux (x : Signal) (r : SignalRec) : (p.setSignal x r).lux = p.lux := by rfl
@[simp] theorem Part.setSignal_lnk (x : Signal) (r : SignalRec) : (p.setSignal x r).lnk = p.lnk := by rfl
@[simp] theorem Part.setSignal_outbox (x : Signal) (r : SignalRec) : (p.setSignal x r).outbox = p.outbox := by rfl

/-! ### `Part.report` -/

@[simp] theorem Part.report_uptime (r : Report) : (p.report r).uptime = p.uptime := by rfl
@[simp] theorem Part.report_subSecond (r : Report) : (p.report r).subSecond = p.subSecond := by rfl
@[simp] theorem Part.report_params (r : Report) : (p.report r).params = p.params := by rfl
@[simp] theorem Part.report_bnk (r : Report) : (p.report r).bnk = p.bnk := by rfl
@[simp] theorem Part.report_chg (r : Report) : (p.report r).chg = p.chg := by rfl
@[simp] theorem Part.report_ldm (r : Report) : (p.report r).ldm = p.ldm := by rfl
@[simp] theorem Part.report_out (r : Report) : (p.report r).out = p.out := by rfl
@[simp] theorem Part.report_sli (r : Report) : (p.report r).sli = p.sli := by rfl
@[simp] theorem Part.report_wat (r : Report) : (p.report r).wat = p.wat := by rfl
@[simp] theorem Part.report_clm (r : Report) : (p.report r).clm = p.clm := by rfl
@[simp] theorem Part.report_mot (r : Report) : (p.report r).mot = p.mot := by rfl
@[simp] theorem Part.report_lux (r : Report) : (p.report r).lux = p.lux := by rfl
@[simp] theorem Part.report_mdc (r : Report) : (p.report r).mdc = p.mdc := by rfl
@[simp] theorem Part.report_lnk (r : Report) : (p.report r).lnk = p.lnk := by rfl

/-! ### `Part.markUnsaved` -/

@[simp] theorem Part.markUnsaved_uptime : (p.markUnsaved).uptime = p.uptime := by rfl
@[simp] theorem Part.markUnsaved_subSecond : (p.markUnsaved).subSecond = p.subSecond := by rfl
@[simp] theorem Part.markUnsaved_params : (p.markUnsaved).params = p.params := by rfl
@[simp] theorem Part.markUnsaved_bnk : (p.markUnsaved).bnk = p.bnk := by rfl
@[simp] theorem Part.markUnsaved_chg : (p.markUnsaved).chg = p.chg := by rfl
@[simp] theorem Part.markUnsaved_ldm : (p.markUnsaved).ldm = p.ldm := by rfl
@[simp] theorem Part.markUnsaved_out : (p.markUnsaved).out = p.out := by rfl
@[simp] theorem Part.markUnsaved_sli : (p.markUnsaved).sli = p.sli := by rfl
@[simp] theorem Part.markUnsaved_wat : (p.markUnsaved).wat = p.wat := by rfl
@[simp] theorem Part.markUnsaved_clm : (p.markUnsaved).clm = p.clm := by rfl
@[simp] theorem Part.markUnsaved_mot : (p.markUnsaved).mot = p.mot := by rfl
@[simp] theorem Part.markUnsaved_lux : (p.markUnsaved).lux = p.lux := by rfl
@[simp] theorem Part.markUnsaved_mdc : (p.markUnsaved).mdc = p.mdc := by rfl
@[simp] theorem Part.markUnsaved_outbox : (p.markUnsaved).outbox = p.outbox := by rfl

/-! ### Reading what was written -/

@[simp] theorem Part.bank_setBank (b : Bank) (r : BankRec) : (p.setBank b r).bank b = r := by cases b <;> rfl
theorem Part.bank_setBank_of_ne {b b' : Bank} (r : BankRec) (h : b' ≠ b) : (p.setBank b r).bank b' = p.bank b' := by
  cases b <;> cases b' <;> first | rfl | exact absurd rfl h

@[simp] theorem Part.load_setLoad (l : LoadId) (r : LoadRec) : (p.setLoad l r).load l = r := by
  simp [Part.load, Part.setLoad]
theorem Part.load_setLoad_of_ne {l l' : LoadId} (r : LoadRec) (h : l' ≠ l) : (p.setLoad l r).load l' = p.load l' := by
  have : l.val ≠ l'.val := fun e => h (Fin.ext e.symm)
  simp [Part.load, Part.setLoad, this]

@[simp] theorem Part.bus_setBus (b : BusName) (r : BusRec) : (p.setBus b r).bus b = r := by cases b <;> rfl
theorem Part.bus_setBus_of_ne {b b' : BusName} (r : BusRec) (h : b' ≠ b) : (p.setBus b r).bus b' = p.bus b' := by
  cases b <;> cases b' <;> first | rfl | exact absurd rfl h

@[simp] theorem Part.chan_setChan (c : LoadId) (r : Channel) : (p.setChan c r).chan c = r := by
  simp [Part.chan, Part.setChan]
theorem Part.chan_setChan_of_ne {c c' : LoadId} (r : Channel) (h : c' ≠ c) : (p.setChan c r).chan c' = p.chan c' := by
  have : c.val ≠ c'.val := fun e => h (Fin.ext e.symm)
  simp [Part.chan, Part.setChan, this]

@[simp] theorem Part.line_setLine (s : LineId) (r : LineRec) : (p.setLine s r).line s = r := by
  simp [Part.line, Part.setLine]
theorem Part.line_setLine_of_ne {s s' : LineId} (r : LineRec) (h : s' ≠ s) : (p.setLine s r).line s' = p.line s' := by
  have : s.val ≠ s'.val := fun e => h (Fin.ext e.symm)
  simp [Part.line, Part.setLine, this]

@[simp] theorem Part.tank_setTank (t : Tank) (r : TankRec) : (p.setTank t r).tank t = r := by cases t <;> rfl
theorem Part.tank_setTank_of_ne {t t' : Tank} (r : TankRec) (h : t' ≠ t) : (p.setTank t r).tank t' = p.tank t' := by
  cases t <;> cases t' <;> first | rfl | exact absurd rfl h

@[simp] theorem Part.axis_setAxis (a : Axis) (r : AxisRec) : (p.setAxis a r).axis a = r := by cases a <;> rfl
theorem Part.axis_setAxis_of_ne {a a' : Axis} (r : AxisRec) (h : a' ≠ a) : (p.setAxis a r).axis a' = p.axis a' := by
  cases a <;> cases a' <;> first | rfl | exact absurd rfl h

@[simp] theorem Part.light_setLight (c : LightId) (r : LightRec) : (p.setLight c r).light c = r := by
  simp [Part.light, Part.setLight]
theorem Part.light_setLight_of_ne {c c' : LightId} (r : LightRec) (h : c' ≠ c) :
    (p.setLight c r).light c' = p.light c' := by
  have : c.val ≠ c'.val := fun e => h (Fin.ext e.symm)
  simp [Part.light, Part.setLight, this]

@[simp] theorem Part.signal_setSignal (x : Signal) (r : SignalRec) : (p.setSignal x r).signal x = r := by
  cases x <;> rfl
theorem Part.signal_setSignal_of_ne {x x' : Signal} (r : SignalRec) (h : x' ≠ x) :
    (p.setSignal x r).signal x' = p.signal x' := by
  cases x <;> cases x' <;> first | rfl | exact absurd rfl h

/-! ### A read of one record after a write to another block -/

@[simp] theorem Part.setBank_load_read (b0 : Bank) (r : BankRec) (l : LoadId) : (p.setBank b0 r).load l = p.load l := by cases b0 <;> rfl
@[simp] theorem Part.setBank_bus_read (b0 : Bank) (r : BankRec) (n : BusName) : (p.setBank b0 r).bus n = p.bus n := by cases b0 <;> cases n <;> rfl
@[simp] theorem Part.setBank_chan_read (b0 : Bank) (r : BankRec) (k : LoadId) : (p.setBank b0 r).chan k = p.chan k := by cases b0 <;> rfl
@[simp] theorem Part.setBank_line_read (b0 : Bank) (r : BankRec) (z : LineId) : (p.setBank b0 r).line z = p.line z := by cases b0 <;> rfl
@[simp] theorem Part.setBank_tank_read (b0 : Bank) (r : BankRec) (y : Tank) : (p.setBank b0 r).tank y = p.tank y := by cases b0 <;> cases y <;> rfl
@[simp] theorem Part.setBank_axis_read (b0 : Bank) (r : BankRec) (e : Axis) : (p.setBank b0 r).axis e = p.axis e := by cases b0 <;> cases e <;> rfl
@[simp] theorem Part.setBank_light_read (b0 : Bank) (r : BankRec) (g : LightId) : (p.setBank b0 r).light g = p.light g := by cases b0 <;> rfl
@[simp] theorem Part.setBank_signal_read (b0 : Bank) (r : BankRec) (u : Signal) : (p.setBank b0 r).signal u = p.signal u := by cases b0 <;> cases u <;> rfl
@[simp] theorem Part.setLoad_bank_read (l : LoadId) (r : LoadRec) (b : Bank) : (p.setLoad l r).bank b = p.bank b := by cases b <;> rfl
@[simp] theorem Part.setLoad_bus_read (l : LoadId) (r : LoadRec) (n : BusName) : (p.setLoad l r).bus n = p.bus n := by cases n <;> rfl
@[simp] theorem Part.setLoad_chan_read (l : LoadId) (r : LoadRec) (k : LoadId) : (p.setLoad l r).chan k = p.chan k := by rfl
@[simp] theorem Part.setLoad_line_read (l : LoadId) (r : LoadRec) (z : LineId) : (p.setLoad l r).line z = p.line z := by rfl
@[simp] theorem Part.setLoad_tank_read (l : LoadId) (r : LoadRec) (y : Tank) : (p.setLoad l r).tank y = p.tank y := by cases y <;> rfl
@[simp] theorem Part.setLoad_axis_read (l : LoadId) (r : LoadRec) (e : Axis) : (p.setLoad l r).axis e = p.axis e := by cases e <;> rfl
@[simp] theorem Part.setLoad_light_read (l : LoadId) (r : LoadRec) (g : LightId) : (p.setLoad l r).light g = p.light g := by rfl
@[simp] theorem Part.setLoad_signal_read (l : LoadId) (r : LoadRec) (u : Signal) : (p.setLoad l r).signal u = p.signal u := by cases u <;> rfl
@[simp] theorem Part.setBus_bank_read (b0 : BusName) (r : BusRec) (b : Bank) : (p.setBus b0 r).bank b = p.bank b := by cases b0 <;> cases b <;> rfl
@[simp] theorem Part.setBus_load_read (b0 : BusName) (r : BusRec) (l : LoadId) : (p.setBus b0 r).load l = p.load l := by cases b0 <;> rfl
@[simp] theorem Part.setBus_chan_read (b0 : BusName) (r : BusRec) (k : LoadId) : (p.setBus b0 r).chan k = p.chan k := by cases b0 <;> rfl
@[simp] theorem Part.setBus_line_read (b0 : BusName) (r : BusRec) (z : LineId) : (p.setBus b0 r).line z = p.line z := by cases b0 <;> rfl
@[simp] theorem Part.setBus_tank_read (b0 : BusName) (r : BusRec) (y : Tank) : (p.setBus b0 r).tank y = p.tank y := by cases b0 <;> cases y <;> rfl
@[simp] theorem Part.setBus_axis_read (b0 : BusName) (r : BusRec) (e : Axis) : (p.setBus b0 r).axis e = p.axis e := by cases b0 <;> cases e <;> rfl
@[simp] theorem Part.setBus_light_read (b0 : BusName) (r : BusRec) (g : LightId) : (p.setBus b0 r).light g = p.light g := by cases b0 <;> rfl
@[simp] theorem Part.setBus_signal_read (b0 : BusName) (r : BusRec) (u : Signal) : (p.setBus b0 r).signal u = p.signal u := by cases b0 <;> cases u <;> rfl
@[simp] theorem Part.setChan_bank_read (c : LoadId) (r : Channel) (b : Bank) : (p.setChan c r).bank b = p.bank b := by cases b <;> rfl
@[simp] theorem Part.setChan_load_read (c : LoadId) (r : Channel) (l : LoadId) : (p.setChan c r).load l = p.load l := by rfl
@[simp] theorem Part.setChan_bus_read (c : LoadId) (r : Channel) (n : BusName) : (p.setChan c r).bus n = p.bus n := by cases n <;> rfl
@[simp] theorem Part.setChan_line_read (c : LoadId) (r : Channel) (z : LineId) : (p.setChan c r).line z = p.line z := by rfl
@[simp] theorem Part.setChan_tank_read (c : LoadId) (r : Channel) (y : Tank) : (p.setChan c r).tank y = p.tank y := by cases y <;> rfl
@[simp] theorem Part.setChan_axis_read (c : LoadId) (r : Channel) (e : Axis) : (p.setChan c r).axis e = p.axis e := by cases e <;> rfl
@[simp] theorem Part.setChan_light_read (c : LoadId) (r : Channel) (g : LightId) : (p.setChan c r).light g = p.light g := by rfl
@[simp] theorem Part.setChan_signal_read (c : LoadId) (r : Channel) (u : Signal) : (p.setChan c r).signal u = p.signal u := by cases u <;> rfl
@[simp] theorem Part.setLine_bank_read (s : LineId) (r : LineRec) (b : Bank) : (p.setLine s r).bank b = p.bank b := by cases b <;> rfl
@[simp] theorem Part.setLine_load_read (s : LineId) (r : LineRec) (l : LoadId) : (p.setLine s r).load l = p.load l := by rfl
@[simp] theorem Part.setLine_bus_read (s : LineId) (r : LineRec) (n : BusName) : (p.setLine s r).bus n = p.bus n := by cases n <;> rfl
@[simp] theorem Part.setLine_chan_read (s : LineId) (r : LineRec) (k : LoadId) : (p.setLine s r).chan k = p.chan k := by rfl
@[simp] theorem Part.setLine_tank_read (s : LineId) (r : LineRec) (y : Tank) : (p.setLine s r).tank y = p.tank y := by cases y <;> rfl
@[simp] theorem Part.setLine_axis_read (s : LineId) (r : LineRec) (e : Axis) : (p.setLine s r).axis e = p.axis e := by cases e <;> rfl
@[simp] theorem Part.setLine_light_read (s : LineId) (r : LineRec) (g : LightId) : (p.setLine s r).light g = p.light g := by rfl
@[simp] theorem Part.setLine_signal_read (s : LineId) (r : LineRec) (u : Signal) : (p.setLine s r).signal u = p.signal u := by cases u <;> rfl
@[simp] theorem Part.setTank_bank_read (t : Tank) (r : TankRec) (b : Bank) : (p.setTank t r).bank b = p.bank b := by cases t <;> cases b <;> rfl
@[simp] theorem Part.setTank_load_read (t : Tank) (r : TankRec) (l : LoadId) : (p.setTank t r).load l = p.load l := by cases t <;> rfl
@[simp] theorem Part.setTank_bus_read (t : Tank) (r : TankRec) (n : BusName) : (p.setTank t r).bus n = p.bus n := by cases t <;> cases n <;> rfl
@[simp] theorem Part.setTank_chan_read (t : Tank) (r : TankRec) (k : LoadId) : (p.setTank t r).chan k = p.chan k := by cases t <;> rfl
@[simp] theorem Part.setTank_line_read (t : Tank) (r : TankRec) (z : LineId) : (p.setTank t r).line z = p.line z := by cases t <;> rfl
@[simp] theorem Part.setTank_axis_read (t : Tank) (r : TankRec) (e : Axis) : (p.setTank t r).axis e = p.axis e := by cases t <;> cases e <;> rfl
@[simp] theorem Part.setTank_light_read (t : Tank) (r : TankRec) (g : LightId) : (p.setTank t r).light g = p.light g := by cases t <;> rfl
@[simp] theorem Part.setTank_signal_read (t : Tank) (r : TankRec) (u : Signal) : (p.setTank t r).signal u = p.signal u := by cases t <;> cases u <;> rfl
@[simp] theorem Part.setAxis_bank_read (a : Axis) (r : AxisRec) (b : Bank) : (p.setAxis a r).bank b = p.bank b := by cases a <;> cases b <;> rfl
@[simp] theorem Part.setAxis_load_read (a : Axis) (r : AxisRec) (l : LoadId) : (p.setAxis a r).load l = p.load l := by cases a <;> rfl
@[simp] theorem Part.setAxis_bus_read (a : Axis) (r : AxisRec) (n : BusName) : (p.setAxis a r).bus n = p.bus n := by cases a <;> cases n <;> rfl
@[simp] theorem Part.setAxis_chan_read (a : Axis) (r : AxisRec) (k : LoadId) : (p.setAxis a r).chan k = p.chan k := by cases a <;> rfl
@[simp] theorem Part.setAxis_line_read (a : Axis) (r : AxisRec) (z : LineId) : (p.setAxis a r).line z = p.line z := by cases a <;> rfl
@[simp] theorem Part.setAxis_tank_read (a : Axis) (r : AxisRec) (y : Tank) : (p.setAxis a r).tank y = p.tank y := by cases a <;> cases y <;> rfl
@[simp] theorem Part.setAxis_light_read (a : Axis) (r : AxisRec) (g : LightId) : (p.setAxis a r).light g = p.light g := by cases a <;> rfl
@[simp] theorem Part.setAxis_signal_read (a : Axis) (r : AxisRec) (u : Signal) : (p.setAxis a r).signal u = p.signal u := by cases a <;> cases u <;> rfl
@[simp] theorem Part.setLight_bank_read (c : LightId) (r : LightRec) (b : Bank) : (p.setLight c r).bank b = p.bank b := by cases b <;> rfl
@[simp] theorem Part.setLight_load_read (c : LightId) (r : LightRec) (l : LoadId) : (p.setLight c r).load l = p.load l := by rfl
@[simp] theorem Part.setLight_bus_read (c : LightId) (r : LightRec) (n : BusName) : (p.setLight c r).bus n = p.bus n := by cases n <;> rfl
@[simp] theorem Part.setLight_chan_read (c : LightId) (r : LightRec) (k : LoadId) : (p.setLight c r).chan k = p.chan k := by rfl
@[simp] theorem Part.setLight_line_read (c : LightId) (r : LightRec) (z : LineId) : (p.setLight c r).line z = p.line z := by rfl
@[simp] theorem Part.setLight_tank_read (c : LightId) (r : LightRec) (y : Tank) : (p.setLight c r).tank y = p.tank y := by cases y <;> rfl
@[simp] theorem Part.setLight_axis_read (c : LightId) (r : LightRec) (e : Axis) : (p.setLight c r).axis e = p.axis e := by cases e <;> rfl
@[simp] theorem Part.setLight_signal_read (c : LightId) (r : LightRec) (u : Signal) : (p.setLight c r).signal u = p.signal u := by cases u <;> rfl
@[simp] theorem Part.setSignal_bank_read (x : Signal) (r : SignalRec) (b : Bank) : (p.setSignal x r).bank b = p.bank b := by cases b <;> rfl
@[simp] theorem Part.setSignal_load_read (x : Signal) (r : SignalRec) (l : LoadId) : (p.setSignal x r).load l = p.load l := by rfl
@[simp] theorem Part.setSignal_bus_read (x : Signal) (r : SignalRec) (n : BusName) : (p.setSignal x r).bus n = p.bus n := by cases n <;> rfl
@[simp] theorem Part.setSignal_chan_read (x : Signal) (r : SignalRec) (k : LoadId) : (p.setSignal x r).chan k = p.chan k := by rfl
@[simp] theorem Part.setSignal_line_read (x : Signal) (r : SignalRec) (z : LineId) : (p.setSignal x r).line z = p.line z := by rfl
@[simp] theorem Part.setSignal_tank_read (x : Signal) (r : SignalRec) (y : Tank) : (p.setSignal x r).tank y = p.tank y := by cases y <;> rfl
@[simp] theorem Part.setSignal_axis_read (x : Signal) (r : SignalRec) (e : Axis) : (p.setSignal x r).axis e = p.axis e := by cases e <;> rfl
@[simp] theorem Part.setSignal_light_read (x : Signal) (r : SignalRec) (g : LightId) : (p.setSignal x r).light g = p.light g := by rfl
@[simp] theorem Part.report_bank_read (r : Report) (b : Bank) : (p.report r).bank b = p.bank b := by cases b <;> rfl
@[simp] theorem Part.report_load_read (r : Report) (l : LoadId) : (p.report r).load l = p.load l := by rfl
@[simp] theorem Part.report_bus_read (r : Report) (n : BusName) : (p.report r).bus n = p.bus n := by cases n <;> rfl
@[simp] theorem Part.report_chan_read (r : Report) (k : LoadId) : (p.report r).chan k = p.chan k := by rfl
@[simp] theorem Part.report_line_read (r : Report) (z : LineId) : (p.report r).line z = p.line z := by rfl
@[simp] theorem Part.report_tank_read (r : Report) (y : Tank) : (p.report r).tank y = p.tank y := by cases y <;> rfl
@[simp] theorem Part.report_axis_read (r : Report) (e : Axis) : (p.report r).axis e = p.axis e := by cases e <;> rfl
@[simp] theorem Part.report_light_read (r : Report) (g : LightId) : (p.report r).light g = p.light g := by rfl
@[simp] theorem Part.report_signal_read (r : Report) (u : Signal) : (p.report r).signal u = p.signal u := by cases u <;> rfl
@[simp] theorem Part.markUnsaved_bank_read (b : Bank) : (p.markUnsaved).bank b = p.bank b := by cases b <;> rfl
@[simp] theorem Part.markUnsaved_load_read (l : LoadId) : (p.markUnsaved).load l = p.load l := by rfl
@[simp] theorem Part.markUnsaved_bus_read (n : BusName) : (p.markUnsaved).bus n = p.bus n := by cases n <;> rfl
@[simp] theorem Part.markUnsaved_chan_read (k : LoadId) : (p.markUnsaved).chan k = p.chan k := by rfl
@[simp] theorem Part.markUnsaved_line_read (z : LineId) : (p.markUnsaved).line z = p.line z := by rfl
@[simp] theorem Part.markUnsaved_tank_read (y : Tank) : (p.markUnsaved).tank y = p.tank y := by cases y <;> rfl
@[simp] theorem Part.markUnsaved_axis_read (e : Axis) : (p.markUnsaved).axis e = p.axis e := by cases e <;> rfl
@[simp] theorem Part.markUnsaved_light_read (g : LightId) : (p.markUnsaved).light g = p.light g := by rfl
@[simp] theorem Part.markUnsaved_signal_read (u : Signal) : (p.markUnsaved).signal u = p.signal u := by cases u <;> rfl

/-! ### `Part.post` changes the notice queue and NOTICE_LOST only -/

@[simp] theorem Part.post_uptime (k : NoticeKind) (n : Nat) (d : List Byte) : (p.post k n d).uptime = p.uptime := by
  unfold Part.post; split <;> rfl
@[simp] theorem Part.post_subSecond (k : NoticeKind) (n : Nat) (d : List Byte) : (p.post k n d).subSecond = p.subSecond := by
  unfold Part.post; split <;> rfl
@[simp] theorem Part.post_params (k : NoticeKind) (n : Nat) (d : List Byte) : (p.post k n d).params = p.params := by
  unfold Part.post; split <;> rfl
@[simp] theorem Part.post_bnk (k : NoticeKind) (n : Nat) (d : List Byte) : (p.post k n d).bnk = p.bnk := by
  unfold Part.post; split <;> rfl
@[simp] theorem Part.post_chg (k : NoticeKind) (n : Nat) (d : List Byte) : (p.post k n d).chg = p.chg := by
  unfold Part.post; split <;> rfl
@[simp] theorem Part.post_ldm (k : NoticeKind) (n : Nat) (d : List Byte) : (p.post k n d).ldm = p.ldm := by
  unfold Part.post; split <;> rfl
@[simp] theorem Part.post_out (k : NoticeKind) (n : Nat) (d : List Byte) : (p.post k n d).out = p.out := by
  unfold Part.post; split <;> rfl
@[simp] theorem Part.post_sli (k : NoticeKind) (n : Nat) (d : List Byte) : (p.post k n d).sli = p.sli := by
  unfold Part.post; split <;> rfl
@[simp] theorem Part.post_wat (k : NoticeKind) (n : Nat) (d : List Byte) : (p.post k n d).wat = p.wat := by
  unfold Part.post; split <;> rfl
@[simp] theorem Part.post_clm (k : NoticeKind) (n : Nat) (d : List Byte) : (p.post k n d).clm = p.clm := by
  unfold Part.post; split <;> rfl
@[simp] theorem Part.post_mot (k : NoticeKind) (n : Nat) (d : List Byte) : (p.post k n d).mot = p.mot := by
  unfold Part.post; split <;> rfl
@[simp] theorem Part.post_lux (k : NoticeKind) (n : Nat) (d : List Byte) : (p.post k n d).lux = p.lux := by
  unfold Part.post; split <;> rfl
@[simp] theorem Part.post_mdc (k : NoticeKind) (n : Nat) (d : List Byte) : (p.post k n d).mdc = p.mdc := by
  unfold Part.post; split <;> rfl
@[simp] theorem Part.post_outbox (k : NoticeKind) (n : Nat) (d : List Byte) : (p.post k n d).outbox = p.outbox := by
  unfold Part.post; split <;> rfl
@[simp] theorem Part.post_bank_read (k : NoticeKind) (n : Nat) (d : List Byte) (b : Bank) : (p.post k n d).bank b = p.bank b := by
  unfold Part.post; split <;> rfl
@[simp] theorem Part.post_load_read (k : NoticeKind) (n : Nat) (d : List Byte) (l : LoadId) : (p.post k n d).load l = p.load l := by
  unfold Part.post; split <;> rfl
@[simp] theorem Part.post_bus_read (k : NoticeKind) (n : Nat) (d : List Byte) (n0 : BusName) : (p.post k n d).bus n0 = p.bus n0 := by
  unfold Part.post; split <;> rfl
@[simp] theorem Part.post_chan_read (k : NoticeKind) (n : Nat) (d : List Byte) (k0 : LoadId) : (p.post k n d).chan k0 = p.chan k0 := by
  unfold Part.post; split <;> rfl
@[simp] theorem Part.post_line_read (k : NoticeKind) (n : Nat) (d : List Byte) (z : LineId) : (p.post k n d).line z = p.line z := by
  unfold Part.post; split <;> rfl
@[simp] theorem Part.post_tank_read (k : NoticeKind) (n : Nat) (d : List Byte) (y : Tank) : (p.post k n d).tank y = p.tank y := by
  unfold Part.post; split <;> rfl
@[simp] theorem Part.post_axis_read (k : NoticeKind) (n : Nat) (d : List Byte) (e : Axis) : (p.post k n d).axis e = p.axis e := by
  unfold Part.post; split <;> rfl
@[simp] theorem Part.post_light_read (k : NoticeKind) (n : Nat) (d : List Byte) (g : LightId) : (p.post k n d).light g = p.light g := by
  unfold Part.post; split <;> rfl
@[simp] theorem Part.post_signal_read (k : NoticeKind) (n : Nat) (d : List Byte) (u : Signal) : (p.post k n d).signal u = p.signal u := by
  unfold Part.post; split <;> rfl

end Sys2Proof.Machine
end

