-- ==== Sys2Proof/Laws/Events.lean ====
section
/-! SUPPORT. What every command has in common: it is an event of the part, its reports are delivered, and an idle transmitter
chooses. A claim about a command is reduced by these lemmas to a claim about the work of its block. -/

namespace Sys2Proof.Machine

/-- With no report waiting, nothing is delivered. -/
theorem Part.delivered_of_empty {p : Part} (h : p.outbox = []) : p.delivered = p := by
  unfold Part.delivered
  rw [Part.deliver.eq_def]
  simp [h]

/-- After the delivery no report waits. -/
theorem Part.deliver_outbox (n : Nat) (p : Part) : (Part.deliver n p).outbox = [] := by
  induction n generalizing p with
  | zero => rfl
  | succ n ih =>
    unfold Part.deliver
    split
    · assumption
    · exact ih _

theorem Part.delivered_outbox (p : Part) : p.delivered.outbox = [] := Part.deliver_outbox 64 p

/-- The dry check touches the dry timer only. -/
theorem Part.dryCheck_cases (p : Part) :
    (p.dryHolds = true ∧ p.dryCheck = p) ∨
    (p.dryHolds = false ∧ p.dryCheck = { p with wat := { p.wat with dryTimer := 0 } }) := by
  unfold Part.dryCheck
  cases h : p.dryHolds <;> simp

/-- While no threshold write waits, the dry check goes by the dry condition (R135). -/
theorem Part.dryHolds_of_judged {p : Part} (h : p.wat.dryWritten = false) : p.dryHolds = p.dryCondition := by
  simp [Part.dryHolds, Part.dryCondition, h]

@[simp] theorem Part.dryCheck_outbox (p : Part) : p.dryCheck.outbox = p.outbox := by
  unfold Part.dryCheck; split <;> rfl
@[simp] theorem Part.dryCheck_lnk (p : Part) : p.dryCheck.lnk = p.lnk := by unfold Part.dryCheck; split <;> rfl

/-- The transmitter changes the Control Link only. -/
theorem Part.transmit_only_link (p : Part) : ∃ k, p.transmit = { p with lnk := k } := by
  unfold Part.transmit Part.sendSegment
  (repeat' split) <;> exact ⟨_, rfl⟩

/-- A busy transmitter takes nothing. -/
theorem Part.transmit_of_busy {p : Part} {f : TxFrame} (h : p.lnk.tx = some f) : p.transmit = p := by
  unfold Part.transmit; simp [h]

/-- With nothing waiting the transmitter takes nothing. -/
theorem Part.transmit_of_nothing {p : Part} (hi : p.lnk.immediate = none) (hr : p.lnk.reply = none)
    (hn : p.lnk.notices = []) : p.transmit = p := by
  unfold Part.transmit
  simp only [hi, hr, hn]
  split <;> rfl

/-- A settled part stays as it is at the end of an event. -/
theorem Part.finish_of_settled {p : Part} (h : p.Settled) : p.finish = p := by
  obtain ⟨ho, ht, hd⟩ := h
  unfold Part.finish
  rw [Part.delivered_of_empty ho]
  have : p.dryCheck = p := by
    rcases p.dryCheck_cases with ⟨_, e⟩ | ⟨c, e⟩
    · exact e
    · rw [e]; simp [← hd c]
  rw [this]
  cases h : p.lnk.tx with
  | none => obtain ⟨a, b, c⟩ := ht h; exact Part.transmit_of_nothing a b c
  | some f => exact Part.transmit_of_busy h

/-- A request row is its request, taken as an event. -/
theorem exec_of_request {i : Instr} {r : Request} (s : State) (h : i.request? = some r) : exec i s = s.request r := by
  cases i <;> simp only [Instr.request?, Option.some.injEq, reduceCtorEq] at h <;> subst h <;> rfl

/-- An event whose work leaves no report leads to the result of its work. -/
theorem leadsTo_of_event {i : Instr} {s : State} {f : Part → Part} {q : Part} (h : exec i s = s.event f) (hf : f s.part = q)
    (ho : q.outbox = []) : LeadsTo i s q := by
  unfold LeadsTo
  rw [h]
  simp only [State.event, Part.finish, hf, Part.delivered_of_empty ho]

/-- A request that the part can dispatch at once. -/
theorem Part.takeRequest_of_ready {p : Part} (h : p.Ready) (r : Request) :
    p.takeRequest r = ({ p with lnk := { p.lnk with requests := [r] } }).dispatchHead r := by
  obtain ⟨_, hs, hq, hf, hr⟩ := h
  simp [Part.takeRequest, Part.dispatch, Part.canDispatch, hs, hq, hf, hr]

/-- A request that its block answers at once: what the block made of the part, with the reply in the slot. -/
theorem replies_of_handle {i : Instr} {r : Request} {s : State} {e : Part} {st : Status} {payload : Part → List Byte}
    (hr : s.part.Ready) (hi : i.request? = some r)
    (hh : ({ s.part with lnk := { s.part.lnk with requests := [r] } }).handle r = ⟨e, some (st, payload)⟩)
    (ho : e.outbox = []) (hq : e.lnk.requests = [r]) (hf : e.lnk.inFlight = false) :
    Replies i s ({ e with lnk := { e.lnk with requests := [] } }) st (payload e) := by
  refine ⟨r, hi, leadsTo_of_event (exec_of_request s hi) ?_ ?_⟩
  · rw [Part.takeRequest_of_ready hr]
    simp [Part.dispatchHead, hh, Part.delivered_of_empty ho, Part.formReply, Part.withReply, hq, hf]
  · simpa [Part.withReply] using ho

/-- A refusal: nothing but the reply. -/
theorem replies_of_refusal {i : Instr} {r : Request} {s : State} {st : Status} {payload : Part → List Byte}
    (hr : s.part.Ready) (hi : i.request? = some r)
    (hh : ({ s.part with lnk := { s.part.lnk with requests := [r] } }).handle r =
      ⟨{ s.part with lnk := { s.part.lnk with requests := [r] } }, some (st, payload)⟩) :
    Replies i s s.part st (payload { s.part with lnk := { s.part.lnk with requests := [r] } }) := by
  have h := replies_of_handle hr hi hh hr.1 rfl hr.2.2.2.1
  have e : ({ s.part with lnk := { s.part.lnk with requests := [] } } : Part) = s.part := by
    conv_rhs => rw [show s.part = { s.part with lnk := { s.part.lnk with requests := s.part.lnk.requests } } from rfl]
    rw [hr.2.2.1]
  simpa [e] using h

end Sys2Proof.Machine
end

