-- ==== Sys2Proof/Laws/Operations.lean ====
section
/-! SUPPORT. What each shared operation can do, said once: the one block that it changes, or the exact part that it leaves. A
claim about a command cites these and unfolds none of them. -/

namespace Sys2Proof.Machine

variable (p : Part)

/-! ### Notices (R211) -/

/-- A posting that meets its own kind and subject replaces the data in place. -/
theorem enqueueNotice_of_present {q : List Notice} {n : Notice} (h : q.any (Notice.isFor n.kind n.subject) = true) :
    enqueueNotice q n = (q.map fun m => if m.isFor n.kind n.subject then n else m, false) := by
  simp [enqueueNotice, h]

/-- A new posting joins the tail of a queue of less than 16, or is dropped. -/
theorem enqueueNotice_of_absent {q : List Notice} {n : Notice} (h : q.any (Notice.isFor n.kind n.subject) = false) :
    enqueueNotice q n = if q.length < 16 then (q ++ [n], false) else (q, true) := by
  simp [enqueueNotice, h]

/-- Replacing a notice by one of its kind and subject keeps every kind and subject. -/
theorem enqueueNotice_kinds {q : List Notice} {n : Notice} :
    ((q.map fun m => if m.isFor n.kind n.subject then n else m).map fun m => (m.kind, m.subject)) =
      q.map fun m => (m.kind, m.subject) := by
  simp only [List.map_map]
  refine List.map_congr_left fun m _ => ?_
  simp only [Function.comp]
  split
  next h => simp_all [Notice.isFor]
  next => rfl

/-- Two notices of different kind or subject, said by their pairs. -/
theorem noticesOk_iff {q : List Notice} :
    NoticesOk q ↔ q.length ≤ 16 ∧ (q.map fun m => (m.kind, m.subject)).Pairwise (· ≠ ·) := by
  simp [NoticesOk, Notice.clash, List.pairwise_map, Prod.ext_iff]

/-- A posting keeps the notice queue within its bounds. -/
theorem NoticesOk.enqueue {q : List Notice} (h : NoticesOk q) (n : Notice) : NoticesOk (enqueueNotice q n).1 := by
  cases hp : q.any (Notice.isFor n.kind n.subject) with
  | true =>
    rw [enqueueNotice_of_present hp, noticesOk_iff, enqueueNotice_kinds]
    obtain ⟨hl, hd⟩ := noticesOk_iff.1 h
    exact ⟨by simpa using hl, hd⟩
  | false =>
    rw [enqueueNotice_of_absent hp]
    split
    next hl =>
      refine ⟨by simp; omega, List.pairwise_append.2 ⟨h.2, List.pairwise_singleton _ _, fun a ha b hb => ?_⟩⟩
      obtain rfl := List.mem_singleton.1 hb
      intro hc
      have := List.any_eq_false.1 hp a ha
      simp [Notice.isFor, hc.1, hc.2] at this
    next => exact h

/-- `post` changes the Control Link only, in its notice queue and NOTICE_LOST. -/
theorem Part.post_cases (k : NoticeKind) (n : Nat) (d : List Byte) :
    ∃ q lost, p.post k n d = { p with lnk := { p.lnk with notices := q, noticeLost := lost } } ∧
      (NoticesOk p.lnk.notices → NoticesOk q) := by
  unfold Part.post
  split
  · exact ⟨_, _, rfl, fun h => h.enqueue _⟩
  · exact ⟨_, _, rfl, id⟩

/-! ### The Output Monitor (R78 to R83) -/

/-- A posting keeps the spot queue within its bounds (R82). -/
theorem SpotOk.post {q : List SpotEntry} (h : SpotOk q) (c : LoadId) (host check : Bool) :
    SpotOk (postSpotEntry q c host check) := by
  unfold postSpotEntry
  split
  next =>
    refine ⟨by simpa using h.1, List.pairwise_map.2 (h.2.imp fun {a b} hab => ?_)⟩
    split <;> split <;> simp_all
  next hn =>
    split
    next hl =>
      refine ⟨by simp; omega, List.pairwise_append.2 ⟨h.2, List.pairwise_singleton _ _, fun a ha b hb => ?_⟩⟩
      obtain rfl := List.mem_singleton.1 hb
      have := List.any_eq_false.1 (Bool.not_eq_true _ ▸ hn) a ha
      simpa using this
    next => exact h

/-- The arbiter changes the Output Monitor only, and a spot queue within its bounds stays so. -/
theorem Part.arbiter_cases : ∃ o, p.arbiter = { p with out := o } ∧ (SpotOk p.out.spotQueue → SpotOk o.spotQueue) := by
  unfold Part.arbiter Part.grantSweep Part.grant
  split
  · exact ⟨_, rfl, id⟩
  · split
    · split <;> exact ⟨_, rfl, id⟩
    · split
      · exact ⟨_, rfl, id⟩
      · split
        next e rest hq =>
          refine ⟨_, rfl, fun h => ?_⟩
          rw [hq] at h
          exact ⟨by have := h.1; simp at this ⊢; omega, h.2.tail⟩
        next => split <;> exact ⟨_, rfl, id⟩

/-- Posting a switch-on check changes the Output Monitor only. -/
theorem Part.postCheck_cases (c : LoadId) :
    ∃ o, p.postCheck c = { p with out := o } ∧ (SpotOk p.out.spotQueue → SpotOk o.spotQueue) := by
  unfold Part.postCheck
  split
  · exact ⟨_, rfl, id⟩
  · obtain ⟨o, h, k⟩ := ({ p with out := { p.out with
      spotQueue := postSpotEntry p.out.spotQueue c false true } } : Part).arbiter_cases
    exact ⟨o, h, fun hs => k (hs.post c false true)⟩

/-- Posting a tracking measurement changes the Output Monitor only. -/
theorem Part.postTracking_cases (c : LoadId) :
    ∃ o, p.postTracking c = { p with out := o } ∧ (SpotOk p.out.spotQueue → SpotOk o.spotQueue) := by
  unfold Part.postTracking
  split
  · exact ⟨_, rfl, id⟩
  · exact ({ p with out := { p.out with trackingSlot := some c } } : Part).arbiter_cases

/-- An off order changes the Output Monitor only, and leaves the spot queue. -/
theorem Part.orderOff_cases (c : LoadId) : ∃ o, p.orderOff c = { p with out := o } ∧ o.spotQueue = p.out.spotQueue := by
  unfold Part.orderOff Part.setSwitching Part.setChan
  split <;> exact ⟨_, rfl, rfl⟩

/-- An on order changes the Output Monitor only, or reports a trip to the block that ordered. -/
theorem Part.orderOn_cases (c : LoadId) :
    (∃ o, p.orderOn c = { p with out := o } ∧ (SpotOk p.out.spotQueue → SpotOk o.spotQueue)) ∨
    ((p.chan c).switching = .tripped ∧ p.orderOn c = p.report (.tripped c)) := by
  cases h : (p.chan c).switching with
  | on => exact .inl ⟨p.out, by simp [Part.orderOn, h], id⟩
  | tripped => exact .inr ⟨rfl, by simp [Part.orderOn, h]⟩
  | off =>
    left
    obtain ⟨o, e, k⟩ := ((p.setSwitching c .on).setChan c
      (((p.setSwitching c .on).chan c).switchedOn c)).postCheck_cases c
    refine ⟨o, ?_, k⟩
    simp only [Part.orderOn, h]
    exact e

/-! ### The Load Manager's lists and records (R50 to R52) -/

/-- A load leaves the on-list of one bus; no other record changes. -/
theorem Part.leaveList_eq (b : BusName) (l : LoadId) :
    p.leaveList b l = p.setBus b { p.bus b with onList := (p.bus b).onList.filter (· != l) } := rfl

/-- The depth judgement sets or clears one depth mark, with a SHED_DEPTH notice where it sets it. -/
theorem Part.depthJudge_cases (b : BusName) :
    (p.depthJudge b = p ∧ (p.bus b).depthMark = true) ∨
    (p.depthJudge b = (p.setBus b { p.bus b with depthMark := true }).postDepth b ∧
      busWarnOf p.params b ≤ (p.bus b).stack.length ∧ (p.bus b).depthMark = false) ∨
    (p.depthJudge b = p.setBus b { p.bus b with depthMark := false } ∧ (p.bus b).stack.length < busWarnOf p.params b) := by
  by_cases h : busWarnOf p.params b ≤ (p.bus b).stack.length
  · cases hm : (p.bus b).depthMark with
    | true => exact .inl ⟨by simp [Part.depthJudge, h, hm], rfl⟩
    | false => exact .inr (.inl ⟨by simp [Part.depthJudge, h, hm], h, rfl⟩)
  · exact .inr (.inr ⟨by simp [Part.depthJudge, h], by omega⟩)

/-- The Load Manager's off order is an off order of the output, but for a light. -/
theorem Part.ldmOff_cases (l : LoadId) : p.ldmOff l = p ∨ p.ldmOff l = p.orderOff l := by
  unfold Part.ldmOff; split <;> simp

/-- The Load Manager's on order is an on order of the output, but for a light or a motor. -/
theorem Part.ldmOn_cases (l : LoadId) : p.ldmOn l = p ∨ p.ldmOn l = p.orderOn l := by
  unfold Part.ldmOn; split <;> simp

/-! ### The Motion Unit (R169, R176) -/

/-- A restated notice is a posting in the Control Link; an axis without the active slot is left. -/
theorem Part.restated_cases (a : Axis) :
    p.restated a = p ∨ (p.mot.active.any (·.axis == a) = true ∧ ∃ r, p.restated a = p.postMotion a r) := by
  unfold Part.restated
  split
  · split
    · exact .inr ⟨‹_›, _, rfl⟩
    · exact .inl rfl
  · exact .inl rfl

/-- With nothing pending, step 5 of an ending that leaves the active slot empty changes nothing. -/
theorem Part.stepFive_of_empty (a : Axis) (ha : p.mot.active = none) (hp : p.mot.pend = none) : p.stepFive a = p := by
  unfold Part.stepFive Part.takePending Part.restated
  simp only [ha, hp]
  split <;> simp

/-! ### The Light Unit (R179, R180) -/

/-- A new present level changes one light record and, unless its output is exercised, one duty. -/
theorem Part.setPresent_cases (c : LightId) (level : Nat) :
    ∃ o, p.setPresent c level = { p.setLight c { p.light c with present := level } with out := o } ∧
      o.spotQueue = p.out.spotQueue := by
  unfold Part.setPresent Part.setDuty Part.setChan
  simp only
  split <;> exact ⟨_, rfl, rfl⟩

/-- One fade step never passes the fade end. -/
theorem fadeStepped_between (present fadeEnd step : Nat) :
    (present ≤ fadeEnd → present ≤ fadeStepped present fadeEnd step ∧ fadeStepped present fadeEnd step ≤ fadeEnd) ∧
    (fadeEnd ≤ present → fadeEnd ≤ fadeStepped present fadeEnd step ∧ fadeStepped present fadeEnd step ≤ present) := by
  unfold fadeStepped
  constructor <;> intro h <;> split <;> omega

/-! ### Sensor lines (R117) -/

/-- An observation that shows 2 mA or more on an ON line sets the open timer to 0 and keeps the rest. -/
theorem LineRec.observed_of_high {r : LineRec} {current peak : Nat} (hs : r.supply = .on) (h : 20 ≤ peak) :
    r.observed current peak = { r with current := current, openTimer := 0 } := by
  simp [LineRec.observed, hs, h]

/-- An observation below 2 mA, or of a line that is not ON, changes the current only. -/
theorem LineRec.observed_of_low {r : LineRec} {current peak : Nat} (h : r.supply = .on → peak < 20) :
    r.observed current peak = { r with current := current } := by
  have h : ¬ (r.supply = .on ∧ 20 ≤ peak) := fun ⟨hs, hp⟩ => absurd (h hs) (by omega)
  simp [LineRec.observed, h]

/-- A rise above a threshold of 19 line units or more shows 2 mA, which on an ON line sets the open timer to 0. -/
theorem LineRec.raised_of_on {r : LineRec} {threshold : Nat} (hs : r.supply = .on) (h : 19 ≤ threshold) :
    r.raised threshold = { r with current := max r.current (threshold + 1), openTimer := 0, windowBase := false } := by
  simp [LineRec.raised, LineRec.observed_of_high hs (show 20 ≤ max r.current (threshold + 1) by omega)]

end Sys2Proof.Machine
end

