-- ==== Sys2Proof/Tests/Slice0.lean ====
section
/-! SUPPORT. Tests. First the worked cases and tables of the spec, each test one command on a small state, its expected values the
spec's own; then the well-formedness checks, each with a term it refuses; then, for every statement with hypotheses, a theorem
`witness_<Name>` that shows for each clause a state and operands that meet all its hypotheses, at boundary values of the operands
where the clause has a range. -/

open Sys2Proof Sys2Proof.Machine

namespace Sys2Proof.Tests

/-! ### States to test on -/

/-- The part in ACTIVE, calibrated, both buses at 100 % and 13 V, the frost guard OFF, every setting at its default. -/
def calm : Part := { Part.reset with
  mdc := { Mdc.reset with mode := .active, settings := some .loaded, bankDone := true, zeroDone := true }
  out := { Out.reset with zeroPass := none }
  chg := { Chg.reset with calHold := false }
  clm := { Clm.reset with guard := .off }
  wat := { Wat.reset with dumped := false }
  ldm := { Ldm.reset with
    busA := { BusRec.reset with soc := 1000, voltage := some 13000 }
    busB := { BusRec.reset with soc := 1000, voltage := some 13000 } } }

/-- The state of a part with no command waiting. -/
def st (p : Part) : State := ⟨p, []⟩
/-- The part in ACTIVE. -/
def active : State := st calm
/-- The part in START. -/
def starting : State := st { calm with mdc := { calm.mdc with mode := .start } }
/-- The part in STORAGE. -/
def storing : State := st { calm with mdc := { calm.mdc with mode := .storage } }
/-- The part in SERVICE. -/
def service : State := st { calm with mdc := { calm.mdc with mode := .service } }

end Sys2Proof.Tests

namespace Sys2Proof.Machine

/-- Test helper: a load given the role of a code (1 pump, 2 heater, 3 frost valve, 4 pad, 5 step light, 6 motor). -/
def Part.role' (p : Part) (l : Nat) (r : Nat) : Part := { p with params := p.params.set 3 (6 * l + 3) (BitVec.ofNat 16 r) }
/-- Test helper: a parameter set to a value. -/
def Part.par (p : Part) (page idx v : Nat) : Part := { p with params := p.params.set page idx (BitVec.ofNat 16 v) }
/-- Test helper: a load record changed. -/
def Part.ld (p : Part) (l : LoadId) (f : LoadRec → LoadRec) : Part := p.setLoad l (f (p.load l))
/-- Test helper: a channel changed. -/
def Part.ch (p : Part) (l : LoadId) (f : Channel → Channel) : Part := p.setChan l (f (p.chan l))
/-- Test helper: a line record changed. -/
def Part.ln (p : Part) (l : LineId) (f : LineRec → LineRec) : Part := p.setLine l (f (p.line l))
/-- Test helper: a load ON, last of its bus's on-list, with its channel ON. -/
def Part.onLoad (p : Part) (l : LoadId) : Part :=
  let q := (p.ld l ({· with state := .on})).ch l ({· with switching := .on})
  q.setBus (q.busOf l) { q.bus (q.busOf l) with onList := (q.bus (q.busOf l)).onList ++ [l] }
/-- Test helper: a load SHED for ROOM at 0 s, on top of its bus's stack. -/
def Part.shedLoad (p : Part) (l : LoadId) : Part :=
  let q := (p.ld l ({· with state := .shed}))
  q.setBus (q.busOf l) { q.bus (q.busOf l) with stack := (q.bus (q.busOf l)).stack ++ [⟨l, .room, 0⟩] }

end Sys2Proof.Machine

namespace Sys2Proof.Tests

-- Kernel evaluations in parallel take a large stack each; here the theorems are elaborated in turn.
set_option Elab.async false

/-- The part after a command. -/
def after (i : Instr) (p : Part) : Part :=
  match exec i (st p) with
  | .next t => t.part
  | _ => p

/-! ### Frames, checks and the link -/

/-- R201: a frame is SYNC 0xA7, LEN, BODY and the CRC-8 over LEN and BODY; the CRC bytes worked out by hand. -/
theorem test_identify_frame : frameOf [0x01#8] = [0xA7#8, 0x01#8, 0x01#8, 0x12#8] := by decide +kernel
/-- The published check values of the two polynomials over "123456789". -/
theorem test_crc_check_values :
    crc8 [0x31, 0x32, 0x33, 0x34, 0x35, 0x36, 0x37, 0x38, 0x39] = 0xF4#8 ∧
    crc16 [0x31, 0x32, 0x33, 0x34, 0x35, 0x36, 0x37, 0x38, 0x39] = 0x29B1#16 := by decide +kernel
/-- 11, "three requests in a row": the third request finds the queue full and gets BUSY in the immediate place. -/
theorem test_third_request_is_busy :
    let p := { calm with lnk := { calm.lnk with
      tx := some ⟨.notice .motion 0, false, []⟩, requests := [.spotCheck 9, .getBank 0], inFlight := true } }
    (after (.loadGet 3) p).lnk.immediate = some ⟨0x80#8 + requestKind (.loadGet 3), .busy⟩ ∧
      (after (.loadGet 3) p).lnk.requests = [.spotCheck 9, .getBank 0] := by decide +kernel
/-- 11, "three requests in a row": the BUSY reply stands in its place while it is sent and leaves it when it has been. -/
theorem test_immediate_place_while_sending :
    let p := { calm with lnk := { calm.lnk with
      tx := some ⟨.notice .motion 0, false, []⟩, immediate := some ⟨0x92#8, .busy⟩ } }
    (after .txFrameDone p).lnk.immediate = some ⟨0x92#8, .busy⟩ ∧
      (after .txFrameDone (after .txFrameDone p)).lnk.immediate = none := by decide +kernel
/-- R205: the part code is read only. -/
theorem test_part_code_is_read_only :
    (after (.writeParam 0 0 1 [5]) calm).params.get 0 0 = 4810 ∧
      ((after (.writeParam 0 0 1 [5]) calm).lnk.reply.map (·.status)) = some .range := by decide +kernel
/-- R42: in SERVICE a trip of the pad load leaves the pad IDLE; R36: in ACTIVE it makes the pad FAULTED. -/
theorem test_pad_trip_by_mode :
    let p := calm.role' 3 4
    let q := { p with chg := { p.chg with pad := .idle } }
    (after (.driverShort 3) (q.ch 3 ({· with switching := .on}))).chg.pad = .faulted ∧
      (after (.driverShort 3) { (q.ch 3 ({· with switching := .on})) with
        mdc := { q.mdc with mode := .service } }).chg.pad = .idle := by decide +kernel
/-- R78, R90, R154: the start-up load turns a new valve load ON and withdraws its backfeed report, but leaves a channel TRIPPED
that tripped after the reset, and the guard enters DUMPED. -/
theorem test_start_up_valve :
    let p := calm.role' 3 3
    let energized := fun (p : Part) => { p with clm := { p.clm with guard := .safe } }.energizeValve.delivered
    let fresh := energized (p.ch 3 ({· with backfeedStands := true}))
    let hot := energized ((p.ch 3 ({· with switching := .tripped})).ld 3 ({· with state := .faulted}))
    ((fresh.chan 3).switching = .on ∧ (fresh.chan 3).backfeedStands = false ∧ (fresh.load 3).state = .on) ∧
      (hot.chan 3).switching = .tripped ∧ (hot.load 3).state = .faulted ∧ hot.clm.guard = .dumped := by decide +kernel
/-- R117: a rise to a current below 2 mA lets the open timer stand; one to 2 mA or more sets it to 0, as a short to ground does. -/
theorem test_open_timer_at_a_rise :
    let r := { LineRec.reset with supply := .on, current := 3, openTimer := 7, thr := ⟨15, 30, 10, 25⟩ }
    (r.raised 15).openTimer = 7 ∧ r.enterTier2.openTimer = 0 ∧
      ((after (.lineShortGnd 0 700) (calm.ln 0 fun _ => r)).line 0).openTimer = 0 := by
  decide +kernel
/-- R117: a return to BASE from a plateau whose mean reached 2 mA sets the open timer to 0; from one below, it stands. -/
theorem test_open_timer_at_a_fall :
    let p := calm.ln 0 fun r => { r with
      supply := .on, level := .tier1, pulse := some false, current := 3, openTimer := 7, thr := ⟨15, 30, 10, 25⟩ }
    let fallen := fun mean => ((after (.crossingRecognized 0 .fallingT1 0 mean) p).line 0).openTimer
    fallen 20 = 0 ∧ fallen 19 = 7 := by
  decide +kernel
/-! ### Banks (01, "an evening on bank A" and R5) -/

/-- Bank A of the worked case: LITHIUM, 200 Ah, offset 3, with a content, the other fields as given. -/
def evening (content : Nat) (f : BankRec → BankRec) : Part :=
  { (calm.par 1 1 200).par 1 9 4000 with bnk := ⟨f { BankRec.reset with
      acct := .counting, content := content, offset := 3, estimated := true, secondCount := 3 },
    { BankRec.reset with acct := .counting }, none⟩ }

/-- The first discharge sample. -/
theorem test_bank_first_discharge :
    let r := (after (.bankSample .A (BitVec.ofInt 16 (-640)) 13100) (evening 5040000000 id)).bank .A
    r.lastCurrent = some (-16075) ∧ r.content = 5039983925 ∧ r.minuteSum = -16075 ∧ r.minuteCount = 1 := by decide +kernel
/-- The last sample of the hour. -/
theorem test_bank_time_to_empty :
    let p := evening (4461300000 + 16075) ({ · with minuteCount := 599, minuteSum := -16075 * 599 })
    ((after (.bankSample .A (BitVec.ofInt 16 (-640)) 13100) p).bank .A).timeToEmpty = some 462 := by decide +kernel
/-- The sample that completes the rest time. -/
theorem test_bank_rest_recalibration :
    let p := evening (4452300000 + 125) ({ · with minuteCount := 599, minuteSum := -125 * 599, restTimer := 71999 })
    let q := after (.bankSample .A (BitVec.ofInt 16 (-2)) 13260) p
    (q.bank .A).content = 3888000000 ∧ (q.bank .A).atRest = true ∧ (q.bank .A).estimated = false ∧
      (q.bank .A).timeToEmpty = some 51840 ∧ (q.bus .A).soc = 540 := by decide +kernel
/-- Sunrise. -/
theorem test_bank_charge_efficiency :
    let r := (after (.bankSample .A 803 13260) (evening 3888000000 ({ · with atRest := true }))).bank .A
    r.content = 3888019800 ∧ r.atRest = false ∧ r.fullSyncTimer = 0 := by decide +kernel
/-- R5: the eighth sample divides the sum, here 4 + 4 + 3 + 5 + 4 + 3 + 4 + 4 = 31, rounded toward zero. -/
theorem test_calibration_rounds_toward_zero :
    let p := { calm with bnk := ⟨{ BankRec.reset with calSum := 27, calSamples := 7 }, { BankRec.reset with }, none⟩ }
    ((after (.bankSample .A 4 12800) p).bank .A).offset = 3 := by decide +kernel

/-! ### Charge (02, "the alternator after engine start") -/

/-- The starter record with its counts, D+ active, no cold inhibit. -/
def alternator (high low dplus : Nat) (closed : Bool) : Part :=
  { calm with
    chg := { calm.chg with highCount := high, lowCount := low, dplusCount := dplus, splitClosed := closed, coldInhibit := none }
    mdc := { calm.mdc with signals := { calm.mdc.signals with dplus := ⟨true, true, 500⟩ } } }

/-- Sample 45 leaves the relay open though the voltage has stood high, sample 50 closes it. -/
theorem test_split_relay_waits_for_dplus :
    (after (.starterSample 13800) (alternator 49 0 44 false)).chg.splitClosed = false ∧
      (after (.starterSample 13800) (alternator 50 0 49 false)).chg.splitClosed = true := by decide +kernel
/-- The stop at the lights: the 100th low sample opens it, the 99th does not. -/
theorem test_split_relay_opens_on_low :
    (after (.starterSample 12600) (alternator 0 98 50 true)).chg.splitClosed = true ∧
      (after (.starterSample 12600) (alternator 0 99 50 true)).chg.splitClosed = false := by decide +kernel

/-! ### Loads (03, "the evening budget on bus A", "joining two buses") -/

/-- Bus A of the worked case at 1,000 s: L3, L5 and L1 ON, the heater L7 of class 2 OFF. -/
def budget (soc : Nat) : Part :=
  let p := (((calm.par 3 18 4).par 3 20 8000).par 3 32 12000).par 3 6 2
  let p := ((((p.par 3 8 25000).par 3 42 2).par 3 44 15000).role' 7 2).par 7 0 1
  let p := ((p.onLoad 3).onLoad 5).onLoad 1
  let p := ((p.ld 3 ({ · with measured := some 9200, fresh := true })).ld 5 ({ · with measured := some 11400 })).ld 1
    ({ · with measured := some 24600 })
  { p with
    uptime := 1000
    ldm := { p.ldm with busA := { p.ldm.busA with soc := soc } }
    bnk := { p.bnk with a := { BankRec.reset with acct := .counting, content := 3600000 * soc, secondCount := 3 } }
    clm := { p.clm with guard := .safe, heater := .idle, cabin := some 30, evalTimer := some 0 } }

/-- The heater is demanded: L3 makes room, L5 is not taken. -/
theorem test_evening_heater_demand :
    let q := after .thermostatEvaluation (budget 620)
    q.ldm.busA.onList = [5, 1, 7] ∧ q.ldm.busA.stack = [⟨3, .room, 1000⟩] ∧ q.committedSum .A = 52000 ∧
      (q.load 3).state = .shed ∧ q.clm.heater = .running := by decide +kernel
/-- Charge falls to 340 ‰: L5 is below its floor, the class 2 loads are not. -/
theorem test_evening_charge_falls :
    let p := (budget 340).onLoad 7
    let p := { p with uptime := 1500, ldm := { p.ldm with busA := { p.ldm.busA with
        soc := 700, onList := [5, 1, 7], stack := [⟨3, .room, 1000⟩] } } }
    let q := after (.bankSample .A 0 12900) (p.ld 3 ({ · with state := .shed }))
    q.ldm.busA.soc = 340 ∧ q.ldm.busA.onList = [1, 7] ∧
      q.ldm.busA.stack = [⟨3, .room, 1000⟩, ⟨5, .chargeFloor, 1500⟩] ∧ q.committedSum .A = 40000 := by decide +kernel
/-- Buses A and B of the join. -/
def joining : Part :=
  let p := ((((calm.par 3 6 2).par 3 8 25000).par 3 42 2).par 3 44 15000)
  let p := (((p.par 3 78 2).par 3 79 1).par 3 85 1).par 3 91 1
  let p := (((((p.onLoad 1).onLoad 7).onLoad 13).onLoad 14).shedLoad 3).shedLoad 15
  let at' := fun (p : Part) (l : LoadId) (t : Nat) => p.ld l ({ · with admittedAt := BitVec.ofNat 32 t, wantedLevel := 700 })
  let p := at' (at' (at' (at' p 1 100) 7 1000) 13 500) 14 1200
  { p with
    mdc := { p.mdc with signals := { p.mdc.signals with handbrake := ⟨true, true, 200⟩ } }
    chg := { p.chg with tieRelay := .split }
    bnk := ⟨{ BankRec.reset with acct := .counting, content := 3600000 * 330, lastVoltage := some 13000 },
      { BankRec.reset with acct := .counting, content := 3600000 * 330, lastVoltage := some 13000 }, none⟩ }
/-- The on-lists merge by admitted time, A's stack lies under B's, and the joined floor sheds L14. -/
theorem test_join_merges_and_sheds :
    let q := after (.tieSet 1) joining
    q.ldm.busJ.onList = [1, 13, 7] ∧ q.ldm.busJ.stack.map (·.load) = [3, 15, 14] ∧ q.ldm.busJ.soc = 330 ∧
      (q.load 14).state = .shed := by decide +kernel

/-! ### Outputs (04, "a heater element running hot") and lights (09, "a fade up and a shed") -/

/-- Channel 7 under measurement, its trip current 22,500 mA. -/
def hot (count : Nat) : Part :=
  let p := (((calm.par 3 44 15000).par 3 46 22500).role' 7 2).onLoad 7
  { p with out := { (p.ch 7 ({ · with overCount := count })).out with running := some ⟨7, .sweep, false, true, 0⟩ } }
/-- Reading 4 counts down, reading 11 trips. -/
theorem test_overcurrent_counter :
    ((after (.measurementComplete 22400) (hot 2)).chan 7).overCount = 1 ∧
      ((after (.measurementComplete 23500) (hot 7)).chan 7).switching = .tripped ∧
      ((after (.measurementComplete 23500) (hot 7)).chan 7).tripCount = 1 ∧
      ((after (.measurementComplete 23500) (hot 7)).load 7).state = .faulted := by decide +kernel
/-- Both counters reach 8 on one reading: OPEN (R89) and OVERCURRENT (R88) are latched and the channel trips (R92). -/
theorem test_both_counters_latch :
    let r := (after (.measurementComplete 23500) (((hot 7).par 3 47 25000).ch 7 ({ · with openCount := 7 }))).chan 7
    r.latched.openLoad = true ∧ r.latched.overcurrent = true ∧ r.switching = .tripped := by decide +kernel
/-- LIGHT_SET 700 in 2,000 ms on LT2: the step and the committed draw. -/
theorem test_fade_up :
    let q := after (.lightSet 2 700 2000) (calm.par 3 86 1500)
    (q.light 2).fadeStep = some 4 ∧ (q.load 14).state = .on ∧ q.committed 14 = 740 := by decide +kernel
/-- Tick 100: level 400, duty 160. -/
theorem test_fade_tick :
    let p := (calm.onLoad 14).setLight 2 { LightRec.reset with
      target := 700, present := 396, fadeEnd := 700, fadeStep := some 4, tick := some 0 }
    ((after (.fadeTick 2) p).light 2).present = 400 ∧ ((after (.fadeTick 2) p).chan 14).duty = 160 := by decide +kernel

/-! ### Sensor lines (05, "learning a level sender", "one frame") and tanks (06, "the fresh level on the road") -/

/-- Line S0 of the worked case: IBmin 60, span 40, R1 = R2 = 1. -/
def learner : Part := ((calm.par 5 7 60).par 5 8 40)
/-- Enabled, then ten base windows at 79. -/
theorem test_line_learns_its_base :
    let r := LineRec.initial LineRec.reset learner.params 0
    let r' := (List.range 10).foldl (fun r _ => r.learnBase learner.params 0 79) r
    r.thr = ⟨95, 165, 87, 157⟩ ∧ r'.ib = 72 ∧ r'.thr = ⟨107, 177, 99, 169⟩ ∧ r'.baseSat = false := by decide +kernel
/-- The first sync at 205. -/
theorem test_line_learns_its_sync :
    let r := { LineRec.initial LineRec.reset learner.params 0 with ib := 72 }
    let r' := r.learnA2 learner.params 0 205
    r'.a2 = 69 ∧ r'.thr = ⟨107, 176, 99, 168⟩ := by decide +kernel
/-- A frame under way on line S0 of the learning case, with the thresholds it settled at. -/
def framed (bits : List Bool) (p : Part) : Part :=
  p.ln 0 ({ · with supply := .on, enabled := true, frame := some bits, thr := ⟨107, 175, 99, 167⟩ })
/-- The tenth slot of a frame of 42 % with status DRIFT. -/
theorem test_level_frame :
    let q := after (.levelSlotSample 0 79) (framed [false, true, false, true, false, true, false, true, false] calm)
    (q.line 0).value = some (.level 42 .drift) ∧ (q.line 0).complete = true ∧ (q.line 0).bits = 10 ∧
      (q.line 0).age = some 0 := by decide +kernel
/-- Frame 9 of the drive, 60 %: the oldest level leaves the window, and 436 / 8 is published as 54 %. -/
theorem test_road_level_is_averaged :
    let p := framed [false, false, true, true, true, true, false, false, false] calm
    let p := { p with wat := { p.wat with fresh := { p.wat.fresh with
      levelState := .current, level := some 54, window := [56, 52, 58, 50, 57, 53, 55, 51] } } }
    let q := after (.levelSlotSample 0 79) p
    q.wat.fresh.level = some 54 ∧ q.wat.fresh.window = [52, 58, 50, 57, 53, 55, 51, 60] := by decide +kernel

/-! ### Climate and motion -/

/-- R147: a setpoint above 60 half degrees is taken as 60. -/
theorem test_setpoint_is_clamped : (after (.heatSet 1 70) calm).params.setpoint = 60 := by decide +kernel
/-- 08, "setting the awning to a target": at 24,000 ms of 40,000 the position reaches 600. -/
theorem test_awning_stops_at_its_target :
    let p := (calm.onLoad 18).setAxis .awn { AxisRec.reset with state := .extending, position := some 599 }
    let q := after .driveTick { p with mot := { p.mot with
      active := some ⟨.awn, .extend, some 600, 2, .drive, .retracted, some 0, 23990, 40000⟩, bridge := .outward, tick :=
          some 0 } }
    (q.axis .awn).state = .stoppedMid ∧ (q.axis .awn).position = some 600 ∧ (q.axis .awn).lastResult = some .target ∧
      q.mot.dead = some 200 := by decide +kernel

/-! ### Well-formed operands, each check with a term it refuses -/

theorem wf_refuses_too_many_values : Request.wf (.writeParam 0 0 31 (List.replicate 31 0)) = false := by decide
theorem wf_refuses_exercise_none_on_a_channel : Request.wf (.exercise 3 none) = false := by decide
theorem wf_refuses_malformed : Request.wf (.malformed 1) = false := by decide
theorem wf_refuses_empty_body : bodyOk [] = false := by decide
theorem wf_refuses_long_body : bodyOk (List.replicate 65 0) = false := by decide
theorem wf_refuses_raw_readings : rawReadingOk 31001 = false ∧ rawReadingOk (-1001) = false := by decide
theorem wf_refuses_line_current : lineCurrentOk 1024 = false := by decide
theorem wf_refuses_events_out_of_range :
    Instr.wf (.measurementComplete 31001) = false ∧ Instr.wf (.supplySample (-1)) = false ∧
      Instr.wf (.levelSlotSample 0 1024) = false ∧ Instr.wf (.frameReceived []) = false := by decide

/-! ### Witnesses: the queue, the clock and the link -/

theorem witness_EmptyQueueTurnsTheClock :
    (∃ s : State, s.pending = [] ∧ ∃ i, s.part.due = some i) ∧ (∃ s : State, s.pending = [] ∧ s.part.due = none) :=
  ⟨⟨st { calm with clm := { calm.clm with riskTimer := some 0 } }, rfl, .riskTimerExpiry, by decide +kernel⟩,
    st calm, by decide +kernel⟩

theorem witness_EveryStepKeepsThePartSettled :
    (∃ s t : State, s.part.Settled ∧ s.pending ≠ [] ∧ step s = .next t) ∧
      (∃ s t : State, s.part.Settled ∧ s.pending = [] ∧ step s = .next t) :=
  ⟨⟨⟨calm, [.groupHotWithdrawn 0]⟩, _, by decide +kernel, by decide, rfl⟩, ⟨st calm, _, by decide +kernel, rfl, rfl⟩⟩

theorem witness_EveryStepKeepsTheBounds :
    ∃ s t : State, WithinBounds s.part ∧ s.part.lnk.requests.length = 2 ∧ step s = .next t :=
  ⟨⟨{ calm with lnk := { calm.lnk with requests := [.identify, .save], inFlight := true } }, [.groupHotWithdrawn 0]⟩, _,
    ⟨⟨by decide +kernel, .nil⟩, by decide +kernel, ⟨by decide +kernel, .nil⟩, ⟨by decide +kernel, by decide +kernel⟩,
      ⟨by decide +kernel, by decide +kernel⟩, by decide +kernel⟩, by decide, rfl⟩

theorem witness_EveryStepKeepsTheBounds_lists :
    ∃ s t : State, ListsAgree s.part ∧ (s.part.load 4).state = .on ∧ (s.part.load 5).state = .shed ∧ step s = .next t :=
  ⟨⟨(calm.onLoad 4).shedLoad 5, [.loadSet 5 1]⟩, _, by unfold ListsAgree; decide +kernel, by decide +kernel, by decide +kernel, rfl⟩

theorem witness_RequestBytesReadBack :
    Request.wf (.writeParam 0 3 1 [5]) = true ∧ Request.wf (.writeParam 0 0 30 (List.replicate 30 0)) = true ∧
      Request.wf (.exercise 0xFF none) = true ∧ Request.wf (.exercise 0xFF (some 2)) = true := by decide

theorem witness_FramesCarryTheRequests :
    (∃ (i : Instr) (r : Request), i.request? = some r ∧ r.wf = true) ∧
    (∃ (s : State) (body : List Byte), bodyOk body = true ∧ body.length = 1 ∧ s.part.Settled ∧ s.part.lnk.rx = .hunt ∧
      s.part.lnk.rxTimer = none) ∧
    (∃ (s : State) (body : List Byte), bodyOk body = true ∧ body.length = 64 ∧ s.part.Settled ∧ s.part.lnk.rx = .hunt ∧
      s.part.lnk.rxTimer = none) :=
  ⟨⟨.bankZero 2, .bankZero 2, by decide⟩, ⟨st calm, [1], by decide +kernel⟩, st calm, List.replicate 64 1, by decide +kernel⟩

/-- The part with its notice queue and mask. -/
def posting (mask : Nat) (ns : List Notice) : Part := { calm.par 0 2 mask with lnk := { calm.lnk with notices := ns } }

theorem witness_PostingFollowsMaskPlaceAndBound :
    (∃ p : Part, NoticeKind.mode ≠ .started ∧ (p.params.get 0 2).getLsbD (noticeIndex .mode) = false) ∧
    (∃ (p : Part) (n : Notice) (behind : List Notice), (p.params.get 0 2).getLsbD (noticeIndex .mode) = true ∧
      p.lnk.notices = [] ++ n :: behind ∧ (n.kind = .mode ∧ n.subject = 0) ∧
      ∀ m ∈ [] ++ behind, ¬ (m.kind = .mode ∧ m.subject = 0)) ∧
    (∃ p : Part, (p.params.get 0 2).getLsbD (noticeIndex .mode) = true ∧
      (∀ n ∈ p.lnk.notices, ¬ (n.kind = .mode ∧ n.subject = 0)) ∧ p.lnk.notices.length = 15) ∧
    (∃ p : Part, (p.params.get 0 2).getLsbD (noticeIndex .mode) = true ∧
      (∀ n ∈ p.lnk.notices, ¬ (n.kind = .mode ∧ n.subject = 0)) ∧ p.lnk.notices.length = 16) :=
  ⟨⟨posting 0 [], by decide +kernel⟩,
    ⟨posting 16383 [⟨.mode, 0, []⟩, ⟨.mode, 1, []⟩], ⟨.mode, 0, []⟩, [⟨.mode, 1, []⟩], by decide +kernel⟩,
    ⟨posting 16383 ((List.range 15).map fun k => ⟨.loadState, k, []⟩), by decide +kernel⟩,
    ⟨posting 16383 ((List.range 16).map fun k => ⟨.loadState, k, []⟩), by decide +kernel⟩⟩

/-- The part with an idle transmitter and what waits for it. -/
def idle (i : Option Immediate) (r : Option ReplySlot) (ns : List Notice) : Part :=
  { calm with lnk := { calm.lnk with tx := none, immediate := i, reply := r, notices := ns } }

theorem witness_TransmitterTakesByPriority :
    (∃ p : Part, p.lnk.tx.isSome = true) ∧
    (∃ (p : Part) (i : Immediate), p.lnk.tx = none ∧ p.lnk.immediate = some i ∧ i.status = .linkError) ∧
    (∃ (p : Part) (r : ReplySlot), p.lnk.tx = none ∧ p.lnk.immediate = none ∧ p.lnk.reply = some r ∧ r.sent = 0 ∧
      r.flags = none ∧ r.payload.length = 60) ∧
    (∃ (p : Part) (r : ReplySlot), p.lnk.tx = none ∧ p.lnk.immediate = none ∧ p.lnk.reply = some r ∧ r.sent = 0 ∧
      r.flags = none ∧ r.payload.length = 61) ∧
    (∃ (p : Part) (n : Notice) (rest : List Notice), p.lnk.tx = none ∧ p.lnk.immediate = none ∧ p.lnk.reply = none ∧
      p.lnk.notices = n :: rest) ∧
    (∃ p : Part, p.lnk.immediate = none ∧ p.lnk.reply = none ∧ p.lnk.notices = []) :=
  ⟨⟨calm, by decide +kernel⟩,
    ⟨idle (some ⟨0x80, .linkError⟩) none [], ⟨0x80, .linkError⟩, by decide +kernel⟩,
    ⟨idle none (some ⟨0x82, .ok, List.replicate 60 0, none, 0⟩) [], ⟨0x82, .ok, List.replicate 60 0, none, 0⟩,
        by decide +kernel⟩,
    ⟨idle none (some ⟨0x82, .ok, List.replicate 61 0, none, 0⟩) [], ⟨0x82, .ok, List.replicate 61 0, none, 0⟩,
        by decide +kernel⟩,
    ⟨idle none none [⟨.mode, 0, []⟩], ⟨.mode, 0, []⟩, [], by decide +kernel⟩,
    calm, by decide +kernel⟩

/-- Each range of the refused arguments at its first value. -/
theorem witness_RefusedRequestsChangeNothing :
    (∃ s : State, s.part.Ready) ∧
    (∀ r ∈ [Instr.getBank 2, .tieSet 2, .getBus 2, .shedList 2, .water 2, .tankGet 2],
      2 ≤ (2 : Byte).toNat ∧ r ∈ [Instr.getBank 2, .tieSet 2, .getBus 2, .shedList 2, .water 2, .tankGet 2]) ∧
    (3 ≤ (3 : Byte).toNat ∧ Instr.bankZero 3 ∈ [Instr.bankZero 3, .heatSet 3 0]) ∧
    (4 ≤ (4 : Byte).toNat ∧ Instr.sceneStore 4 ∈ [Instr.sceneRecall 4 0, .sceneStore 4]) ∧
    (6 ≤ (6 : Byte).toNat ∧ Instr.lightSet 6 0 0 ∈ [Instr.lineControl 6 0, .lightSet 6 0 0]) ∧
    (6 ≤ (6 : Byte).toNat ∧ 6#8 ≠ 0xFF#8 ∧ Instr.lineGet 6 0 ∈ [Instr.lineGet 6 0]) ∧
    (20 ≤ (20 : Byte).toNat ∧ Instr.loadGet 20 ∈ [Instr.loadGet 20, .loadSet 20 0, .spotCheck 20, .exercise 20 (some 0)]) ∧
    (20 ≤ (20 : Byte).toNat ∧ 20#8 ≠ 0xFF#8 ∧ Instr.exercise 20 none ∈ [Instr.outputStatus 20 0, .exercise 20 none]) ∧
    (2 ≤ (2 : Byte).toNat ∧
      Instr.lineControl 0 2 ∈ [Instr.lineControl 0 2, .exercise 0 (some 2), .outputStatus 0 2, .lineGet 0 2]) ∧
    (∃ s : State, s.part.Ready ∧ s.part.mdc.mode = .start ∧ (2 : Byte).toNat ≤ 2 ∧ ownerOf s.part.params 11 = .host ∧
      axisArg 1 = some .step) ∧
    (axisArg 0 = some .awn ∧ ((some 9#16).isSome = true ∧ (Axis.awn = .step ∨ 1#8 ≠ 0#8))) :=
  ⟨⟨st calm, by decide +kernel⟩, by decide, by decide, by decide, by decide, by decide, by decide, by decide, by decide,
    ⟨st { calm with mdc := { calm.mdc with mode := .start } }, by decide +kernel⟩, by decide⟩

/-! ### Witnesses: banks, victims and measurements -/

theorem witness_CalibrationSampleOfABank :
    (∃ s : State, (s.part.bank .A).acct = .calibrating ∧ (s.part.bank .A).calSamples + 1 < 8) ∧
    (∃ s : State, (s.part.bank .B).acct = .calibrating ∧ 8 ≤ (s.part.bank .B).calSamples + 1 ∧
      ∀ b, b ≠ .B → (s.part.bank b).acct = .counting) :=
  ⟨⟨st { calm with bnk := ⟨{ BankRec.reset with calSamples := 6 }, BankRec.reset, none⟩ }, by decide +kernel⟩,
    ⟨st { calm with bnk := ⟨{ BankRec.reset with acct := .counting }, { BankRec.reset with calSamples := 7 }, none⟩ },
      by decide +kernel, by decide +kernel, fun b => by cases b <;> decide +kernel⟩⟩

theorem witness_VictimsByClassThenLatest :
    (∃ (p : Part) (l : LoadId), l ∈ p.victims .A fun _ => true) ∧
    (let p := (calm.onLoad 3).onLoad 4;
      (p.bus .A).onList.Pairwise (fun x y => (p.load x).admittedAt.toNat ≤ (p.load y).admittedAt.toNat) ∧
        p.victims .A (fun _ => true) = [4, 3] ∧ p.effClass 4 = p.effClass 3) ∧
    (∃ (p : Part) (taken : List LoadId), p.victimsToFit 1500 2000 [3, 4] = some taken) ∧
    (∃ p : Part, p.victimsToFit 1 9000 [3, 4] = none) ∧
    (let p := (calm.onLoad 3).onLoad 4; let ls : List LoadId := [4, 3];
      ls.Nodup ∧ ∀ l ∈ ls, l ∈ (p.bus .A).onList ∧ p.sheddable l = true) := by
  refine ⟨⟨calm.onLoad 3, 3, by decide +kernel⟩, ?_, ⟨calm, [3], by decide +kernel⟩, ⟨calm, by decide +kernel⟩, ?_⟩ <;> try dsimp only
  all_goals decide +kernel

/-- A measurement under way on a part. -/
def measuring (m : Measuring) (p : Part) : State := st { p with out := { p.out with running := some m } }
/-- The hypotheses of a completion that trips nothing (MeasurementsAreStoredAndExpire). -/
abbrev Completes (s : State) (m : Measuring) (raw : Int) : Prop :=
  let p := s.part
  let c := m.channel
  let r := p.chan c
  let ma := min 30000 (raw - r.zero).toNat
  let overs := if r.latched.overcurrent = true then r.overCount else if r.inrush.isSome = true then 0
    else if m.onThroughout = true ∧ p.params.tripCurrent c < ma then min 8 (r.overCount + 1) else r.overCount - 1
  p.outbox = [] ∧ p.out.running = some m ∧ p.out.zeroPass = none ∧ (m.source = .sweep ∨ m.source = .tracking) ∧
    m.host = false ∧ p.out.trackingSlot = none ∧ p.out.spotQueue = [] ∧ p.out.sweepHeld = false ∧
    (m.source = .sweep → c = 19 → p.mdc.mode ≠ .storage) ∧ (r.latched.overcurrent = true ∨ overs < 8) ∧
    ((p.load c).state = .on → ma ≤ p.committed c ∨
      (p.setLoad c { p.load c with measured := some ma, fresh := true }).committedSum (p.busOf c) ≤
        busLimitOf p.params (p.busOf c) ∧ ∀ l ∈ (p.bus (p.busOf c)).onList, (p.load l).motorClass ≠ some 2)
/-- A motion whose motor is measured for its tracking, at a stall count, with the handbrake applied. -/
def tracked (a : Axis) (d : Direction) (g : Stage) (stall : Nat) : State :=
  let p := calm.onLoad (motorOf a)
  let p := p.setAxis a { p.axis a with stall := stall }
  measuring ⟨motorOf a, .tracking, false, true, 0⟩ { p with
    mot := { p.mot with active := some ⟨a, d, none, 2, g, .retracted, none, 0, 1⟩, bridge := .outward, tick := some 3 }
    mdc := { p.mdc with signals := { p.mdc.signals with handbrake := ⟨true, true, 200⟩ } } }

theorem witness_MeasurementsAreStoredAndExpire :
    Completes (measuring ⟨17, .sweep, false, true, 0⟩ (calm.ch 17 ({ · with switching := .on, overCount := 6 }))) ⟨17, .sweep,
      false, true, 0⟩ 1501 ∧
    Completes (measuring ⟨0, .sweep, false, true, 0⟩ (calm.onLoad 0)) ⟨0, .sweep, false, true, 0⟩ 1000 ∧
    Completes (measuring ⟨0, .sweep, false, true, 0⟩ (calm.onLoad 0)) ⟨0, .sweep, false, true, 0⟩ 1400 ∧
    Completes (measuring ⟨19, .sweep, false, true, 0⟩ calm) ⟨19, .sweep, false, true, 0⟩ 30500 ∧
    (Completes (tracked .awn .extend .wait 0) ⟨18, .tracking, false, true, 0⟩ 500) ∧
    (Completes (tracked .awn .retract .backoff 0) ⟨18, .tracking, false, true, 0⟩ 500) ∧
    (Completes (tracked .step .extend .drive 1) ⟨19, .tracking, false, true, 0⟩ 8001 ∧
      (tracked .step .extend .drive 1).part.mot.inrush = none ∧
      (tracked .step .extend .drive 1).part.params.stallThreshold .step < 8001) ∧
    (Completes (tracked .awn .extend .drive 2) ⟨18, .tracking, false, true, 0⟩ 12001 ∧
      (tracked .awn .extend .drive 2).part.params.stallThreshold .awn < 12001 ∧
      (tracked .awn .extend .drive 2).part.mot.pend = none ∧ ((tracked .awn .extend .drive 2).part.load 18).state = .on ∧
      ((tracked .awn .extend .drive 2).part.chan 18).switching ≠ .tripped) ∧
    (Completes (tracked .step .retract .drive 2) ⟨19, .tracking, false, true, 0⟩ 8001 ∧
      (tracked .step .retract .drive 2).part.params.stallThreshold .step < 8001 ∧
      (tracked .step .retract .drive 2).part.parked = true) ∧
    (∃ s : State, s.part.out.running = some ⟨3, .spot, true, true, 0⟩ ∧ s.part.out.zeroPass = none) ∧
    (∃ s : State, (s.part.chan 3).freshTimer.isSome = true ∧ s.part.outbox = []) ∧
    (∃ s : State, s.part.outbox = [] ∧ s.part.out.passTimer.isSome = true ∧ s.part.out.running.isSome = true) ∧
    (∃ s : State, s.part.outbox = [] ∧ s.part.out.passTimer.isSome = true ∧ s.part.out.running = none ∧
      s.part.out.zeroPass = none ∧ s.part.out.trackingSlot = none ∧ s.part.out.spotQueue = []) :=
  ⟨by decide +kernel, by decide +kernel, by decide +kernel, by decide +kernel, by decide +kernel, by decide +kernel,
    by decide +kernel, by decide +kernel, by decide +kernel,
    ⟨measuring ⟨3, .spot, true, true, 0⟩ calm, by decide +kernel⟩,
    ⟨st (calm.ch 3 ({ · with freshTimer := some 0, fresh := true })), by decide +kernel⟩,
    ⟨measuring ⟨3, .sweep, false, true, 0⟩ { calm with out := { calm.out with passTimer := some 0 } }, by decide +kernel⟩,
    st { calm with out := { calm.out with passTimer := some 0, running := none } }, by decide +kernel⟩

/-! ### Witnesses: the link -/

namespace Link

/-- The receiver in LEN. -/
def inLen := st { calm with lnk := { calm.lnk with rx := .len, rxTimer := some 3 } }
/-- The receiver in BODY, two bytes to come. -/
def inBody := st { calm with lnk := { calm.lnk with rx := .body 2 [], rxTimer := some 3 } }
/-- The receiver in BODY, one byte to come. -/
def inLastByte := st { calm with lnk := { calm.lnk with rx := .body 1 [], rxTimer := some 3 } }
/-- The receiver in CRC. -/
def inCrc := st { calm with lnk := { calm.lnk with rx := .crc [1#8], rxTimer := some 3 } }
/-- Two requests queued, the first in flight. -/
def twoQueued := st { calm with lnk := { calm.lnk with requests := [.identify, .save], inFlight := true } }
/-- A frame under way that carries NOTICE_LOST. -/
def sending (src : TxSource) (r : Option ReplySlot) (rq : List Request) (rp : Bool) : State :=
  st { calm with lnk := { calm.lnk with
    tx := some ⟨src, true, []⟩, noticeLost := true, reply := r, requests := rq, resetPending := rp
    notices := [⟨.mode, 0, []⟩] } }
/-- A reply of two segments, the first sent. -/
def longReply : ReplySlot := ⟨0x81#8, .ok, List.replicate 70 3#8, some 1#8, 1⟩

theorem witness_ReceiverFollowsItsStates :
    (∃ s : State, s.part.outbox = []) ∧
    (∃ s : State, s.part.outbox = [] ∧ s.part.lnk.rx = .hunt ∧ 85#8 ≠ 167#8) ∧
    (∃ s : State, s.part.outbox = [] ∧ s.part.lnk.rx = .hunt) ∧
    (∃ s : State, s.part.outbox = [] ∧ s.part.lnk.rx = .len ∧ 1 ≤ (1#8).toNat ∧ (1#8).toNat ≤ 64) ∧
    (∃ s : State, s.part.outbox = [] ∧ s.part.lnk.rx = .len ∧ 1 ≤ (64#8).toNat ∧ (64#8).toNat ≤ 64) ∧
    (∃ s : State, s.part.outbox = [] ∧ s.part.lnk.rx = .len ∧ ((0#8).toNat = 0 ∨ 64 < (0#8).toNat)) ∧
    (∃ s : State, s.part.outbox = [] ∧ s.part.lnk.rx = .len ∧ ((65#8).toNat = 0 ∨ 64 < (65#8).toNat)) ∧
    (∃ s : State, s.part.outbox = [] ∧ s.part.lnk.rx = .body 2 [] ∧ ([] : List Byte).length + 1 < 2) ∧
    (∃ s : State, s.part.outbox = [] ∧ s.part.lnk.rx = .body 1 [] ∧ ([] : List Byte).length + 1 = 1) ∧
    (∃ s : State, s.part.outbox = [] ∧ s.part.lnk.rx = .crc [1#8] ∧
      65#8 ≠ crc8 [BitVec.ofNat 8 [1#8].length, 1#8]) := by
  refine ⟨⟨active, by decide +kernel⟩,
    ⟨active, by decide +kernel⟩,
    ⟨active, by decide +kernel⟩,
    ⟨inLen, by decide +kernel⟩,
    ⟨inLen, by decide +kernel⟩,
    ⟨inLen, by decide +kernel⟩,
    ⟨inLen, by decide +kernel⟩,
    ⟨inBody, by decide +kernel⟩,
    ⟨inLastByte, by decide +kernel⟩,
    ⟨inCrc, by decide +kernel⟩⟩

theorem witness_ArrivingRequestsAreQueuedOrAnswered :
    (∃ s : State, s.part.outbox = [] ∧ kindAssigned (242#8) = false) ∧
    (∃ s : State, s.part.outbox = [] ∧ kindAssigned (1#8) = true ∧ s.part.lnk.requests.length = 2) ∧
    (∃ s : State, Instr.identify.request? = some Request.identify ∧ s.part.outbox = [] ∧ s.part.lnk.requests.length < 2 ∧
      (s.part.mdc.settings = none ∨ s.part.lnk.inFlight = true ∨ s.part.lnk.reply.isSome = true)) ∧
    (∃ s : State, s.part.Ready ∧ kindAssigned (1#8) = true ∧
      parseRequest (1#8) [1#8] = Request.malformed (1#8)) := by
  refine ⟨⟨active, by decide +kernel⟩,
    ⟨twoQueued, by decide +kernel⟩,
    ⟨st {calm with mdc := {calm.mdc with settings := none}}, by decide +kernel⟩,
    ⟨active, by decide +kernel⟩⟩

theorem witness_SentFramesAreFollowed :
    (∃ s : State, s.part.outbox = [] ∧
      s.part.lnk.tx = some (⟨.notice NoticeKind.mode 0, true, []⟩ : TxFrame) ∧
      (⟨.notice NoticeKind.mode 0, true, []⟩ : TxFrame).source = TxSource.notice NoticeKind.mode 0) ∧
    (∃ s : State, s.part.outbox = [] ∧
      s.part.lnk.tx = some (⟨.immediate, true, []⟩ : TxFrame) ∧
      (⟨.immediate, true, []⟩ : TxFrame).source = TxSource.immediate) ∧
    (∃ s : State, s.part.outbox = [] ∧
      s.part.lnk.tx = some (⟨.segment false, true, []⟩ : TxFrame) ∧
      (⟨.segment false, true, []⟩ : TxFrame).source = TxSource.segment false ∧
      s.part.lnk.reply = some longReply ∧ longReply.flags = some (1#8)) ∧
    (∃ s : State, s.part.outbox = [] ∧
      s.part.lnk.tx = some (⟨.segment true, true, []⟩ : TxFrame) ∧
      (⟨.segment true, true, []⟩ : TxFrame).source = TxSource.segment true ∧
      s.part.lnk.resetPending = false ∧ s.part.lnk.requests = []) ∧
    (∃ s : State, s.part.outbox = [] ∧
      s.part.lnk.tx = some (⟨.segment true, true, []⟩ : TxFrame) ∧
      (⟨.segment true, true, []⟩ : TxFrame).source = TxSource.segment true ∧
      s.part.lnk.resetPending = false ∧ s.part.mdc.settings.isSome = true ∧ s.part.lnk.inFlight = false ∧
      s.part.lnk.requests = [Request.identify] ∧ Instr.identify.request? = some Request.identify) ∧
    (∃ s : State, s.part.outbox = [] ∧
      s.part.lnk.tx = some (⟨.segment true, true, []⟩ : TxFrame) ∧
      (⟨.segment true, true, []⟩ : TxFrame).source = TxSource.segment true ∧
      s.part.lnk.resetPending = true) := by
  refine ⟨⟨sending (.notice .mode 0) none [] false, by decide +kernel⟩,
    ⟨sending .immediate none [] false, by decide +kernel⟩,
    ⟨sending (.segment false) (some longReply) [] false, by decide +kernel⟩,
    ⟨sending (.segment true) (some longReply) [] false, by decide +kernel⟩,
    ⟨sending (.segment true) (some longReply) [.identify] false, by decide +kernel⟩,
    ⟨sending (.segment true) (some longReply) [] true, by decide +kernel⟩⟩

theorem witness_WarmResetsKeepWhatTheyMay :
    (∃ s : State, s.part.Ready) ∧ (∃ (s : State) (l : LoadId), s.part.keptValve l) ∧
    ∃ (s : State) (l : LoadId), ¬ s.part.keptValve l := by
  unfold Part.keptValve
  exact ⟨⟨active, by decide +kernel⟩, ⟨st ((calm.role' 3 3).onLoad 3), 3, by decide +kernel⟩, active, 3, by decide +kernel⟩

end Link

/-! ### Witnesses: requests, the store and the snapshot -/

namespace Requests

/-- A snapshot write under way. -/
def writing := st {calm with lnk := {calm.lnk with memory := .snapshot true}}
/-- A settings write under way for SAVE. -/
def saving := st {calm with lnk := {calm.lnk with memory := .saving, inFlight := true, requests := [.save]}}
/-- A valid slot with a sequence number. -/
def validSlot (n : Nat) : Slot := let x : Slot := ⟨5,6,true,BitVec.ofNat 32 n,0⟩; {x with crc := x.crcOf}
/-- Both slots valid, slot 1 newer. -/
def slotOneNewer := st {calm with lnk := {calm.lnk with slot0 := validSlot 4, slot1 := validSlot 5}}
/-- Both slots valid, slot 0 newer across the wrap of the number. -/
def slotZeroNewer := st {calm with lnk := {calm.lnk with slot0 := validSlot 0, slot1 := validSlot 4294967295}}

theorem witness_SaveStartsAndCompletes :
    (∃ s : State, s.part.Ready ∧ s.part.mdc.mode = .start) ∧
    (∃ s : State, s.part.Ready ∧ s.part.mdc.mode ≠ .start ∧ s.part.lnk.memory ≠ .idle) ∧
    (∃ s : State, s.part.Ready ∧ s.part.mdc.mode ≠ .start ∧ s.part.lnk.memory = .idle ∧
      7 ≤ (s.part.params.getD 1 []).length) ∧
    (∃ s : State, s.part.outbox = [] ∧ s.part.lnk.memory = .saving ∧ s.part.lnk.inFlight = true ∧
      s.part.lnk.requests = [Request.save] ∧ s.part.lnk.snapHeld = false) ∧
    (∃ s : State, s.part.outbox = [] ∧ s.part.lnk.memory = .saving ∧ s.part.lnk.inFlight = true ∧
      s.part.lnk.requests = [Request.save] ∧ s.part.lnk.snapHeld = true ∧ s.part.lnk.newest = some (true, validSlot 5)) := by
  refine ⟨⟨starting, by decide +kernel⟩,
    ⟨writing, by decide +kernel⟩,
    ⟨active, by decide +kernel⟩,
    ⟨saving, by decide +kernel⟩,
    ⟨st { saving.part with lnk := { saving.part.lnk with
        snapHeld := true, slot0 := validSlot 4, slot1 := validSlot 5 } }, by decide +kernel⟩⟩

theorem witness_SnapshotsAlternateByNumber :
    (∃ s : State, s.part.outbox = [] ∧ s.part.lnk.memory ≠ .idle) ∧
    (∃ s : State, s.part.outbox = [] ∧ s.part.lnk.memory = .idle ∧ s.part.lnk.newest = none) ∧
    (∃ s : State, s.part.outbox = [] ∧ s.part.lnk.memory = .idle ∧ s.part.lnk.newest = some (true, validSlot 5)) ∧
    (∃ s : State, s.part.outbox = [] ∧ s.part.lnk.memory = .idle ∧ s.part.lnk.newest = some (false, validSlot 0)) ∧
    (∃ s : State, s.part.outbox = [] ∧ s.part.lnk.snapHeld = false ∧ s.part.lnk.memory = .snapshot true) ∧
    (∃ s : State, s.part.outbox = [] ∧ s.part.lnk.snapHeld = false ∧ s.part.lnk.memory = .snapshot false) ∧
    (∃ s : State, s.part.outbox = [] ∧ s.part.lnk.snapHeld = true ∧ s.part.lnk.memory = .snapshot true ∧
      { s.part.lnk with memory := .idle, slot1 := { s.part.lnk.slot1 with crc := s.part.lnk.slot1.crcOf } }.newest =
        some (true, validSlot 5)) ∧
    (∃ s : State, s.part.outbox = [] ∧ (s.part.lnk.memory = .idle ∨ s.part.lnk.memory = .saving)) := by
  refine ⟨⟨writing, by decide +kernel⟩,
    ⟨active, by decide +kernel⟩,
    ⟨slotOneNewer, by decide +kernel⟩,
    ⟨slotZeroNewer, by decide +kernel⟩,
    ⟨st {calm with lnk := {calm.lnk with memory := .snapshot true}}, by decide +kernel⟩,
    ⟨st {calm with lnk := {calm.lnk with memory := .snapshot false}}, by decide +kernel⟩,
    ⟨st {calm with lnk := {calm.lnk with
        memory := .snapshot true, snapHeld := true, slot0 := validSlot 4, slot1 := { validSlot 5 with crc := 0 }}}, by decide +kernel⟩,
    ⟨active, by decide +kernel⟩⟩

theorem witness_ParameterWritesAreWholeOrNothing :
    (∃ s : State, s.part.Ready ∧ 0 < List.length s.part.params ∧ 3 ≤ (List.getD s.part.params 0 []).length ∧
      ((16384#16).getLsbD 14 = true ∨ (16384#16).getLsbD 15 = true)) ∧
    (∃ s : State, s.part.Ready ∧ 0 < List.length s.part.params ∧ 3 ≤ (List.getD s.part.params 0 []).length ∧
      (12289#16).getLsbD 14 = false ∧ (12289#16).getLsbD 15 = false) ∧
    (∃ s : State, s.part.Ready ∧ 0 < List.length s.part.params ∧ 3 ≤ (List.getD s.part.params 0 []).length ∧
      (16383#16).getLsbD 14 = false ∧ (16383#16).getLsbD 15 = false) ∧
    (∃ s : State, s.part.Ready ∧
      (9 < (10 : Byte).toNat ∨ (1 : Byte).toNat < 1 ∨ 28 < (1 : Byte).toNat ∨ [(1 : Word)].length ≠ (1 : Byte).toNat)) ∧
    (∃ s : State, s.part.Ready ∧
      (9 < (3 : Byte).toNat ∨ (1 : Byte).toNat < 1 ∨ 28 < (1 : Byte).toNat ∨ ([] : List Byte).length ≠ (1 : Byte).toNat)) ∧
    (∃ s : State, s.part.Ready ∧ (3 : Byte).toNat ≤ 9 ∧ 1 ≤ (1 : Byte).toNat ∧ (1 : Byte).toNat ≤ 28 ∧
      [(1 : Word)].length = (1 : Byte).toNat ∧ s.part.mdc.mode = .start) ∧
    (∃ s : State, s.part.Ready ∧ (8 : Byte).toNat ≤ 9 ∧ 1 ≤ (4 : Byte).toNat ∧ (4 : Byte).toNat ≤ 28 ∧
      [(5 : Word), (60 : Word), (1 : Word), (7 : Word)].length = (4 : Byte).toNat ∧ s.part.mdc.mode ≠ .start ∧
      s.part.writeRefusal ((8 : Byte).toNat) (writesFrom ((0 : Byte).toNat) [(5 : Word), (60 : Word), (1 : Word),
          (7 : Word)]) = some (.range, 3)) ∧
    (∃ s : State, s.part.Ready ∧ s.part.mdc.mode ≠ .start ∧ ((9 : Byte).toNat = 0 ∨ (9 : Byte).toNat = 8 ∨
        (9 : Byte).toNat = 9) ∧
      1 ≤ (2 : Byte).toNat ∧ (2 : Byte).toNat ≤ 28 ∧ [(500 : Word), (501 : Word)].length = (2 : Byte).toNat ∧
      s.part.writeRefusal ((9 : Byte).toNat) (writesFrom ((23 : Byte).toNat) [(500 : Word), (501 : Word)]) = none) ∧
    (∃ s : State, s.part.Ready ∧ s.part.mdc.mode ≠ .start ∧ ((0 : Byte).toNat = 0 ∨ (0 : Byte).toNat = 8 ∨
        (0 : Byte).toNat = 9) ∧
      1 ≤ (1 : Byte).toNat ∧ (1 : Byte).toNat ≤ 28 ∧ [(77 : Word)].length = (1 : Byte).toNat ∧
      s.part.writeRefusal ((0 : Byte).toNat) (writesFrom ((3 : Byte).toNat) [(77 : Word)]) = none) := by
  refine ⟨⟨active, by decide +kernel⟩,
    ⟨active, by decide +kernel⟩,
    ⟨active, by decide +kernel⟩,
    ⟨active, by decide +kernel⟩,
    ⟨active, by decide +kernel⟩,
    ⟨starting, by decide +kernel⟩,
    ⟨active, by decide +kernel⟩,
    ⟨active, by decide +kernel⟩,
    ⟨active, by decide +kernel⟩⟩

/-- The first written value that each of the first checks of ParameterWritesAreWholeOrNothing refuses: unknown or read only, out of
range, by request. -/
abbrev wUnknown (page : Nat) (ws : List (Nat × Word)) : Option (Nat × Word) :=
  ws.find? fun w => [none, some ParamClass.readOnly].contains ((paramSpec page w.1).map ParamSpec.cls)
abbrev wOutside (page : Nat) (ws : List (Nat × Word)) : Option (Nat × Word) :=
  ws.find? fun w => !(((paramSpec page w.1).any fun x =>
      let n : Int := if x.lo < 0 then w.2.toInt else w.2.toNat
      decide (x.lo ≤ n) && decide (n ≤ x.hi)) &&
    (page != 3 || w.1 % 6 != 3 ||
      if w.1 / 6 < 12 then decide (w.2.toNat ≤ 4) else if w.1 / 6 < 18 then w.2.toNat == 0 || w.2.toNat == 5 else w.2.toNat == 6))
abbrev wRequested (page : Nat) (ws : List (Nat × Word)) : Option (Nat × Word) :=
  ws.find? fun w => (paramSpec page w.1).map ParamSpec.cls == some ParamClass.byRequest
/-- What the class of an index refuses. -/
abbrev wHeld (p : Part) (page i : Nat) : Option Status :=
  match (paramSpec page i).map ParamSpec.cls with
  | some .parked => if p.parked = true then none else some Status.interlock
  | some .offlineLoad =>
    if ((List.finRange 20).any fun l : LoadId => l.val == i / 6 && (p.load l).state != .off) = true then some .loadActive else none
  | some .offlineLine =>
    if ((List.finRange 6).any fun l : LineId => l.val == i / 11 && (p.line l).enabled) = true then some .lineEnabled else none
  | _ => none
/-- The first three checks pass, and the class of every written value. -/
abbrev wKept (p : Part) (page : Nat) (ws : List (Nat × Word)) : Prop :=
  wUnknown page ws = none ∧ wOutside page ws = none ∧ wRequested page ws = none ∧ ∀ w ∈ ws, wHeld p page w.1 = none
/-- The loads counted for bus 0 and the indices of a role, on page 3. -/
abbrev wCounted (qs : Pages) : List Nat := (List.range 20).filter fun l =>
  min 1 (qs.nat 3 (6 * l + 1)) == 0 && decide (2 ≤ qs.nat 3 (6 * l)) && qs.nat 3 (6 * l + 3) != 3 && qs.nat 3 (6 * l + 3) != 6
abbrev wRole (qs : Pages) (code : Nat) : List Nat := ((List.range 20).map fun l => 6 * l + 3).filter fun i => qs.nat 3 i == code
/-- Twelve general loads and four lights counted for bus 0. -/
def crowded : Part := [12, 13, 14, 15].foldl (fun p (l : Nat) => p.par 3 (6 * l + 1) 0) calm

theorem witness_ParameterWritesAreWholeOrNothing_checks :
    wUnknown 9 [(24, 1), (25, 0)] = some (25, 0) ∧ wUnknown 0 [(1, 7)] = some (1, 7) ∧
    (wUnknown 3 [(75, 1)] = none ∧ wOutside 3 [(75, 1)] = some (75, 1)) ∧
    (wUnknown 2 [(1, 0xFFD7)] = none ∧ wOutside 2 [(1, 0xFFD7)] = some (1, 0xFFD7)) ∧
    (wUnknown 5 [(66, 5), (55, 1)] = none ∧ wOutside 5 [(66, 5), (55, 1)] = none ∧
      wRequested 5 [(66, 5), (55, 1)] = some (55, 1)) ∧
    (wUnknown 1 [(2, 10)] = none ∧ wOutside 1 [(2, 10)] = none ∧ wRequested 1 [(2, 10)] = none ∧
      wHeld calm 1 2 = some .interlock) ∧
    wHeld (calm.onLoad 4) 3 27 = some .loadActive ∧ wHeld (calm.onLoad 4) 3 28 = none ∧
    wHeld (calm.ln 5 ({ · with enabled := true })) 5 65 = some .lineEnabled := by
  refine ⟨?_, ?_, ?_, ?_, ?_, ?_, ?_, ?_, ?_⟩ <;> decide +kernel

theorem witness_ParameterWritesAreWholeOrNothing_crossChecks :
    (let ws : List (Nat × Word) := [(5, 12)];
      wKept calm 7 ws ∧ (calm.params.written 7 ws).int 7 4 ≤ (calm.params.written 7 ws).int 7 5) ∧
    (let ws : List (Nat × Word) := [(3, 1), (9, 1)];
      wKept calm 3 ws ∧ wRole (calm.params.written 3 ws) 1 = [3, 9]) ∧
    (let ws : List (Nat × Word) := [(97, 0)];
      wKept crowded 3 ws ∧ (∀ code ∈ [1, 2, 3, 4, 5], (wRole (crowded.params.written 3 ws) code).length ≤ 1) ∧
        (wCounted crowded.params).length = 16 ∧ (wCounted (crowded.params.written 3 ws)).length = 17) ∧
    (let ws : List (Nat × Word) := [(5, 11)];
      wKept calm 7 ws ∧ ¬ (calm.params.written 7 ws).int 7 4 ≤ (calm.params.written 7 ws).int 7 5) := by
  refine ⟨?_, ?_, ?_, ?_⟩ <;> dsimp only
  all_goals decide +kernel

/-- `PagesOk`, decided. -/
def pagesOk (ps : Pages) : Bool :=
  decide (ps.length = 10) && (List.range 10).all fun page => decide ((ps.getD page []).length = pageLength page)

theorem pagesOk_iff (ps : Pages) : pagesOk ps = true ↔ PagesOk ps := by
  simp [pagesOk, PagesOk, List.all_eq_true]

/-- The hypotheses of an accepted write of one value, decided (AcceptedWritesHaveTheirConsequences). -/
def accepts (s : State) (page idx : Byte) (v : Word) : Bool :=
  decide (s.part.Ready ∧ s.part.mdc.mode ≠ .start ∧ pagesOk s.part.params = true ∧
    s.part.writeRefusal page.toNat [(idx.toNat, v)] = none)

theorem accepts_iff (s : State) (page idx : Byte) (v : Word) : accepts s page idx v = true ↔
    s.part.Ready ∧ s.part.mdc.mode ≠ .start ∧ PagesOk s.part.params ∧
      s.part.writeRefusal page.toNat [(idx.toNat, v)] = none := by
  simp [accepts, pagesOk_iff]

theorem witness_AcceptedWritesHaveTheirConsequences_several :
    ∃ s : State, s.part.Ready ∧ s.part.mdc.mode ≠ .start ∧ 4 ≤ (6 : Byte).toNat ∧ (6 : Byte).toNat ≤ 7 ∧
      1 ≤ (3 : Byte).toNat ∧ (3 : Byte).toNat ≤ 28 ∧ [(0 : Word), 3, 25000].length = (3 : Byte).toNat ∧
      s.part.writeRefusal (6 : Byte).toNat (writesFrom (0 : Byte).toNat [(0 : Word), 3, 25000]) = none :=
  ⟨active, by decide +kernel⟩

/-- The vehicle parked. -/
def parked : Part := { calm with mdc := { calm.mdc with signals := { calm.mdc.signals with handbrake := ⟨true, true, 200⟩ } } }
/-- LEAD with no inhibit. -/
def lead : Part := { parked.par 1 0 0 with chg := { calm.chg with coldInhibit := none } }
/-- LITHIUM with the battery at a temperature. -/
def battAt (t : Int) (inhibit : Option InhibitCause) : State :=
  st { calm with chg := { calm.chg with battTemp := some t, coldInhibit := inhibit } }
/-- The fresh tank with a level under an alarm. -/
def freshAt (level : Nat) (alarm : Bool) (x : TankLevel := .current) : State :=
  st { calm with wat := { calm.wat with fresh := { calm.wat.fresh with levelState := x, level := some level, alarm := alarm } } }
/-- The grey tank with a level under an alarm. -/
def greyAt (level : Nat) (alarm : Bool) : State :=
  st { calm with wat := { calm.wat with grey := { calm.wat.grey with levelState := .current, level := some level, alarm := alarm } } }
/-- The climate record changed. -/
def climate (f : Clm → Clm) (g : Part → Part := id) : State := st (g { calm with clm := f calm.clm })
/-- Every line at a no-data timer just below its limit. -/
def quiet (p : Part) : Prop := ∀ l, (p.line l).nodata = true ∨ (p.line l).nodataTimer < 1000
/-- S3 a line without a role, its mode that of a role. -/
def roleless (mode : Nat) : State := st (((calm.par 5 35 0).par 5 34 mode).ln 3 ({ · with nodataTimer := 999, ib := 60 }))

theorem witness_AcceptedWritesHaveTheirConsequences_banks :
    (accepts (st parked) 1 0 1 ∧ (st parked).part.params.chemistry = .lithium) ∧
    (accepts (st parked) 1 0 0) ∧ (accepts (st lead) 1 0 1 ∧ lead.chg.battTemp = none ∧ lead.params.chemistry = .lead) ∧
    (accepts (st parked) 1 1 100 ∧ parked.params.capacity .A = 100) ∧ (accepts (st parked) 1 2 10) ∧
    (accepts (st parked) 1 2 1000) ∧ (accepts active 1 3 1) ∧ (accepts active 1 4 65535) ∧ (accepts active 1 5 800) ∧
    (accepts active 1 6 1000) ∧ (accepts active 1 7 12000) ∧ (accepts active 1 45 1000) ∧
    (accepts (st lead) 2 1 20 ∧ lead.chg.coldInhibit = none ∧ lead.chg.pad = .noPad) ∧
    (accepts (battAt 3 none) 2 1 4) ∧ (accepts (battAt 4 none) 2 1 4) ∧ (accepts (battAt 9 (some .cold)) 2 1 4) ∧
    (accepts (battAt 10 (some .cold)) 2 1 4) := by decide +kernel

theorem witness_AcceptedWritesHaveTheirConsequences_loads :
    (accepts active 3 24 1 ∧ accepts active 3 25 1 ∧ accepts active 3 26 25000 ∧ accepts active 3 28 100) ∧
    (accepts active 3 29 0 ∧ accepts active 3 119 30000) ∧
    (accepts active 3 27 0 ∧ accepts active 3 27 1 ∧ accepts active 3 27 2 ∧ accepts active 3 27 3 ∧ accepts active 3 27 4 ∧
      calm.params.role 4 = .general ∧ calm.clm.call = false ∧ calm.clm.hold = false ∧ calm.clm.guard = .off) ∧
    (accepts (climate ({ · with guard := .dumped })) 3 27 3) ∧
    ((calm.role' 4 3).Admits 4 ∧ (calm.chan 4).switching ≠ .tripped ∧ accepts (st lead) 3 27 4) ∧
    (accepts (st (calm.role' 4 1)) 3 27 0 ∧ accepts (st (calm.role' 4 2)) 3 27 0 ∧ accepts (st (calm.role' 4 4)) 3 27 0 ∧
      ∀ l, l ≠ 4 → calm.params.role l ≠ .pump ∧ calm.params.role l ≠ .heater ∧ calm.params.role l ≠ .battPad) ∧
    (accepts active 4 8 200 ∧ accepts active 4 10 14000) ∧
    (accepts active 4 0 20000 ∧ accepts active 4 1 100) ∧
    (accepts (st ((calm.onLoad 4).onLoad 5)) 4 0 100 ∧
      ∀ l ∈ (((calm.onLoad 4).onLoad 5).bus .A).onList, (((calm.onLoad 4).onLoad 5).load l).motorClass ≠ some 2) ∧
    (accepts (st { calm with chg := { calm.chg with tieRelay := .joined } }) 4 7 1000) ∧ (accepts active 4 4 1000) ∧
    (accepts (st (calm.onLoad 4)) 4 3 500 ∧ ∀ l ∈ ((calm.onLoad 4).bus .A).onList, (calm.onLoad 4).effClass l ≤ 4) ∧
    (accepts (st (calm.shedLoad 4)) 4 11 1 ∧ accepts (st (calm.shedLoad 4)) 4 11 2 ∧
      ((calm.shedLoad 4).bus .A).stack.length = 1 ∧ ((calm.shedLoad 4).bus .A).depthMark = false) := by
  unfold Part.Admits; refine ⟨?_, ?_, ?_, ?_, ?_, ?_, ?_, ?_, ?_, ?_, ?_, ?_⟩ <;> decide +kernel

theorem witness_AcceptedWritesHaveTheirConsequences_units :
    (accepts (roleless 1) 5 36 0 ∧ accepts (roleless 1) 5 38 255 ∧ accepts (roleless 1) 5 66 5 ∧ accepts (roleless 1) 5 67 600 ∧
      quiet (roleless 1).part) ∧
    (accepts storing 5 67 10 ∧ quiet storing.part) ∧
    (accepts (st ((calm.par 5 2 0).par 5 35 0 |>.par 5 34 0)) 5 35 1 ∧ accepts (st ((calm.par 5 13 0).par 5 35 0 |>.par 5 34 0)) 5 35 2 ∧
      accepts (st ((calm.par 5 24 0).par 5 35 0 |>.par 5 34 2)) 5 35 3 ∧ accepts (roleless 1) 5 35 4 ∧
      accepts (st ((calm.par 5 46 0).par 5 35 0)) 5 35 5 ∧ accepts (st ((calm.par 5 57 0).par 5 35 0)) 5 35 6 ∧
      (roleless 1).part.params.lineRole 3 = .none ∧ ((roleless 1).part.line 3).value = none) ∧
    (accepts (freshAt 20 false) 6 0 20 ∧ accepts (freshAt 23 true) 6 0 20 ∧ accepts (freshAt 22 true) 6 0 20 ∧
      accepts (freshAt 22 true .held) 6 0 20 ∧ accepts (greyAt 20 false) 6 1 20 ∧ accepts (greyAt 17 true) 6 1 20) ∧
    (accepts active 6 2 100 ∧ accepts active 6 3 60 ∧ accepts active 6 4 20000 ∧ accepts active 6 38 0) ∧
    (accepts active 7 0 0 ∧ calm.params.loadWith .heater = none ∧ calm.clm.guard = .off) ∧
    (accepts (climate ({ · with cabin := some 38 }) (·.par 7 0 1)) 7 1 40) ∧
    (accepts (climate ({ · with guard := .safe })) 7 3 0 ∧ calm.params.guardEnabled = true) ∧
    (accepts (climate ({ · with unknownTimer := 59999 }) (·.par 7 3 0)) 7 3 1 ∧ calm.clm.bay = none) ∧
    (accepts (climate ({ · with guard := .dumped })) 7 3 0 ∧ accepts (climate ({ · with guard := .dumped })) 7 4 40 ∧
      accepts active 7 5 0 ∧ accepts active 7 6 2) ∧
    (accepts (climate ({ · with guard := .safe, bay := some 19 })) 7 4 20 ∧
      accepts (climate ({ · with guard := .safe, bay := some 5 })) 7 4 20 ∧ calm.params.dumpThreshold = 6) ∧
    (accepts active 7 7 60) := by unfold quiet; decide +kernel

theorem witness_ReadingRequestsOnlyRead :
    (∃ s : State, s.part.Ready) ∧
    (∃ s : State, s.part.Ready ∧ (9 : Byte).toNat ≤ 9 ∧ 1 ≤ (28 : Byte).toNat ∧ (28 : Byte).toNat ≤ 28 ∧
      (24 : Byte).toNat < pageLength ((9 : Byte).toNat)) ∧
    (∃ s : State, s.part.Ready ∧ (9 < (10 : Byte).toNat ∨ (28 : Byte).toNat < 1 ∨ 28 < (28 : Byte).toNat)) ∧
    (∃ s : State, s.part.Ready ∧ (9 : Byte).toNat ≤ 9 ∧ 1 ≤ (28 : Byte).toNat ∧ (28 : Byte).toNat ≤ 28 ∧
      pageLength ((9 : Byte).toNat) ≤ (25 : Byte).toNat) ∧
    (∃ s : State, s.part.Ready ∧ bankArg (1 : Byte) = some Bank.B) ∧
    (∃ s : State, s.part.Ready ∧ loadArg (19 : Byte) = some (19 : LoadId)) ∧
    (∃ s : State, s.part.Ready ∧ tankArg (1 : Byte) = some Tank.grey) ∧
    (∃ s : State, s.part.Ready ∧ channelsArg (255 : Byte) = some (List.finRange 20)) ∧
    (∃ s : State, s.part.Ready ∧ linesArg (5 : Byte) = some [(5 : LineId)]) := by
  refine ⟨⟨active, by decide +kernel⟩,
    ⟨active, by decide +kernel⟩,
    ⟨active, by decide +kernel⟩,
    ⟨active, by decide +kernel⟩,
    ⟨active, by decide +kernel⟩,
    ⟨active, by decide +kernel⟩,
    ⟨active, by decide +kernel⟩,
    ⟨active, by decide +kernel⟩,
    ⟨active, by decide +kernel⟩⟩

theorem witness_LoadDefaultsSetsWorkingValuesOnly :
    (∃ s : State, s.part.Ready ∧ s.part.mdc.mode = .start) ∧
    (∃ s : State, s.part.Ready ∧ (s.part.mdc.mode = .active ∨ s.part.mdc.mode = .storage)) ∧
    (∃ s : State, s.part.Ready ∧ s.part.mdc.mode = .service ∧ s.part.out.exercise.isSome = true) ∧
    (let s := st ((service.part.onLoad 3).ln 0 ({ · with enabled := true }));
      s.part.Ready ∧ s.part.mdc.mode = .service ∧ s.part.out.exercise = none ∧
        (∀ page < 10, (s.part.params.getD page []).length = pageLength page) ∧ s.part.params.length = 10 ∧
        (∀ l, s.part.params.role l ≠ .battPad) ∧ s.part.parked = false ∧ (s.part.load 3).state ≠ .off ∧
        (s.part.line 1).enabled = false ∧ s.part.params.lineField 0 2 = 1) := by
  refine ⟨⟨starting, by decide +kernel⟩,
    ⟨active, by decide +kernel⟩,
    ⟨st {service.part with out := {calm.out with exercise := some 3}}, by decide +kernel⟩, ?_⟩
  dsimp only
  decide +kernel

end Requests

/-! ### Witnesses: start-up -/

namespace Start

/-- The part before its start-up load, the image in the store at its defaults under a CRC. -/
def loading (crc : Word) : State :=
  { State.reset with part := { Part.reset with lnk := { Lnk.reset with store := ⟨defaultPages, crc⟩ } } }
/-- The hypotheses of the start-up load. -/
abbrev BeforeLoad (s : State) : Prop := s.part.outbox = [] ∧ s.part.lnk.requests = [] ∧ s.part.mdc.mode = .start

theorem test_loading_store (crc : Word) :
    (loading crc).part.lnk.store.crc = crc ∧ (loading crc).part.lnk.store.image = defaultPages := ⟨rfl, rfl⟩

theorem test_crc_complement (x : Word) : ~~~x ≠ x := fun h => by
  have h := congrArg (·.getLsbD 0) h
  simp at h

theorem witness_StartUpLoadSetsSettingsContentsAndLines :
    (∃ s : State, BeforeLoad s ∧ s.part.mdc.settings.isSome = true) ∧
    (∃ s : State, BeforeLoad s ∧ s.part.mdc.settings = none ∧ s.part.lnk.store.crc = imageCrc s.part.lnk.store.image) ∧
    (∃ s : State, BeforeLoad s ∧ s.part.mdc.settings = none ∧ s.part.lnk.store.crc ≠ imageCrc s.part.lnk.store.image) :=
  ⟨⟨st {calm with mdc := {calm.mdc with mode := .start}}, by decide +kernel⟩,
    ⟨loading (imageCrc defaultPages), ⟨rfl, rfl, rfl⟩, rfl, by rw [(test_loading_store _).1, (test_loading_store _).2]⟩,
    ⟨loading (~~~imageCrc defaultPages), ⟨rfl, rfl, rfl⟩, rfl, by
      rw [(test_loading_store _).1, (test_loading_store _).2]
      exact test_crc_complement _⟩⟩

end Start

/-! ### Witnesses: banks, charge and the tie -/

namespace Charge

/-- The current of bank A for the count 0xFF00. -/
def draw (p : Part) : Int := divHalfAway ((BitVec.toInt (65280 : Word) - (p.bank .A).offset) * ↑(p.params.gain .A)) 1024

/-- Bank A counting, its record changed. -/
def counting (f : BankRec → BankRec) : Part := { calm with bnk := ⟨f {BankRec.reset with
    acct := .counting, secondCount := 3, estimated := false}, {BankRec.reset with acct := .counting}, none⟩ }
/-- D+ as given. -/
def withDplus (p : Part) (b : Bool) : Part := { p with mdc := {p.mdc with signals := {p.mdc.signals with dplus := ⟨b,b,500⟩} } }
/-- The starter record with its counts, D+ active. -/
def starter (h l d : Nat) (c : Bool) := st (withDplus { calm with chg := {calm.chg with
    highCount := h, lowCount := l, dplusCount := d, splitClosed := c, coldInhibit := none} } true)
/-- A battery temperature gone stale, with a pad state, an inhibit and a chemistry. -/
def battery (pad : PadState) (i : Option InhibitCause) (ch : Nat) := st ({ calm with chg := {calm.chg with
    battTimer := some 0, battTemp := some 30, pad := pad, coldInhibit := i, shoreEnable := true, solarEnable :=
    true, splitClosed := true} }.par 1 0 ch)
/-- A pad refused for LOW_CHARGE on L4, its retry due. -/
def padRefused (f : Part → Part) := st (f ((({ calm with chg := {calm.chg with
    pad := .refused .lowCharge, padRetry := some 0, coldInhibit := some .cold, battTemp := some 5}, mdc :=
    {calm.mdc with signals := {calm.mdc.signals with mainsOk := ⟨true,true,2000⟩}} } : Part).role' 4 4)))
/-- The handbrake applied. -/
def parked (p : Part) : Part := { p with mdc := {p.mdc with signals := {p.mdc.signals with handbrake := ⟨true,true,200⟩} } }
/-- Parked with the tie JOINED. -/
def joinedParked := st {parked calm with chg := {calm.chg with tieRelay := .joined}}

theorem witness_CountingSampleDoesItsWorkInOrder :
    (∃ s : State, (s.part.bank Bank.A).acct = .counting ∧ 7 ≤ (List.getD s.part.params 1 []).length) ∧
    (∃ s : State, (s.part.bank Bank.A).acct = .counting ∧ (s.part.bank Bank.A).secondCount ≠ 0 ∧
      (s.part.bank Bank.A).minuteCount < 599 ∧ s.part.outbox = [] ∧ s.part.chg.tieRelay = .split ∧
      draw s.part < (0 : ℤ) ∧
      s.part.params.restCurrent < (draw s.part).natAbs ∧
      (0 : ℤ) < ↑(s.part.bank Bank.A).content + draw s.part ∧
      (s.part.bank Bank.A).full = false ∧ (s.part.bank Bank.A).empty = false ∧
      s.part.params.fullContent Bank.A * 5 < (↑(s.part.bank Bank.A).content + draw s.part).toNat * 1000 ∧
      (↑(s.part.bank Bank.A).content + draw s.part).toNat ≤ s.part.params.fullContent Bank.A ∧
      ((s.part.bus .A).onList = []) ∧
      ((s.part.bus .A).uvFlag = false) ∧
      (busCutOf s.part.params .A ≤ min 20000 (Int.toNat (13000 : ℤ)))) := by
  refine ⟨⟨st (counting id), by decide +kernel⟩,
    ⟨st (counting id), by decide +kernel⟩⟩

theorem witness_BankZeroChecksThenCalibrates :
    (∃ s : State, s.part.Ready ∧ zeroArg (2 : Byte) = some { a := true, b := true : Zeroing } ∧ s.part.mdc.mode = .start) ∧
    (∃ s : State, s.part.Ready ∧ zeroArg (2 : Byte) = some { a := true, b := true : Zeroing } ∧
      (s.part.mdc.mode = .active ∨ s.part.mdc.mode = .storage)) ∧
    (∃ s : State, s.part.Ready ∧ zeroArg (0 : Byte) = some { a := true, b := false : Zeroing } ∧ s.part.mdc.mode = .service ∧
      s.part.out.exercise.isSome = true) ∧
    (∃ s : State, s.part.Ready ∧ zeroArg (1 : Byte) = some { a := false, b := true : Zeroing } ∧ s.part.mdc.mode = .service ∧
      s.part.out.exercise = none ∧ (∃ l, (s.part.load l).state = .on ∧ s.part.params.role l ≠ .frostValve)) ∧
    (∃ s : State, s.part.Ready ∧ zeroArg (1 : Byte) = some { a := false, b := true : Zeroing } ∧ s.part.mdc.mode = .service ∧
      s.part.out.exercise = none ∧ (¬∃ l, (s.part.load l).state = .on ∧ s.part.params.role l ≠ .frostValve) ∧
      s.part.chg.calHold = false) := by
  refine ⟨⟨starting, by decide +kernel⟩,
    ⟨active, by decide +kernel⟩,
    ⟨st {service.part with out := {calm.out with exercise := some 3}}, by decide +kernel⟩,
    ⟨st (service.part.onLoad 3), by decide +kernel⟩,
    ⟨st {service.part with chg := {calm.chg with
        tieRelay := .joined, splitClosed := true, shoreEnable := true, solarEnable := true}}, by decide +kernel⟩⟩

theorem witness_StarterSampleCountsAndSwitches :
    (∃ s : State, s.part.outbox = [] ∧ s.part.chg.splitClosed = true ∧
      (if min 20000 (Int.toNat (13199 : ℤ)) < 12700 then min 100 (s.part.chg.lowCount + 1) else 0) ≠ 100) ∧
    (∃ s : State, s.part.outbox = [] ∧ s.part.chg.splitClosed = true ∧
      (if min 20000 (Int.toNat (12699 : ℤ)) < 12700 then min 100 (s.part.chg.lowCount + 1) else 0) = 100) ∧
    (∃ s : State, s.part.outbox = [] ∧ s.part.chg.splitClosed = false ∧ (¬(s.part.dplus = true ∧
      (if s.part.dplus = true then min 50 (s.part.chg.dplusCount + 1) else s.part.chg.dplusCount) = 50 ∧
      (if 13200 ≤ min 20000 (Int.toNat (13200 : ℤ)) then min 50 (s.part.chg.highCount + 1) else 0) = 50 ∧
      s.part.chg.coldInhibit = none ∧ s.part.chg.calHold = false))) ∧
    (∃ s : State, s.part.outbox = [] ∧ s.part.chg.splitClosed = false ∧ (s.part.dplus = true ∧
      (if s.part.dplus = true then min 50 (s.part.chg.dplusCount + 1) else s.part.chg.dplusCount) = 50 ∧
      (if 13200 ≤ min 20000 (Int.toNat (13200 : ℤ)) then min 50 (s.part.chg.highCount + 1) else 0) = 50 ∧
      s.part.chg.coldInhibit = none ∧ s.part.chg.calHold = false)) := by
  refine ⟨⟨starter 3 3 3 true, by decide +kernel⟩,
    ⟨starter 3 99 3 true, by decide +kernel⟩,
    ⟨starter 48 99 49 false, by decide +kernel⟩,
    ⟨starter 49 99 49 false, by decide +kernel⟩⟩

theorem witness_OcvLookupInterpolates :
    defaultPages.ocvTable.length = 8 ∧ defaultPages.ocvTable.Pairwise (fun a b => a.1 < b.1 ∧ a.2 ≤ b.2) ∧
      (defaultPages.ocvTable.getD 0 (0, 0)).1 = 12000 ∧ 11999 < 12000 ∧ (defaultPages.ocvTable.getD 7 (0, 0)).1 = 13600 ∧
      13600 < 13601 ∧ (defaultPages.ocvTable.getD 3 (0, 0)).1 ≤ 13260 ∧ 13260 ≤ (defaultPages.ocvTable.getD 4 (0, 0)).1 ∧
      (defaultPages.ocvTable.getD 6 (0, 0)).1 ≤ 13600 := by decide +kernel

theorem witness_BatteryTemperatureAndPadFollow :
    (∃ s : State, s.part.outbox = [] ∧ s.part.chg.battTimer.isSome = true ∧ s.part.mdc.mode = .active ∧
      s.part.ageOf .battTemp = some 10000 ∧ s.part.chg.pad = .idle ∧ s.part.params.chemistry = .lithium ∧
      s.part.chg.coldInhibit = some InhibitCause.unknown) ∧
    (∃ s : State, s.part.outbox = [] ∧ s.part.chg.battTimer.isSome = true ∧ s.part.mdc.mode = .active ∧
      s.part.ageOf .battTemp = none ∧ s.part.chg.pad = .noPad ∧ s.part.params.chemistry = .lead ∧
      s.part.chg.coldInhibit = none) ∧
    (∃ s : State, s.part.outbox = [] ∧ s.part.chg.battTimer.isSome = true ∧ s.part.mdc.mode = .active ∧
      s.part.ageOf .battTemp = some 9999 ∧ s.part.chg.pad = .noPad ∧ s.part.params.chemistry = .lead ∧
      s.part.chg.coldInhibit = none) ∧
    (∃ s : State, s.part.outbox = [] ∧ s.part.chg.battTimer.isSome = true ∧ s.part.mdc.mode = .storage ∧
      s.part.ageOf .battTemp = some 120000 ∧ 2 * s.part.params.dutyMs = 120000 ∧ s.part.params.chemistry = .lithium ∧
      s.part.chg.coldInhibit ≠ some InhibitCause.unknown) ∧
    (∃ s : State, s.part.outbox = [] ∧ s.part.chg.battTimer.isSome = true ∧ s.part.mdc.mode = .active ∧
      s.part.ageOf .battTemp = some 10000 ∧ s.part.chg.pad = .idle ∧ s.part.params.chemistry = .lithium ∧
      s.part.chg.coldInhibit = some InhibitCause.cold ∧ s.part.chg.shoreEnable = false ∧ s.part.chg.solarEnable = false ∧
      s.part.chg.splitClosed = false) ∧
    (∃ s : State, s.part.outbox = [] ∧ s.part.chg.padRetry.isSome = true ∧ s.part.chg.pad = .refused Status.lowCharge ∧
      s.part.params.loadWith Role.battPad = some (4 : LoadId) ∧ (4 : LoadId).val < 12 ∧ ¬ (s.part.params.chemistry = .lithium ∧
        (s.part.chg.battTemp.any fun t => decide (t < s.part.params.chargeMinimum + 6)) = true ∧
        (s.part.mains = true ∨ s.part.dplus = true) ∧ (s.part.mdc.mode = .active ∨ s.part.mdc.mode = .storage)) ∧
      (s.part.load 4).wanted = false) ∧
    (∃ s : State, s.part.outbox = [] ∧ s.part.chg.padRetry.isSome = true ∧ s.part.chg.pad = .refused Status.lowCharge ∧
      s.part.params.loadWith Role.battPad = some (4 : LoadId) ∧ (4 : LoadId).val < 12 ∧ (s.part.params.chemistry = .lithium ∧
        (s.part.chg.battTemp.any fun t => decide (t < s.part.params.chargeMinimum + 6)) = true ∧
        (s.part.mains = true ∨ s.part.dplus = true) ∧ (s.part.mdc.mode = .active ∨ s.part.mdc.mode = .storage)) ∧
      (s.part.load 4).state = .faulted ∧ s.part.modeRefusal 4 (s.part.effClass 4) = none) ∧
    (∃ s : State, s.part.outbox = [] ∧ s.part.chg.padRetry.isSome = true ∧ s.part.chg.pad = .refused Status.lowCharge ∧
      s.part.params.loadWith Role.battPad = some (4 : LoadId) ∧ (4 : LoadId).val < 12 ∧ (s.part.params.chemistry = .lithium ∧
        (s.part.chg.battTemp.any fun t => decide (t < s.part.params.chargeMinimum + 6)) = true ∧
        (s.part.mains = true ∨ s.part.dplus = true) ∧ (s.part.mdc.mode = .active ∨ s.part.mdc.mode = .storage)) ∧
      (s.part.load 4).state = .shed ∧ s.part.modeRefusal 4 (s.part.effClass 4) = none) ∧
    (∃ s : State, s.part.outbox = [] ∧ s.part.chg.padRetry.isSome = true ∧ s.part.chg.pad = .refused Status.lowCharge ∧
      s.part.params.loadWith Role.battPad = some (4 : LoadId) ∧ (4 : LoadId).val < 12 ∧ (s.part.params.chemistry = .lithium ∧
        (s.part.chg.battTemp.any fun t => decide (t < s.part.params.chargeMinimum + 6)) = true ∧
        (s.part.mains = true ∨ s.part.dplus = true) ∧ (s.part.mdc.mode = .active ∨ s.part.mdc.mode = .storage)) ∧
      s.part.Admits 4 ∧ (s.part.chan 4).switching ≠ .tripped) ∧
    (∃ s : State, s.part.outbox = [] ∧ s.part.chg.padRetry.isSome = true ∧ s.part.chg.pad = .refused Status.lowCharge ∧
      s.part.params.loadWith Role.battPad = some (4 : LoadId) ∧ (4 : LoadId).val < 12 ∧ (s.part.params.chemistry = .lithium ∧
        (s.part.chg.battTemp.any fun t => decide (t < s.part.params.chargeMinimum + 6)) = true ∧
        (s.part.mains = true ∨ s.part.dplus = true) ∧ (s.part.mdc.mode = .active ∨ s.part.mdc.mode = .storage)) ∧
      (s.part.load 4).state = .off ∧ s.part.modeRefusal 4 (s.part.effClass 4) = none ∧
      s.part.chargeRefusal (s.part.busOf 4) (s.part.effClass 4) = true ∧ Status.lowCharge = Status.lowCharge) := by
  refine ⟨⟨st ((battery .idle (some .unknown) 1).part.ln 5 ({ · with age := some 10000 })), by decide +kernel⟩,
    ⟨battery .noPad none 0, by decide +kernel⟩,
    ⟨st ((battery .noPad none 0).part.ln 5 ({ · with age := some 9999 })), by decide +kernel⟩,
    ⟨st { (battery .idle none 1).part.ln 5 ({ · with age := some 120000 }) with mdc := storing.part.mdc }, by decide +kernel⟩,
    ⟨st { (battery .idle (some .cold) 1).part.ln 5 ({ · with age := some 10000 }) with
      chg := {(battery .idle (some .cold) 1).part.chg with shoreEnable := false, solarEnable := false, splitClosed := false} },
      by decide +kernel⟩,
    ⟨padRefused fun p => {p with mdc := {p.mdc with signals := calm.mdc.signals}}, by decide +kernel⟩,
    ⟨padRefused fun p => p.ld 4 ({ · with state := .faulted}), by decide +kernel⟩,
    ⟨padRefused fun p => p.shedLoad 4, by decide +kernel⟩,
    ⟨padRefused id, by unfold Part.Admits; decide +kernel⟩,
    ⟨padRefused fun p => {p with ldm := {p.ldm with busA := {p.ldm.busA with soc := 100}}}, by decide +kernel⟩⟩

theorem witness_TieSetJoinsAndSplits :
    (∃ s : State, s.part.Ready ∧ s.part.mdc.mode = .start ∧ (1 : Byte).toNat ≤ 1) ∧
    (∃ s : State, s.part.Ready ∧ (s.part.mdc.mode = .storage ∨ s.part.mdc.mode = .service) ∧ (1 : Byte).toNat ≤ 1) ∧
    (∃ s : State, s.part.Ready ∧ s.part.mdc.mode = .active ∧ (s.part.parked = false ∨ s.part.mot.active.isSome = true) ∧
      (1 : Byte).toNat ≤ 1) ∧
    (∃ s : State, s.part.Ready ∧ s.part.mdc.mode = .active ∧ s.part.parked = true ∧ s.part.mot.active = none ∧
      s.part.chg.tieRelay = .joined) ∧
    (∃ s : State, s.part.Ready ∧ s.part.mdc.mode = .active ∧ s.part.parked = true ∧ s.part.mot.active = none ∧
      s.part.chg.tieRelay = .split) ∧
    (∃ s : State, s.part.Ready ∧ s.part.mdc.mode = .active ∧ s.part.parked = true ∧ s.part.mot.active = none ∧
      s.part.chg.tieRelay = .split ∧ (s.part.ldm.busA.onList = [] ∧ s.part.ldm.busA.stack = []) ∧ (s.part.ldm.busB.onList = [] ∧
      s.part.ldm.busB.stack = []) ∧ 0 < busWarnOf s.part.params BusName.joined) ∧
    (∃ s : State, s.part.Ready ∧ s.part.mdc.mode = .active ∧ s.part.parked = true ∧ s.part.mot.active = none ∧
      s.part.chg.tieRelay = .joined ∧ (s.part.ldm.busJ.onList = [] ∧ s.part.ldm.busJ.stack = []) ∧
      0 < busWarnOf s.part.params BusName.A ∧ 0 < busWarnOf s.part.params BusName.B) := by
  refine ⟨⟨starting, by decide +kernel⟩,
    ⟨service, by decide +kernel⟩,
    ⟨active, by decide +kernel⟩,
    ⟨joinedParked, by decide +kernel⟩,
    ⟨st (parked calm), by decide +kernel⟩,
    ⟨st (parked calm), by decide +kernel⟩,
    ⟨joinedParked, by decide +kernel⟩⟩

end Charge

/-! ### Witnesses: loads, channels and trips -/

namespace Loads

/-- Bus A just below the class 3 floor. -/
def lowCharge := st {calm with ldm := {calm.ldm with busA := {calm.ldm.busA with soc := 349}}}
/-- Bus A with a limit of 1 A and the awning motor ON. -/
def tight := st ((calm.onLoad 18).par 4 0 100)
/-- The below-cut timer of bus A due. -/
def belowCut (p : Part) := st (p.setBus .A { p.bus .A with belowCut := some 0 })
/-- L4 SHED at 0 s, at 40 s. -/
def examined (p : Part) := st {p.shedLoad 4 with uptime := 40}
/-- A motion under way. -/
def motionOf (st' : Stage) : Motion := ⟨.awn, .extend, none, 2, st', .retracted, some 0, 500, 20000⟩
/-- A step motion inward in BACKOFF. -/
def stepBack : Motion := { motionOf .backoff with axis := .step, dir := .retract }
/-- A motion under way with its motor ON and its timers running. -/
def moving (f : Part → Part) (m : Motion) : State :=
  let p := (calm.onLoad (motorOf m.axis)).setAxis m.axis { calm.axis m.axis with state := .extending, position := some 0 }
  st (f { p with mot := { p.mot with
    active := some m, bridge := .outward, tick := some 0, timeout := some 100, watch := some 9, backoff := some 0
    inrush := some 3 } })
/-- The zero calibration at a channel and a pass. -/
def zeroing (c : LoadId) (n : Nat) : State :=
  st ({ Part.reset with
    out := { Out.reset with zeroPass := some n, running := some ⟨c, .sweep, false, false, 0⟩, sweepPos := c }
    mdc := { Mdc.reset with settings := some .loaded, bankDone := true } }.ch 4 ({ · with calSum := -1800, switching := .off }))

theorem witness_LoadSetSwitchesAHostsLoad :
    (∃ s : State, s.part.Ready ∧ (4 : LoadId).val < 12 ∧ ownerOf s.part.params 4 = .host ∧ s.part.mdc.mode ≠ .start ∧
      (s.part.mdc.mode = .storage ∧ 3 ≤ s.part.effClass 4 ∨ s.part.mdc.mode = .service)) ∧
    (∃ s : State, s.part.Ready ∧ (4 : LoadId).val < 12 ∧ ownerOf s.part.params 4 = .host ∧ s.part.mdc.mode ≠ .start ∧
      ¬ (s.part.mdc.mode = .storage ∧ 3 ≤ s.part.effClass 4 ∨ s.part.mdc.mode = .service) ∧
      (s.part.load 4).state = .faulted) ∧
    (∃ s : State, s.part.Ready ∧ (4 : LoadId).val < 12 ∧ ownerOf s.part.params 4 = .host ∧ s.part.mdc.mode ≠ .start ∧
      ¬ (s.part.mdc.mode = .storage ∧ 3 ≤ s.part.effClass 4 ∨ s.part.mdc.mode = .service) ∧
      (s.part.load 4).state = .exercised) ∧
    (∃ s : State, s.part.Ready ∧ (4 : LoadId).val < 12 ∧ ownerOf s.part.params 4 = .host ∧ s.part.mdc.mode ≠ .start ∧
      ¬ (s.part.mdc.mode = .storage ∧ 3 ≤ s.part.effClass 4 ∨ s.part.mdc.mode = .service) ∧
      (s.part.load 4).state = .shed) ∧
    (∃ s : State, s.part.Ready ∧ (4 : LoadId).val < 12 ∧ ownerOf s.part.params 4 = .host ∧ s.part.mdc.mode ≠ .start ∧
      ¬ (s.part.mdc.mode = .storage ∧ 3 ≤ s.part.effClass 4 ∨ s.part.mdc.mode = .service) ∧
      (s.part.load 4).state = .on) ∧
    (∃ s : State, s.part.Ready ∧ (4 : LoadId).val < 12 ∧ ownerOf s.part.params 4 = .host ∧ s.part.mdc.mode ≠ .start ∧
      ¬ (s.part.mdc.mode = .storage ∧ 3 ≤ s.part.effClass 4 ∨ s.part.mdc.mode = .service) ∧
      (s.part.load 4).state = .off ∧ 2 ≤ s.part.effClass 4 ∧
      ((s.part.bus (s.part.busOf 4)).soc < busFloorOf s.part.params (s.part.busOf 4) (s.part.effClass 4) ∨
          (s.part.bus (s.part.busOf 4)).uvFlag = true)) ∧
    (∃ s : State, s.part.Ready ∧ (4 : LoadId).val < 12 ∧ ownerOf s.part.params 4 = .host ∧ s.part.mdc.mode ≠ .start ∧
      ¬ (s.part.mdc.mode = .storage ∧ 3 ≤ s.part.effClass 4 ∨ s.part.mdc.mode = .service) ∧
      (s.part.load 4).state = .off ∧
      s.part.chargeRefusal (s.part.busOf 4) (s.part.effClass 4) = false ∧ 2 ≤ s.part.effClass 4 ∧
      busLimitOf s.part.params (s.part.busOf 4) < s.part.committedSum (s.part.busOf 4) + s.part.committed 4 -
        (((s.part.victims (s.part.busOf 4) fun c => decide (s.part.effClass 4 < c)).filter (· ≠ (4 : LoadId))).map
          s.part.committed).sum) ∧
    (∃ s : State, s.part.Ready ∧ (4 : LoadId).val < 12 ∧ ownerOf s.part.params 4 = .host ∧ s.part.mdc.mode ≠ .start ∧
      s.part.Admits 4 ∧ (s.part.chan 4).switching ≠ .tripped) ∧
    (∃ s : State, s.part.Ready ∧ s.part.mdc.mode ≠ .start ∧ ownerOf s.part.params 4 = .host ∧ (s.part.load 4).state = .off) ∧
    (∃ s : State, s.part.Ready ∧ s.part.mdc.mode ≠ .start ∧ ownerOf s.part.params 4 = .host ∧ (s.part.load 4).state = .on) ∧
    (∃ s : State, s.part.Ready ∧ s.part.mdc.mode ≠ .start ∧ ownerOf s.part.params 14 ≠ .host) := by
  refine ⟨⟨storing, by decide +kernel⟩,
    ⟨st (calm.ld 4 ({ · with state := .faulted})), by decide +kernel⟩,
    ⟨st (calm.ld 4 ({ · with state := .exercised})), by decide +kernel⟩,
    ⟨st (calm.shedLoad 4), by decide +kernel⟩,
    ⟨st (calm.onLoad 4), by decide +kernel⟩,
    ⟨lowCharge, by decide +kernel⟩,
    ⟨tight, by decide +kernel⟩,
    ⟨active, by unfold Part.Admits; decide +kernel⟩,
    ⟨active, by decide +kernel⟩,
    ⟨st (calm.onLoad 4), by decide +kernel⟩,
    ⟨active, by decide +kernel⟩⟩

/-- L14 SHED with its light's target above its present level, at 40 s. -/
def examinedLight : State :=
  st { ((calm.setLight 2 { LightRec.reset with target := 700, present := 699 }).shedLoad 14).ld 14 ({ · with wantedLevel := 700 })
    with uptime := 40 }
/-- The five conditions of R63 for the top of a bus's stack. -/
abbrev Restorable (p : Part) (b : BusName) (e : ShedEntry) : Prop :=
  30 ≤ (p.uptime - e.shedAt).toNat ∧
    busFloorOf p.params b (p.effClass e.load) + p.params.restoreHysteresis ≤ (p.bus b).soc ∧ (p.bus b).uvFlag = false ∧
    p.modeRefusal e.load (p.effClass e.load) = none ∧
    p.committedSum b + p.committed e.load ≤ busLimitOf p.params b
/-- The hypotheses of a restored top, over a bus on which it alone is SHED (UndervoltageShedsAndTheStackRestores). -/
abbrev Restores (s : State) (b : BusName) (l : LoadId) : Prop :=
  s.part.outbox = [] ∧ b ∈ s.part.liveBuses ∧ (∀ b' ∈ s.part.liveBuses, b' ≠ b → (s.part.bus b').stack = []) ∧
    (s.part.bus b).stack = [] ++ [⟨l, .room, 0⟩] ∧ s.part.busOf l = b ∧ (s.part.chan l).switching ≠ .tripped ∧
    0 < busWarnOf s.part.params b ∧ Restorable s.part b ⟨l, .room, 0⟩

theorem witness_UndervoltageShedsAndTheStackRestores :
    (∃ s : State, s.part.outbox = [] ∧ (s.part.bus BusName.A).belowCut.isSome = true ∧ (s.part.bus BusName.A).onList = []) ∧
    (∃ s : State, s.part.outbox = [] ∧ (s.part.bus BusName.A).belowCut.isSome = true ∧
      (s.part.bus BusName.A).onList = [4, 5, 18] ∧ (∀ l ∈ (s.part.bus BusName.A).onList, s.part.effClass l ≤ 4) ∧
      s.part.effClass 5 = 4 ∧ s.part.sheddable 5 = true) ∧
    (∃ s : State, s.part.outbox = [] ∧ s.part.liveBuses = [.A, .B] ∧ (s.part.bus .A).stack.getLast? = some ⟨4, .room, 0⟩ ∧
      ¬ Restorable s.part .A ⟨4, .room, 0⟩ ∧ (s.part.bus .B).stack = []) ∧
    (Restores (examined calm) .A 4 ∧ (examined calm).part.params.role 4 = .general) ∧
    (Restores (examined (calm.role' 4 1)) .A 4 ∧ (examined (calm.role' 4 1)).part.params.role 4 = .pump) ∧
    (Restores (examined (calm.role' 4 2)) .A 4 ∧ (examined (calm.role' 4 2)).part.params.role 4 = .heater ∧
      (examined (calm.role' 4 2)).part.clm.heater ≠ .running) ∧
    (Restores (examined (calm.role' 4 4)) .A 4 ∧ (examined (calm.role' 4 4)).part.params.role 4 = .battPad ∧
      (examined (calm.role' 4 4)).part.chg.pad ≠ .running) ∧
    (Restores examinedLight .B 14 ∧ examinedLight.part.out.exercise ≠ some 14 ∧ (examinedLight.part.light 2).present = 699 ∧
      (examinedLight.part.light 2).target = 700) := by
  refine ⟨⟨belowCut calm, by decide +kernel⟩,
    ⟨belowCut ((((calm.par 3 30 4).onLoad 4).onLoad 5).onLoad 18), by decide +kernel⟩,
    ⟨examined {calm with mdc := {calm.mdc with mode := .storage}}, by decide +kernel⟩,
    by decide +kernel, by decide +kernel, by decide +kernel, by decide +kernel, by decide +kernel⟩

theorem witness_TripsSwitchOffAndFault :
    (∃ s : State, s.part.outbox = [] ∧ ((s.part.chan 3).switching ≠ .on ∨ (s.part.chan 3).latched.short = true)) ∧
    (∃ s : State, s.part.outbox = [] ∧ (s.part.chan 3).switching = .on ∧ (s.part.chan 3).latched.short = false ∧
      (3 : LoadId).val < 12 ∧ s.part.params.role 3 = .general ∧ s.part.out.exercise ≠ some (3 : LoadId) ∧
          (s.part.load 3).state = .on) ∧
    (∃ s : State, s.part.outbox = [] ∧ s.part.mot.active = some (motionOf Stage.drive) ∧ s.part.mot.pend = none ∧
      ((motionOf Stage.drive).stage = .drive ∨ (motionOf Stage.drive).stage = .backoff) ∧
      (s.part.chan (motorOf (motionOf Stage.drive).axis)).switching = .on ∧
      (s.part.chan (motorOf (motionOf Stage.drive).axis)).latched.short = false ∧
      (s.part.load (motorOf (motionOf Stage.drive).axis)).state = .on) ∧
    (∃ s : State, s.part.outbox = [] ∧
      s.part.mot.active = some stepBack ∧
      s.part.mot.pend = none ∧
      (stepBack.stage = .drive ∨ stepBack.stage = .backoff) ∧
      (s.part.chan (motorOf stepBack.axis)).switching = .on ∧
      (s.part.chan (motorOf stepBack.axis)).latched.short = false ∧
      (s.part.load (motorOf stepBack.axis)).state = .on) := by
  refine ⟨⟨active, by decide +kernel⟩,
    ⟨st (calm.onLoad 3), by decide +kernel⟩,
    ⟨moving id (motionOf .drive), by decide +kernel⟩,
    ⟨moving id stepBack, by decide +kernel⟩⟩

/-- The hypotheses of a short of a unit's ON load (TripsSwitchOffAndFault). -/
abbrev Shorts (s : State) (c : LoadId) : Prop :=
  s.part.outbox = [] ∧ (s.part.chan c).switching = .on ∧ (s.part.chan c).latched.short = false ∧
    s.part.out.exercise ≠ some c ∧ (s.part.load c).state = .on

theorem witness_TripsSwitchOffAndFault_units :
    (Shorts (st (calm.onLoad 12)) 12 ∧ Shorts (st (calm.onLoad 17)) 17) ∧
    (let p := ({ calm with wat := { calm.wat with pump := .running, request := true } }.role' 5 1).onLoad 5;
      Shorts (st p) 5 ∧ p.params.role 5 = .pump) ∧
    (let p := ({ calm with clm := { calm.clm with heater := .running } }.role' 7 2).onLoad 7;
      Shorts (st p) 7 ∧ p.params.role 7 = .heater ∧ p.clm.heater = .running) ∧
    (let p := ({ calm with chg := { calm.chg with pad := .running } }.role' 11 4).onLoad 11;
      Shorts (st p) 11 ∧ p.params.role 11 = .battPad ∧ p.chg.pad = .running ∧ p.mdc.mode ≠ .service) ∧
    (let p := ({ service.part with chg := { calm.chg with pad := .idle } }.role' 11 4).onLoad 11;
      Shorts (st p) 11 ∧ p.params.role 11 = .battPad ∧ p.mdc.mode = .service) ∧
    (let p := ({ calm.par 0 2 (2 ^ noticeIndex .frost) with
      clm := { calm.clm with guard := .safe }, lnk := { calm.lnk with tx := some ⟨.immediate, false, []⟩ } }.role' 0 3).onLoad 0;
      Shorts (st p) 0 ∧ p.params.role 0 = .frostValve ∧ p.clm.guard ≠ .dumped ∧ p.Hears .frost) ∧
    (let p := ({ calm with clm := { calm.clm with guard := .dumped } }.role' 0 3).onLoad 0;
      Shorts (st p) 0 ∧ p.params.role 0 = .frostValve ∧ p.clm.guard = .dumped) := by
  refine ⟨?_, ?_, ?_, ?_, ?_, ?_, ?_⟩ <;> try dsimp only
  all_goals decide +kernel

theorem witness_ZeroCalibrationSumsAndSetsOffsets :
    (∃ s : State, s.part.outbox = [] ∧
      s.part.out.running = some (⟨4, .sweep, false, false, 0⟩ : Measuring) ∧
      s.part.out.zeroPass = some 7 ∧
      s.part.out.sweepHeld = false) ∧
    (∃ s : State, s.part.outbox = [] ∧
      s.part.out.running = some (⟨19, .sweep, false, false, 0⟩ : Measuring) ∧
      s.part.out.zeroPass = some 7 ∧
      s.part.out.sweepHeld = false ∧ 7 + 1 = 8) ∧
    (∃ s : State, s.part.outbox = [] ∧
      s.part.out.running = some (⟨19, .sweep, false, false, 0⟩ : Measuring) ∧
      s.part.out.zeroPass = some 6 ∧
      s.part.out.sweepHeld = false ∧ 6 + 1 < 8 ∧ s.part.mdc.mode ≠ .storage) := by
  refine ⟨⟨zeroing 4 7, by decide +kernel⟩,
    ⟨zeroing 19 7, by decide +kernel⟩,
    ⟨zeroing 19 6, by decide +kernel⟩⟩

theorem witness_DriverReportsLatchAndTrip :
    (∃ s : State, s.part.outbox = [] ∧ (s.part.chan 3).switching = .on) ∧
    (∃ s : State, s.part.outbox = [] ∧ (s.part.chan 3).switching ≠ .on ∧ (s.part.chan 3).latched.backfeed = false) ∧
    (∃ s : State, s.part.outbox = [] ∧ (s.part.chan 3).switching ≠ .on ∧ (s.part.chan 3).latched.backfeed = true) ∧
    (∃ s : State, s.part.outbox = []) ∧
    (∃ s : State, s.part.outbox = [] ∧ s.part.mot.active = none ∧
      (∀ (c : LoadId), groupOf c = (0 : GroupId) → s.part.params.role c = .general ∨ s.part.params.role c = .stepLight ∨
          s.part.params.role c = .motor)) ∧
    (∃ s : State, s.part.outbox = [] ∧ s.part.mot.active = none ∧
      (∀ (c : LoadId), groupOf c = (3 : GroupId) → s.part.params.role c = .general ∨ s.part.params.role c = .stepLight ∨
          s.part.params.role c = .motor)) ∧
    (∃ s : State, s.part.outbox = [] ∧ s.part.mot.active = none ∧
      (∀ (c : LoadId), groupOf c = (4 : GroupId) → s.part.params.role c = .general ∨ s.part.params.role c = .stepLight ∨
          s.part.params.role c = .motor)) := by
  refine ⟨⟨st (calm.onLoad 3), by decide +kernel⟩,
    ⟨active, by decide +kernel⟩,
    ⟨st (calm.ch 3 ({ · with latched := {OutLatches.none with backfeed := true}})), by decide +kernel⟩,
    ⟨active, by decide +kernel⟩,
    ⟨st ((calm.onLoad 3).onLoad 2), by decide +kernel⟩,
    ⟨st (((calm.onLoad 14).onLoad 15).ch 14 ({ · with switching := .tripped})), by decide +kernel⟩,
    ⟨st (((calm.onLoad 18).onLoad 19).ch 17 ({ · with latched := {OutLatches.none with hot := true}})), by decide +kernel⟩⟩

theorem witness_ClearRemovesAbsentCauses :
    (∃ s : State, s.part.Ready ∧ (3 : LoadId).val < 12 ∧ s.part.params.role 3 = .general ∧
      ((s.part.chan 3).switching ≠ .tripped ∨
          ⟨(s.part.chan 3).latched.short && decide ((s.part.chan 3).switching = .on),
        (s.part.chan 3).latched.overcurrent && decide ((s.part.chan 3).switching = .on),
        (s.part.chan 3).latched.openLoad && s.part.outCondition 3 OutCause.openLoad,
        (s.part.chan 3).latched.backfeed && (s.part.chan 3).backfeedStands,
        (s.part.chan 3).latched.hot && s.part.out.groupHot[groupOf (3 : LoadId)]⟩ ≠ OutLatches.none)) ∧
    (∃ s : State, s.part.Ready ∧ (3 : LoadId).val < 12 ∧ s.part.params.role 3 = .general ∧
        (s.part.chan 3).switching = .tripped ∧
      ⟨(s.part.chan 3).latched.short && decide ((s.part.chan 3).switching = .on),
        (s.part.chan 3).latched.overcurrent && decide ((s.part.chan 3).switching = .on),
        (s.part.chan 3).latched.openLoad && s.part.outCondition 3 OutCause.openLoad,
        (s.part.chan 3).latched.backfeed && (s.part.chan 3).backfeedStands,
        (s.part.chan 3).latched.hot && s.part.out.groupHot[groupOf (3 : LoadId)]⟩ = OutLatches.none ∧
      (s.part.load 3).state = .faulted) := by
  refine ⟨⟨st (calm.ch 3 ({ · with latched := ⟨true,true,true,true,true⟩, overCount := 5, openCount := 5})), by decide +kernel⟩,
    ⟨st ((calm.ld 3 ({ · with state := .faulted})).ch 3 ({ · with
        switching := .tripped, latched := ⟨true,true,true,true,true⟩, overCount := 5, openCount := 5, last := some 1})),
        by decide +kernel⟩⟩

end Loads

/-! ### Witnesses: spot checks, the exercise and the line levels -/

namespace Outputs

/-- The zero calibration, the spot queue and the measurement under way. -/
def outputs (z : Option Nat) (l : List SpotEntry) (r : Option Measuring) := st {calm with out := {calm.out with
    zeroPass := z, spotQueue := l, running := r}}
/-- A sweep measurement of channel 0. -/
def sweeping : Measuring := ⟨0,.sweep,false,false,0⟩
/-- A host's spot measurement of channel 4 under way, the sweep held. -/
def spotDone := st {(outputs none [] (some ⟨4,.spot,true,false,0⟩)).part with
    out := {(outputs none [] (some ⟨4,.spot,true,false,0⟩)).part.out with sweepHeld := true}}
/-- SERVICE with an output selected for exercise. -/
def exercising (n : LoadId) := st {service.part with out := {calm.out with exercise := some n}}
/-- A line record changed. -/
def lineState (n : LineId) (f : LineRec → LineRec) (g : Part → Part := id) := st ((g calm).ln n f)
/-- A line with FIXED thresholds. -/
def fixedThresholds (n : Nat) (p : Part) : Part := p.par 5 (11*n+3) 0
/-- Line S0 ON with a level state, a sync, a pulse and a frame. -/
def levelled (lvl : LevelState) (sy : Option Bool) (pu : Option Bool) (fr : Option (List Bool)) := lineState 0 ({ · with
    supply := .on, enabled := true, level := lvl, sync := sy, pulse := pu, frame := fr}) (fixedThresholds 0)
/-- Line S0 with its record changed. -/
def learning (f : LineRec → LineRec) := lineState 0 f

/-- A host's spot measurement of an ON channel under way, throughout ON, the sweep not held. -/
def spotOn (c : LoadId) : State := st ((outputs none [] (some ⟨c, .spot, true, true, 0⟩)).part.onLoad c)
/-- The hypotheses of a host's spot measurement at its completion, the counters of the channel at 0. -/
abbrev SpotEnds (s : State) (c : LoadId) (on : Bool) : Prop :=
  s.part.Ready ∧ s.part.out.running = some (⟨c, .spot, true, on, 0⟩ : Measuring) ∧ c.val < 18 ∧ s.part.out.zeroPass = none ∧
    (s.part.chan c).openCount = 0 ∧ (s.part.chan c).overCount = 0 ∧ s.part.out.spotQueue = [] ∧
    s.part.out.trackingSlot = none

theorem witness_SpotCheckQueuesAndWaits :
    (∃ s : State, s.part.Ready ∧ s.part.out.zeroPass.isSome = true) ∧
    (∃ s : State, s.part.Ready ∧ s.part.out.zeroPass = none ∧ 4 ≤ s.part.out.spotQueue.length ∧
      (∀ e ∈ s.part.out.spotQueue, e.channel ≠ (19 : LoadId))) ∧
    (∃ s : State, s.part.Ready ∧ s.part.out.zeroPass = none ∧ s.part.out.running.isSome = true ∧
        s.part.out.spotQueue.length < 4 ∧
      (∀ e ∈ s.part.out.spotQueue, e.channel ≠ (19 : LoadId))) ∧
    (∃ s : State, s.part.Ready ∧ s.part.out.zeroPass = none ∧ s.part.out.running.isSome = true ∧
      s.part.out.spotQueue = [(⟨1, false, true⟩ : SpotEntry), (⟨2, false, true⟩ : SpotEntry)] ++
          [(⟨19, false, true⟩ : SpotEntry), (⟨4, false, true⟩ : SpotEntry)] ∧
      (⟨19, false, true⟩ : SpotEntry).channel = (19 : LoadId) ∧
      (∀ x ∈ [(⟨1, false, true⟩ : SpotEntry), (⟨2, false, true⟩ : SpotEntry)] ++
          [(⟨4, false, true⟩ : SpotEntry)], x.channel ≠ (19 : LoadId))) ∧
    (∃ s : State, s.part.Ready ∧ s.part.out.zeroPass = none ∧ s.part.out.running = none ∧ s.part.out.trackingSlot = none ∧
      s.part.out.spotQueue = []) ∧
    (SpotEnds spotDone 4 false ∧ (spotDone.part.load 4).state ≠ .on ∧ (spotDone.part.chan 4).switching = .off ∧
      spotDone.part.out.sweepHeld = true) ∧
    (SpotEnds (spotOn 4) 4 true ∧ (1000 : Int) ≤ (spotOn 4).part.committed 4 ∧
      1000 ≤ (spotOn 4).part.params.tripCurrent 4 ∧ (spotOn 4).part.openLevel 4 ≤ 1000) ∧
    (let s := st (((spotOn 17).part.ld 17 ({ · with wantedLevel := 1000 })).ch 17 ({ · with duty := 1000 }));
      SpotEnds s 17 true ∧ (500 : Int) ≤ s.part.committed 17 ∧ 500 ≤ s.part.params.tripCurrent 17 ∧
        s.part.openLevel 17 ≤ 500) := by
  refine ⟨⟨outputs (some 3) [] none, by decide +kernel⟩,
    ⟨outputs none [⟨1,false,true⟩,⟨2,false,true⟩,⟨3,false,true⟩,⟨4,true,true⟩] (some sweeping), by decide +kernel⟩,
    ⟨outputs none [⟨1,false,true⟩,⟨2,false,true⟩,⟨3,false,true⟩] (some sweeping), by decide +kernel⟩,
    ⟨outputs none [⟨1,false,true⟩,⟨2,false,true⟩,⟨19,false,true⟩,⟨4,false,true⟩] (some sweeping), by decide +kernel⟩,
    ⟨outputs none [] none, by decide +kernel⟩,
    by decide +kernel, by decide +kernel, by decide +kernel⟩

theorem witness_ExerciseSelectsAndReleases :
    (∃ s : State, s.part.Ready ∧ (1 : Byte).toNat ≤ 1 ∧ (s.part.mdc.mode = .active ∨ s.part.mdc.mode = .storage)) ∧
    (∃ s : State, s.part.Ready ∧ (1 : Byte).toNat ≤ 1 ∧ s.part.mdc.mode = .service ∧
      (s.part.params.role 4 = .frostValve ∨ 18 ≤ (4 : LoadId).val)) ∧
    (∃ s : State, s.part.Ready ∧ (1 : Byte).toNat ≤ 1 ∧ s.part.mdc.mode = .service ∧
      (s.part.params.role 18 = .frostValve ∨ 18 ≤ (18 : LoadId).val)) ∧
    (∃ s : State, s.part.Ready ∧ (1 : Byte).toNat ≤ 1 ∧ s.part.mdc.mode = .service ∧ s.part.params.role 4 ≠ .frostValve ∧
      (4 : LoadId).val < 18 ∧ s.part.out.exercise = some (3 : LoadId) ∧ (3 : LoadId) ≠ (4 : LoadId)) ∧
    (∃ s : State, s.part.Ready ∧ (1 : Byte).toNat ≤ 1 ∧ s.part.mdc.mode = .service ∧ s.part.params.role 4 ≠ .frostValve ∧
      (4 : LoadId).val < 18 ∧ (s.part.out.exercise = none ∨ s.part.out.exercise = some (4 : LoadId)) ∧
      (s.part.chan 4).switching = .tripped) ∧
    (∃ s : State, s.part.Ready ∧ (1 : Byte).toNat ≤ 1 ∧ s.part.mdc.mode = .service ∧ s.part.params.role 4 ≠ .frostValve ∧
      (4 : LoadId).val < 18 ∧ (s.part.out.exercise = none ∨ s.part.out.exercise = some (4 : LoadId)) ∧
      (s.part.chan 4).switching ≠ .tripped ∧ ((s.part.load 4).state = .on ∨ (s.part.load 4).state = .shed)) ∧
    (∃ s : State, s.part.Ready ∧ (0 : Byte).toNat ≤ 1 ∧ s.part.mdc.mode = .service ∧ (4 : LoadId).val < 12 ∧
      s.part.params.role 4 = .general ∧ s.part.out.exercise = none ∧ (s.part.chan 4).switching ≠ .tripped ∧
      (s.part.load 4).state = .off) ∧
    (∃ s : State, s.part.Ready ∧ (1 : Byte).toNat ≤ 1 ∧ s.part.mdc.mode = .service ∧ (4 : LoadId).val < 12 ∧
      s.part.params.role 4 = .general ∧ s.part.out.exercise = none ∧ (s.part.chan 4).switching ≠ .tripped ∧
      (s.part.load 4).state = .off) ∧
    (∃ s : State, s.part.Ready ∧ (1 : Byte).toNat ≤ 1 ∧ s.part.mdc.mode = .service ∧ s.part.out.exercise = none) ∧
    (∃ s : State, s.part.Ready ∧ (1 : Byte).toNat ≤ 1 ∧ s.part.mdc.mode = .service ∧ (4 : LoadId).val < 12 ∧
      s.part.params.role 4 = .general ∧ s.part.out.exercise = some (4 : LoadId) ∧ (s.part.chan 4).switching ≠ .tripped ∧
      (s.part.load 4).state = .exercised) := by
  refine ⟨⟨active, by decide +kernel⟩,
    ⟨st (service.part.role' 4 3), by decide +kernel⟩,
    ⟨service, by decide +kernel⟩,
    ⟨exercising 3, by decide +kernel⟩,
    ⟨st (service.part.ch 4 ({ · with switching := .tripped})), by decide +kernel⟩,
    ⟨st (service.part.onLoad 4), by decide +kernel⟩,
    ⟨service, by decide +kernel⟩,
    ⟨service, by decide +kernel⟩,
    ⟨service, by decide +kernel⟩,
    ⟨st (((exercising 4).part.ld 4 ({ · with state := .exercised})).ch 4 ({ · with switching := .on})), by decide +kernel⟩⟩

theorem witness_LinesSettleAndFollowTheDutyCycle_settle :
    (∃ s : State, s.part.outbox = [] ∧ (s.part.line 0).supply ≠ .settling) ∧
    (∃ s : State, s.part.outbox = [] ∧ (s.part.line 2).supply = .settling ∧
      s.part.params.lineRole 2 ∉ [LineRole.cabinTemp, LineRole.bayTemp, LineRole.battTemp]) ∧
    (∃ s : State, s.part.outbox = [] ∧ (s.part.line 1).supply = .settling ∧
      s.part.params.lineRole 1 ∉ [LineRole.cabinTemp, LineRole.bayTemp, LineRole.battTemp]) ∧
    (∃ s : State, s.part.outbox = [] ∧ (s.part.line 5).supply = .settling ∧ s.part.params.lineWith .battTemp = some 5) ∧
    (∃ s : State, s.part.outbox = [] ∧ (s.part.line 3).supply = .settling ∧ s.part.params.lineWith .cabinTemp = some 3) ∧
    (∃ s : State, s.part.outbox = [] ∧ (s.part.line 4).supply = .settling ∧ s.part.params.lineWith .bayTemp = some 4 ∧
      (s.part.line 4).age = some 9999) := by
  refine ⟨⟨lineState 0 id, by decide +kernel⟩,
    ⟨lineState 2 ({ · with supply := .settling, enabled := true, settle := some 0}), by decide +kernel⟩,
    ⟨lineState 1 ({ · with supply := .settling, enabled := true, settle := some 0}), by decide +kernel⟩,
    ⟨lineState 5 ({ · with supply := .settling, enabled := true, settle := some 0}), by decide +kernel⟩,
    ⟨lineState 3 ({ · with supply := .settling, enabled := true, settle := some 0}), by decide +kernel⟩,
    ⟨lineState 4 fun r =>
      { r with supply := .settling, enabled := true, settle := some 0, value := some (.temp 9), age := some 9999 },
      by decide +kernel⟩⟩

theorem witness_CrossingsMoveTheLevelState :
    (∃ s : State, s.part.outbox = [] ∧ s.part.params.lineMode 0 = LineMode.level ∧ (s.part.line 0).supply = .on ∧
      (s.part.line 0).widthStart = none ∧ s.part.params.adaptive 0 = false ∧ (s.part.line 0).level = .base) ∧
    (∃ s : State, s.part.outbox = [] ∧ s.part.params.lineMode 0 = LineMode.level ∧ (s.part.line 0).supply = .on ∧
      (s.part.line 0).widthStart = none ∧ s.part.params.adaptive 0 = false ∧ (s.part.line 0).level = .tier1) ∧
    (∃ s : State, s.part.outbox = [] ∧ s.part.params.lineMode 0 = LineMode.level ∧ (s.part.line 0).supply = .on ∧
      (s.part.line 0).widthStart = none ∧ s.part.params.adaptive 0 = false ∧ (s.part.line 0).level = .tier2 ∧
      (s.part.line 0).sync = some true) ∧
    (∃ s : State, s.part.outbox = [] ∧ s.part.params.lineMode 0 = LineMode.level ∧ (s.part.line 0).supply = .on ∧
      (s.part.line 0).widthStart = none ∧ s.part.params.adaptive 0 = false ∧ (s.part.line 0).level = .tier2 ∧
      (s.part.line 0).sync ≠ some true) ∧
    (∃ s : State, s.part.outbox = [] ∧ s.part.params.lineMode 0 = LineMode.level ∧ (s.part.line 0).supply = .on ∧
      (s.part.line 0).widthStart = none ∧ s.part.params.adaptive 0 = false ∧ (s.part.line 0).level = .base ∧
      (Crossing.fallingT1 = Crossing.risingT2 ∨ Crossing.fallingT1 = Crossing.fallingT1 ∨
          Crossing.fallingT1 = Crossing.fallingT2)) ∧
    (∃ s : State, s.part.outbox = [] ∧ s.part.params.lineMode 0 = LineMode.level ∧ (s.part.line 0).supply = .on ∧
      (s.part.line 0).widthStart = none ∧ s.part.params.adaptive 0 = false ∧ (s.part.line 0).level = .base ∧
      (Crossing.risingT2 = Crossing.risingT2 ∨ Crossing.risingT2 = Crossing.fallingT1 ∨
          Crossing.risingT2 = Crossing.fallingT2)) ∧
    (∃ s : State, s.part.outbox = [] ∧ s.part.params.lineMode 0 = LineMode.level ∧ (s.part.line 0).supply = .on ∧
      (s.part.line 0).widthStart = none ∧ s.part.params.adaptive 0 = false ∧ (s.part.line 0).sync.isSome = true ∧
      (s.part.line 0).frame = none) ∧
    (∃ s : State, s.part.outbox = [] ∧ s.part.params.lineMode 0 = LineMode.level ∧ (s.part.line 0).supply = .on ∧
      (s.part.line 0).widthStart = none ∧ s.part.params.adaptive 0 = false ∧ (s.part.line 0).sync.isSome = true ∧
      (s.part.line 0).frame = some [true, false]) := by
  refine ⟨⟨levelled .base none none none, by decide +kernel⟩,
    ⟨levelled .tier1 none (some false) none, by decide +kernel⟩,
    ⟨levelled .tier2 (some true) (some true) none, by decide +kernel⟩,
    ⟨levelled .tier2 (some false) (some true) (some [true]), by decide +kernel⟩,
    ⟨levelled .base none none none, by decide +kernel⟩,
    ⟨levelled .base none none none, by decide +kernel⟩,
    ⟨levelled .tier2 (some false) (some true) none, by decide +kernel⟩,
    ⟨levelled .tier2 (some false) (some true) (some [true,false]), by decide +kernel⟩⟩

theorem witness_BaseWindowsLearnAndCount :
    (∃ s : State, s.part.outbox = [] ∧ ((s.part.line 0).supply = .off ∨ (s.part.line 0).supply = .fault)) ∧
    (∃ s : State, s.part.outbox = [] ∧ (s.part.line 0).supply = .settling) ∧
    (∃ s : State, s.part.outbox = [] ∧ (s.part.line 0).supply = .on ∧
      (if 400 < 401 then min 16 ((s.part.line 0).highCount + 1) else (s.part.line 0).highCount - 1) < 16) ∧
    (∃ s : State, s.part.outbox = [] ∧ (s.part.line 0).supply = .on ∧
      (if 400 < 400 then min 16 ((s.part.line 0).highCount + 1) else (s.part.line 0).highCount - 1) < 16) ∧
    (∃ s : State, s.part.outbox = [] ∧ (s.part.line 0).supply = .on ∧
      (16 ≤ if 400 < 401 then min 16 ((s.part.line 0).highCount + 1) else (s.part.line 0).highCount - 1)) := by
  refine ⟨⟨learning id, by decide +kernel⟩,
    ⟨learning ({ · with supply := .settling}), by decide +kernel⟩,
    ⟨learning ({ · with supply := .on, highCount := 14}), by decide +kernel⟩,
    ⟨learning ({ · with supply := .on, highCount := 15, windowBase := false, level := .tier1}), by decide +kernel⟩,
    ⟨learning ({ · with supply := .on, highCount := 15}), by decide +kernel⟩⟩

end Outputs

/-! ### Witnesses: sensor lines, water and the pump -/

namespace Lines

/-- The number that bits spell, the first the lowest. -/
def bitsNat : List Bool → Nat := List.foldr (fun b n => b.toNat + 2 * n) 0

/-- A line record changed. -/
def lineState (n : LineId) (f : LineRec → LineRec) (g : Part → Part := id) := st ((g calm).ln n f)
/-- A line with a frame under way, NODATA set. -/
def framedLine (l : LineId) (bits : List Bool) (g : Part → Part := id) := lineState l ({ · with
    supply := .on, enabled := true, frame := some bits, nodata := true, nodataTimer := 9}) g
/-- The first nine bits of a frame with a level and a status. -/
def levelBits (n s : Nat) : List Bool := (List.range 7).map (fun k => n.testBit k) ++ [s.testBit 0, s.testBit 1]
/-- The fresh tank with eight levels in its window and its alarms set. -/
def fullWindow (p : Part) : Part := {p with wat := {p.wat with dry := true, fresh := {p.wat.fresh with
    levelState := .current, level := some 3, alarm := true, senderFault := true, window := [10,20,30,40,50,60,70,80]}}}
/-- The handbrake applied. -/
def parked (p : Part) : Part := { p with mdc := {p.mdc with signals := {p.mdc.signals with handbrake := ⟨true,true,200⟩} } }
/-- A line without a role and with FIXED thresholds. -/
def noRole (n : Nat) (p : Part) : Part := (p.par 5 (11*n+2) 0).par 5 (11*n+3) 0
/-- Line S3 ON without a role. -/
def widthLine (f : LineRec → LineRec) := lineState 3 (fun r => f {r with supply := .on, enabled := true}) (noRole 3)
/-- Roles for S2 alone. -/
def onlyS2 (p : Part) : Part := noRole 5 (noRole 4 (noRole 3 (noRole 1 (noRole 0 p))))
/-- Line S4 without a role, its record changed. -/
def bareLine (f : LineRec → LineRec) := lineState 4 f (noRole 4)
/-- STORAGE with S3 ON, S4 SETTLING and S0 ON. -/
def lineMix (f : Part → Part) := st (f (((storing.part.ln 3 ({ · with
    enabled := true, supply := .on, value := some (.temp 5)})).ln 4 ({ · with enabled := true, supply :=
    .settling})).ln 0 ({ · with enabled := true, supply := .on})))
/-- L5 the pump, requested, OFF after a dryRun run. -/
def pumpReady (f : Part → Part) := st (f ({(calm.role' 5 1) with wat := {calm.wat with
    pump := .off, request := true, lastAnswer := some .dry}}))
/-- The pump running while nothing flows. -/
def dryRun (p : Part) : Part := (({p.onLoad 5 with wat := {p.wat with pump := .running, dryTimer := 8000}}.ln 2 ({ · with
    supply := .on, standstill := true})).ld 5 ({ · with measured := some 1000, fresh := true}))

theorem witness_LevelFrameIsJudgedAtItsTenthSlot :
    (∃ s : State, s.part.outbox = [] ∧ (s.part.line 0).frame = some [true] ∧
      ([true] ++ [decide ((s.part.line 0).thr.fall1 < 67)]).length < 10) ∧
    (∃ s : State, s.part.outbox = [] ∧ (s.part.line 0).frame = some (levelBits 3 0) ∧
      (levelBits 3 0 ++ [decide ((s.part.line 0).thr.fall1 < 68)]).length = 10 ∧
      List.count true (levelBits 3 0 ++ [decide ((s.part.line 0).thr.fall1 < 68)]) % 2 = 1) ∧
    (∃ s : State, s.part.outbox = [] ∧ (s.part.line 0).frame = some (levelBits 127 0) ∧
      (levelBits 127 0 ++ [decide ((s.part.line 0).thr.fall1 < 68)]).length = 10 ∧
      (¬List.count true (levelBits 127 0 ++ [decide ((s.part.line 0).thr.fall1 < 68)]) % 2 = 1) ∧
      (2 ≤ bitsNat (List.take 2 (List.drop 7 (levelBits 127 0 ++ [decide ((s.part.line 0).thr.fall1 < 68)]))) ∨
          bitsNat (List.take 7 (levelBits 127 0 ++ [decide ((s.part.line 0).thr.fall1 < 68)])) = 127)) ∧
    (∃ s : State, s.part.outbox = [] ∧ (s.part.line 0).frame = some (levelBits 3 2) ∧
      (levelBits 3 2 ++ [decide ((s.part.line 0).thr.fall1 < 68)]).length = 10 ∧
      (¬List.count true (levelBits 3 2 ++ [decide ((s.part.line 0).thr.fall1 < 68)]) % 2 = 1) ∧
      (2 ≤ bitsNat (List.take 2 (List.drop 7 (levelBits 3 2 ++ [decide ((s.part.line 0).thr.fall1 < 68)]))) ∨
          bitsNat (List.take 7 (levelBits 3 2 ++ [decide ((s.part.line 0).thr.fall1 < 68)])) = 127)) ∧
    (∃ s : State, s.part.outbox = [] ∧ (s.part.line 0).frame = some (levelBits 100 1) ∧
      (levelBits 100 1 ++ [decide ((s.part.line 0).thr.fall1 < 10)]).length = 10 ∧
      (¬List.count true (levelBits 100 1 ++ [decide ((s.part.line 0).thr.fall1 < 10)]) % 2 = 1) ∧
      (¬(2 ≤ bitsNat (List.take 2 (List.drop 7 (levelBits 100 1 ++ [decide ((s.part.line 0).thr.fall1 < 10)]))) ∨
          bitsNat (List.take 7 (levelBits 100 1 ++ [decide ((s.part.line 0).thr.fall1 < 10)])) = 127))) ∧
    (∃ s : State, s.part.outbox = [] ∧ (s.part.line 0).frame = some (levelBits 101 0) ∧
      (levelBits 101 0 ++ [decide ((s.part.line 0).thr.fall1 < 10)]).length = 10 ∧
      (¬List.count true (levelBits 101 0 ++ [decide ((s.part.line 0).thr.fall1 < 10)]) % 2 = 1) ∧
      (¬(2 ≤ bitsNat (List.take 2 (List.drop 7 (levelBits 101 0 ++ [decide ((s.part.line 0).thr.fall1 < 10)]))) ∨
          bitsNat (List.take 7 (levelBits 101 0 ++ [decide ((s.part.line 0).thr.fall1 < 10)])) = 127))) ∧
    (∃ s : State, s.part.outbox = [] ∧ (s.part.line 0).frame = some (levelBits 3 0) ∧
      (levelBits 3 0 ++ [decide ((s.part.line 0).thr.fall1 < 10)]).length = 10 ∧
      (¬List.count true (levelBits 3 0 ++ [decide ((s.part.line 0).thr.fall1 < 10)]) % 2 = 1) ∧
      (¬(2 ≤ bitsNat (List.take 2 (List.drop 7 (levelBits 3 0 ++ [decide ((s.part.line 0).thr.fall1 < 10)]))) ∨
          bitsNat (List.take 7 (levelBits 3 0 ++ [decide ((s.part.line 0).thr.fall1 < 10)])) = 127))) ∧
    (∃ s : State, s.part.outbox = [] ∧ (s.part.line 1).frame = some (levelBits 101 0) ∧
      (levelBits 101 0 ++ [decide ((s.part.line 1).thr.fall1 < 10)]).length = 10 ∧
      (¬List.count true (levelBits 101 0 ++ [decide ((s.part.line 1).thr.fall1 < 10)]) % 2 = 1) ∧
      (¬(2 ≤ bitsNat (List.take 2 (List.drop 7 (levelBits 101 0 ++ [decide ((s.part.line 1).thr.fall1 < 10)]))) ∨
          bitsNat (List.take 7 (levelBits 101 0 ++ [decide ((s.part.line 1).thr.fall1 < 10)])) = 127)) ∧
      s.part.params.lineRole 1 = .greyLevel ∧ s.part.parked = true) ∧
    (∃ s : State, s.part.outbox = [] ∧ (s.part.line 1).frame = some (levelBits 3 2) ∧
      (levelBits 3 2 ++ [decide ((s.part.line 1).thr.fall1 < 68)]).length = 10 ∧
      List.count true (levelBits 3 2 ++ [decide ((s.part.line 1).thr.fall1 < 68)]) % 2 = 0 ∧
      2 ≤ bitsNat (List.take 2 (List.drop 7 (levelBits 3 2 ++ [decide ((s.part.line 1).thr.fall1 < 68)]))) ∧
      s.part.params.lineRole 1 = .greyLevel ∧ s.part.wat.grey.levelState = .current) := by
  refine ⟨⟨framedLine 0 [true], by decide +kernel⟩,
    ⟨framedLine 0 (levelBits 3 0), by decide +kernel⟩,
    ⟨framedLine 0 (levelBits 127 0) fun p => {p with wat := {p.wat with fresh := {p.wat.fresh with
        levelState := .current, level := some 3}}}, by decide +kernel⟩,
    ⟨framedLine 0 (levelBits 3 2), by decide +kernel⟩,
    ⟨framedLine 0 (levelBits 100 1) fullWindow, by decide +kernel⟩,
    ⟨framedLine 0 (levelBits 101 0) fullWindow, by decide +kernel⟩,
    ⟨framedLine 0 (levelBits 3 0) id, by decide +kernel⟩,
    ⟨framedLine 1 (levelBits 101 0) (parked ∘ fullWindow), by decide +kernel⟩,
    ⟨framedLine 1 (levelBits 3 2) fun p => {p with wat := {p.wat with grey := {p.wat.grey with
        levelState := .current, level := some 70}}}, by decide +kernel⟩⟩

theorem witness_WidthsPulsesAndSilence :
    (∃ s : State, s.part.outbox = [] ∧ s.part.params.lineRole 3 = LineRole.none ∧ s.part.params.adaptive 3 = false ∧
      (s.part.line 3).supply = .on ∧ (s.part.line 3).level = .tier1 ∧ (s.part.line 3).widthStart = some 100) ∧
    (∃ s : State, s.part.outbox = [] ∧ s.part.params.lineRole 3 = LineRole.none ∧ s.part.params.adaptive 3 = false ∧
      (s.part.line 3).widthStart.isSome = true) ∧
    (∃ s : State, s.part.outbox = [] ∧ s.part.params.lineRole 2 = LineRole.none ∧ s.part.params.adaptive 2 = false ∧
      (s.part.line 2).supply = .on ∧ s.part.params.lineMode 2 = LineMode.pulse ∧ (s.part.line 2).level = .base) ∧
    (∃ s : State, s.part.outbox = [] ∧ s.part.params.lineRole 2 = LineRole.none ∧ s.part.params.adaptive 2 = false ∧
      (s.part.line 2).rateTimer.isSome = true) ∧
    (∃ s : State, s.part.outbox = [] ∧ s.part.params.lineRole 2 = LineRole.none ∧ s.part.params.adaptive 2 = false ∧
      s.part.params.lineMode 2 = LineMode.pulse ∧ (s.part.line 2).supply = .on) ∧
    (∃ s : State, s.part.outbox = [] ∧ s.part.params.lineRole 3 = LineRole.none ∧ s.part.params.adaptive 3 = false ∧
      (s.part.line 3).enabled = true ∧ s.part.params.lineMode 3 ≠ LineMode.pulse ∧ s.part.mdc.mode ≠ .storage) := by
  refine ⟨⟨widthLine ({ · with level := .tier1, widthStart := some 100}), by decide +kernel⟩,
    ⟨widthLine ({ · with level := .tier1, widthStart := some 100}), by decide +kernel⟩,
    ⟨lineState 2 ({ · with supply := .on, enabled := true, standstill := true, standstillTimer := 4}) (noRole 2),
        by decide +kernel⟩,
    ⟨lineState 2 ({ · with supply := .on, enabled := true, rateTimer := some 0, secondCount := 6}) (noRole 2),
        by decide +kernel⟩,
    ⟨lineState 2 ({ · with supply := .on, enabled := true, standstillTimer := 2000}) (noRole 2), by decide +kernel⟩,
    ⟨lineState 3 ({ · with supply := .on, enabled := true, nodataTimer := 1000}) (noRole 3), by decide +kernel⟩⟩

theorem witness_LineFaultsLatchAndUnpower :
    (∃ s : State, s.part.outbox = [] ∧
      s.part.params.lineRole 2 ∉ [.freshLevel, .greyLevel, .cabinTemp, .bayTemp, .battTemp] ∧
      ((s.part.line 2).supply = .settling ∨ (s.part.line 2).supply = .on) ∧ 600 < 601) ∧
    (∃ s : State, s.part.outbox = [] ∧
      s.part.params.lineRole 2 ∉ [.freshLevel, .greyLevel, .cabinTemp, .bayTemp, .battTemp] ∧
      (¬((s.part.line 2).supply = .settling ∨ (s.part.line 2).supply = .on) ∨ 600 ≤ 600)) ∧
    (∃ s : State, s.part.outbox = [] ∧
      s.part.params.lineRole 2 ∉ [.freshLevel, .greyLevel, .cabinTemp, .bayTemp, .battTemp] ∧
      ((s.part.line 2).supply = .settling ∨ (s.part.line 2).supply = .on) ∧ (500 : ℤ) < (501 : ℤ)) ∧
    (∃ s : State, s.part.outbox = [] ∧
      s.part.params.lineRole 2 ∉ [.freshLevel, .greyLevel, .cabinTemp, .bayTemp, .battTemp] ∧
      (¬((s.part.line 2).supply = .settling ∨ (s.part.line 2).supply = .on)) ∧ (500 : ℤ) < (501 : ℤ)) ∧
    (∃ s : State, s.part.outbox = [] ∧
      s.part.params.lineRole 2 ∉ [.freshLevel, .greyLevel, .cabinTemp, .bayTemp, .battTemp] ∧
      (500 : ℤ) ≤ (500 : ℤ)) ∧
    (∃ s : State, s.part.outbox = [] ∧
      s.part.params.lineRole 2 ∉ [.freshLevel, .greyLevel, .cabinTemp, .bayTemp, .battTemp] ∧
      (s.part.line 2).supply = .on ∧ (s.part.line 2).current < 20) ∧
    (∃ s : State, s.part.outbox = [] ∧
      s.part.params.lineRole 2 ∉ [.freshLevel, .greyLevel, .cabinTemp, .bayTemp, .battTemp] ∧
      (∀ (l' : LineId), s.part.params.lineRole l' ∉ [.freshLevel, .greyLevel, .cabinTemp, .bayTemp, .battTemp])) := by
  refine ⟨⟨lineState 2 ({ · with supply := .on, enabled := true, rateTimer := some 4}), by decide +kernel⟩,
    ⟨lineState 2 ({ · with supply := .settling, settle := some 4}), by decide +kernel⟩,
    ⟨lineState 2 ({ · with supply := .settling, settle := some 4}), by decide +kernel⟩,
    ⟨lineState 2 id, by decide +kernel⟩,
    ⟨lineState 2 id, by decide +kernel⟩,
    ⟨lineState 2 ({ · with supply := .on, current := 19}), by decide +kernel⟩,
    ⟨lineState 2 ({ · with supply := .on, current := 19, latched := {LineLatches.none with hot := true}}) onlyS2,
        by decide +kernel⟩⟩

theorem witness_LineControlAndClear :
    (∃ s : State, s.part.Ready ∧ s.part.mdc.mode ≠ .start ∧ s.part.params.lineRole 4 = LineRole.none ∧
      ((s.part.line 4).latched.shortGnd = true ∨ (s.part.line 4).latched.shortBat = true ∨ (s.part.line 4).latched.hot = true)) ∧
    (∃ s : State, s.part.Ready ∧ s.part.mdc.mode ≠ .start ∧ s.part.params.lineRole 4 = LineRole.none ∧
      ¬ ((s.part.line 4).latched.shortGnd = true ∨ (s.part.line 4).latched.shortBat = true ∨ (s.part.line 4).latched.hot = true) ∧
      (s.part.line 4).enabled = true ∧ (s.part.line 4).supply ≠ .fault) ∧
    (∃ s : State, s.part.Ready ∧ s.part.mdc.mode ≠ .start ∧ s.part.params.lineRole 4 = LineRole.none ∧
      ¬ ((s.part.line 4).latched.shortGnd = true ∨ (s.part.line 4).latched.shortBat = true ∨ (s.part.line 4).latched.hot = true) ∧
      (s.part.line 4).enabled = false) ∧
    (∃ s : State, s.part.Ready ∧ s.part.mdc.mode ≠ .start ∧ s.part.params.lineRole 4 = LineRole.none ∧
      ¬ ((s.part.line 4).latched.shortGnd = true ∨ (s.part.line 4).latched.shortBat = true ∨ (s.part.line 4).latched.hot = true) ∧
      (s.part.line 4).enabled = true ∧ (s.part.line 4).supply = .fault) ∧
    (∃ s : State, s.part.Ready ∧ s.part.mdc.mode = .storage ∧ s.part.params.lineRole 4 = LineRole.none ∧
      ¬ ((s.part.line 4).latched.shortGnd = true ∨ (s.part.line 4).latched.shortBat = true ∨ (s.part.line 4).latched.hot = true) ∧
      (s.part.line 4).enabled = true ∧ (s.part.line 4).supply = .fault) ∧
    (∃ s : State, s.part.Ready ∧ s.part.mdc.mode = .storage ∧ s.part.params.lineRole 4 = LineRole.none ∧
      ¬ ((s.part.line 4).latched.shortGnd = true ∨ (s.part.line 4).latched.shortBat = true ∨ (s.part.line 4).latched.hot = true) ∧
      (s.part.line 4).enabled = false) ∧
    (∃ s : State, s.part.Ready ∧ (s.part.line 4).latched.openWire = true ∧ (s.part.line 4).latched.currentHigh = true ∧
      ((s.part.line 4).supply == .on && decide ((s.part.line 4).current < 20)) = false ∧
      ((s.part.line 4).supply == .on && decide (400 < (s.part.line 4).windowMean)) = false) := by
  refine ⟨⟨bareLine ({ · with latched := {LineLatches.none with hot := true}}), by decide +kernel⟩,
    ⟨bareLine ({ · with enabled := true, supply := .on}), by decide +kernel⟩,
    ⟨bareLine id, by decide +kernel⟩,
    ⟨bareLine ({ · with enabled := true, supply := .fault}), by decide +kernel⟩,
    ⟨st { (bareLine ({ · with enabled := true, supply := .fault})).part with mdc := storing.part.mdc }, by decide +kernel⟩,
    ⟨st { (bareLine id).part with mdc := storing.part.mdc }, by decide +kernel⟩,
    ⟨bareLine ({ · with enabled := true, supply := .on, current := 20, windowMean := 400, openTimer := 20, highCount := 9
                        latched := {LineLatches.none with openWire := true, currentHigh := true}}), by decide +kernel⟩⟩

theorem witness_LinesSettleAndFollowTheDutyCycle_duty :
    (∃ s : State, s.part.mdc.mode = .storage ∧ s.part.sli.windowTimer.isSome = true) ∧
    (∃ s : State, s.part.mdc.mode = .storage ∧ s.part.sli.dutyTimer.isSome = true) := by
  refine ⟨⟨lineMix fun p => {p with sli := {p.sli with windowTimer := some 0, dutyTimer := some 77}}, by decide +kernel⟩,
    ⟨st ((storing.part.ln 3 ({ · with enabled := true})).ln 4 ({ · with enabled := true, supply := .fault}) |>
        fun p => {p with sli := {p.sli with windowTimer := none, dutyTimer := some 0}}), by decide +kernel⟩⟩

/-- A line with FIXED thresholds ON, its record changed, under a part changed. -/
def roleLine (l : LineId) (f : LineRec → LineRec) (g : Part → Part := id) : State :=
  st (g ((calm.par 5 (11 * l.val + 3) 0).ln l fun r => f { r with supply := .on, enabled := true }))
/-- The guard in a state with a bay temperature and its countdown. -/
def guardAt (x : GuardState) (bay : Option Int) (p : Part) : Part :=
  { p with clm := { p.clm with guard := x, bay := bay, bayTimer := some 3, unknownTimer := 59999 } }
/-- The common hypotheses of LinesReachTheirRoleHolders. -/
abbrev Reaches (s : State) (l : LineId) : Prop :=
  s.part.outbox = [] ∧ s.part.mdc.mode ≠ .storage ∧ s.part.params.adaptive l = false ∧ (s.part.line l).supply = .on
/-- A width under way since a date. -/
def widthFrom (n : Nat) (r : LineRec) : LineRec := { r with level := .tier1, widthStart := some n }
/-- A line's value at its limit of age. -/
def aged (r : LineRec) : LineRec := { r with value := some (.temp 7), age := some 10000, nodataTimer := 1000 }

theorem witness_LinesReachTheirRoleHolders :
    (Reaches (roleLine 0 id) 0 ∧ (roleLine 0 id).part.params.lineRole 0 = .freshLevel ∧ 600 < 601 ∧
      ((roleLine 0 id).part.line 0).nodata = false ∧ (roleLine 0 id).part.params.lineMode 0 ≠ .pulse) ∧
    (Reaches (roleLine 1 id) 1 ∧ (roleLine 1 id).part.params.lineRole 1 = .greyLevel) ∧
    (let s := roleLine 2 ({ · with rateTimer := some 0, secondCount := 6 });
      Reaches s 2 ∧ s.part.params.lineRole 2 = .flow ∧ s.part.params.lineMode 2 = .pulse ∧ (s.part.line 2).level = .base ∧
        (s.part.line 2).rateTimer.isSome = true) ∧
    (let s := roleLine 3 (widthFrom 100);
      Reaches s 3 ∧ s.part.params.lineWith .cabinTemp = some 3 ∧ (s.part.line 3).level = .tier1 ∧
        (s.part.line 3).widthStart = some 100) ∧
    (let s := roleLine 3 aged;
      Reaches s 3 ∧ s.part.params.lineWith .cabinTemp = some 3 ∧ (s.part.line 3).age = some 10000 ∧
        (s.part.line 3).enabled = true ∧ s.part.params.lineMode 3 ≠ .pulse ∧ (s.part.line 3).nodata = false) ∧
    (let s := roleLine 4 (widthFrom 100) (guardAt .safe (some 30));
      Reaches s 4 ∧ s.part.params.lineWith .bayTemp = some 4 ∧ s.part.clm.guard = .safe ∧ s.part.params.warnThreshold = 12 ∧
        ((max 80 (min 410 (min 511 ((960 - 100) / 5))) : Nat) : Int) - 160 = 12) ∧
    (let s := roleLine 4 (widthFrom 100) (guardAt .watch (some 8));
      Reaches s 4 ∧ s.part.mdc.mode ≠ .start ∧ s.part.clm.guard = .watch ∧ s.part.params.dumpThreshold = 6 ∧
        s.part.params.dumpThreshold ≤ s.part.params.warnThreshold ∧
        ((max 80 (min 410 (min 511 ((925 - 100) / 5))) : Nat) : Int) - 160 = 5) ∧
    (let s := roleLine 4 id (guardAt .safe (some 30));
      Reaches s 4 ∧ s.part.mdc.mode ≠ .start ∧ s.part.clm.guard = .safe ∧ s.part.clm.unknownTimer < 60000) ∧
    (let s := roleLine 4 aged (guardAt .dumped (some 30));
      Reaches s 4 ∧ s.part.clm.guard = .dumped ∧ (s.part.line 4).age = some 10000 ∧ (s.part.line 4).nodata = false) ∧
    (let s := roleLine 5 (widthFrom 100) fun p => { p.par 1 0 0 with chg := { p.chg with coldInhibit := none } };
      Reaches s 5 ∧ s.part.params.lineWith .battTemp = some 5 ∧ s.part.params.chemistry = .lead ∧
        s.part.chg.coldInhibit = none ∧ s.part.chg.pad = .noPad) ∧
    (let s := roleLine 5 (widthFrom 100) fun p => { p with chg := { p.chg with coldInhibit := none } };
      Reaches s 5 ∧ s.part.params.lineWith .battTemp = some 5 ∧ s.part.params.chemistry = .lithium ∧
        s.part.chg.coldInhibit = none) := by
  refine ⟨?_, ?_, ?_, ?_, ?_, ?_, ?_, ?_, ?_, ?_, ?_⟩ <;> try dsimp only
  all_goals decide +kernel

theorem witness_WaterRunsThePumpWhileWet :
    (∃ s : State, s.part.Ready ∧ s.part.mdc.mode ≠ .start ∧ s.part.params.loadWith Role.pump = none) ∧
    (∃ s : State, s.part.Ready ∧ s.part.mdc.mode ≠ .start ∧ s.part.params.loadWith Role.pump = some (5 : LoadId) ∧
      s.part.wat.dumped = true) ∧
    (∃ s : State, s.part.Ready ∧ s.part.mdc.mode ≠ .start ∧ s.part.params.loadWith Role.pump = some (5 : LoadId) ∧
      s.part.wat.dumped = false ∧ s.part.wat.dry = true ∧ s.part.wat.fresh.levelState = TankLevel.current) ∧
    (∃ s : State, s.part.Ready ∧ s.part.mdc.mode ≠ .start ∧ s.part.params.loadWith Role.pump = some (5 : LoadId) ∧
      s.part.wat.dumped = false ∧ s.part.wat.dry = false ∧ s.part.wat.pump ≠ PumpState.running ∧
      s.part.modeRefusal 5 (s.part.effClass 5) = none ∧
      (s.part.load 5).state = .on) ∧
    (∃ s : State, s.part.Ready ∧ s.part.mdc.mode ≠ .start ∧ s.part.params.loadWith Role.pump = some (5 : LoadId) ∧
      s.part.wat.dumped = false ∧ s.part.wat.dry = false ∧ s.part.wat.pump ≠ PumpState.running ∧
      s.part.modeRefusal 5 (s.part.effClass 5) = none ∧
      (s.part.load 5).state = .shed) ∧
    (∃ s : State, s.part.Ready ∧ s.part.mdc.mode ≠ .start ∧ s.part.params.loadWith Role.pump = some (5 : LoadId) ∧
      s.part.wat.dumped = false ∧ s.part.wat.dry = false ∧ s.part.wat.pump ≠ PumpState.running ∧
      s.part.modeRefusal 5 (s.part.effClass 5) = none ∧
      (s.part.load 5).state = .faulted) ∧
    (∃ s : State, s.part.Ready ∧ s.part.mdc.mode ≠ .start ∧ s.part.params.loadWith Role.pump = some (5 : LoadId) ∧
      s.part.wat.dumped = false ∧ s.part.wat.dry = false ∧ s.part.wat.pump ≠ PumpState.running ∧
      s.part.modeRefusal 5 (s.part.effClass 5) = none ∧ s.part.Admits 5 ∧
      (5 : LoadId).val < 12 ∧ (s.part.chan 5).switching ≠ .tripped) ∧
    (∃ s : State, s.part.Ready ∧ s.part.mdc.mode ≠ .start ∧ s.part.params.loadWith Role.pump = some (5 : LoadId) ∧
      s.part.wat.dumped = false ∧ s.part.wat.dry = false ∧ s.part.wat.pump ≠ PumpState.running ∧
      s.part.modeRefusal 5 (s.part.effClass 5) = some Status.wrongMode) ∧
    (∃ s : State, s.part.Ready ∧ s.part.mdc.mode ≠ .start ∧ s.part.params.loadWith Role.pump = some (5 : LoadId) ∧
      s.part.wat.dumped = false ∧ s.part.wat.dry = true ∧ (¬s.part.wat.fresh.levelState = TankLevel.current) ∧
      s.part.wat.pump ≠ PumpState.running ∧ (s.part.load 5).state = .on ∧ s.part.modeRefusal 5 (s.part.effClass 5) = none) ∧
    (∃ s : State, s.part.Ready ∧ s.part.mdc.mode ≠ .start ∧ s.part.params.loadWith Role.pump = some (5 : LoadId) ∧
      s.part.wat.dumped = false ∧ s.part.wat.dry = true ∧ (¬s.part.wat.fresh.levelState = TankLevel.current) ∧
      s.part.wat.pump ≠ PumpState.running ∧ s.part.Admits 5 ∧ (s.part.chan 5).switching ≠ .tripped) ∧
    (∃ s : State, s.part.Ready ∧ s.part.mdc.mode ≠ .start ∧ s.part.params.loadWith Role.pump = some (5 : LoadId) ∧
      s.part.wat.dumped = false ∧ s.part.wat.dry = false ∧ s.part.wat.pump = PumpState.running) ∧
    (∃ s : State, s.part.Ready ∧ s.part.mdc.mode ≠ .start ∧ s.part.wat.pump ≠ PumpState.running ∧
      s.part.wat.pump ≠ PumpState.waiting) ∧
    (∃ s : State, s.part.Ready ∧ s.part.mdc.mode ≠ .start ∧ s.part.params.loadWith Role.pump = some (5 : LoadId) ∧
      (s.part.wat.pump = PumpState.running ∨ s.part.wat.pump = PumpState.waiting)) ∧
    (∃ s : State, s.part.outbox = [] ∧ s.part.params.loadWith Role.pump = some (5 : LoadId) ∧ s.part.dryCondition = false) ∧
    (∃ s : State, s.part.outbox = [] ∧ s.part.params.loadWith Role.pump = some (5 : LoadId) ∧ s.part.dryCondition = true ∧
      s.part.wat.pump = PumpState.running) := by
  refine ⟨⟨active, by decide +kernel⟩,
    ⟨pumpReady fun p => {p with wat := {p.wat with dumped := true}}, by decide +kernel⟩,
    ⟨pumpReady fun p => {p with wat := {p.wat with dry := true, fresh := {p.wat.fresh with levelState := .current}}},
        by decide +kernel⟩,
    ⟨pumpReady (·.onLoad 5), by decide +kernel⟩,
    ⟨pumpReady (·.shedLoad 5), by decide +kernel⟩,
    ⟨pumpReady (·.ld 5 ({ · with state := .faulted})), by decide +kernel⟩,
    ⟨pumpReady id, by unfold Part.Admits; decide +kernel⟩,
    ⟨pumpReady fun p => {p with mdc := {p.mdc with mode := .service}}, by decide +kernel⟩,
    ⟨pumpReady fun p => {p.onLoad 5 with wat := {p.wat with dry := true}}, by decide +kernel⟩,
    ⟨pumpReady fun p => {p with wat := {p.wat with dry := true}}, by unfold Part.Admits; decide +kernel⟩,
    ⟨pumpReady fun p => {p.onLoad 5 with wat := {p.wat with pump := .running}}, by decide +kernel⟩,
    ⟨pumpReady id, by decide +kernel⟩,
    ⟨pumpReady fun p => {p.onLoad 5 with wat := {p.wat with pump := .running}}, by decide +kernel⟩,
    ⟨pumpReady id, by decide +kernel⟩,
    ⟨pumpReady dryRun, by decide +kernel⟩⟩

end Lines

/-! ### Witnesses: climate and motion -/

namespace Climate

/-- The call that the thermostat statement forms. -/
def callOf (p : Part) : Bool :=
  let h : Int := (p.params.thermoHysteresis / 2 : Nat)
  let rule := fun setpoint : Int => match p.clm.cabin with
    | none => false
    | some t => if t < setpoint - h then true else if setpoint + h ≤ t then false else p.clm.call
  match p.params.thermoMode with
  | .off => false
  | .comfort => rule p.params.setpoint
  | .frostHold => rule 10
/-- L5 the heater, the guard SAFE, the cabin at 15 degrees. -/
def heating (f : Part → Part) (g : Clm → Clm) (mode : Nat := 1) := st (f ({((calm.role' 5 2).par 7 0 mode) with
    clm := g {calm.clm with guard := .safe, cabin := some 30}}))
/-- The thermostat evaluation due. -/
def evaluated (g : Clm → Clm) (f : Part → Part := id) := heating f (fun c => g {c with evalTimer := some 0})
/-- The cabin at 28.5 degrees. -/
def cabinWarm := st {calm with clm := {calm.clm with cabin := some 57}}
/-- The climate record changed. -/
def guarded (g : Clm → Clm) (f : Part → Part := id) := st (f {calm with clm := g calm.clm})
/-- L6 the frost valve, the climate record changed. -/
def valved (f : Part → Part) (g : Clm → Clm) := st (f ({(calm.role' 6 3) with clm := g calm.clm}))
/-- HANDBRAKE, D+ and the four end switches as given. -/
def switches (p : Part) (hb dp ai ao si so : Bool) : Part := {p with mdc := {p.mdc with
    signals := ⟨⟨dp,dp,500⟩,⟨hb,hb,200⟩,⟨false,false,0⟩,⟨ai,ai,20⟩,⟨ao,ao,20⟩,⟨si,si,20⟩,⟨so,so,20⟩⟩}}
/-- A motion under way. -/
def motionOf (a : Axis) (d : Direction) (st' : Stage) : Motion := ⟨a, d, none, 2, st', .retracted, some 0, 500, 20000⟩
/-- A motion under way with its motor ON and its timers running. -/
def moving (m : Motion) : State :=
  let p := (switches calm true false false false false false).onLoad (motorOf m.axis)
  let p := p.setAxis m.axis {p.axis m.axis with state := .extending, position := some 0}
  st {p with mot := {p.mot with
      active := some m, bridge := .outward, tick := some 0, timeout := some 0, watch := some 0, backoff :=
      some 0, inrush := some 0}}

theorem witness_ThermostatJudgesTheHeater :
    (∃ s : State, s.part.outbox = [] ∧ s.part.mdc.mode ≠ .start ∧ s.part.clm.guard = .safe ∧
      s.part.params.loadWith Role.heater = some (5 : LoadId) ∧ (5 : LoadId).val < 12 ∧ s.part.clm.evalTimer.isSome = true ∧
      callOf s.part = true ∧ (s.part.clm.heater = .running ∨ s.part.clm.heater = .waiting)) ∧
    (∃ s : State, s.part.outbox = [] ∧ s.part.mdc.mode ≠ .start ∧ s.part.clm.guard = .safe ∧
      s.part.params.loadWith Role.heater = some (5 : LoadId) ∧ (5 : LoadId).val < 12 ∧ s.part.clm.evalTimer.isSome = true ∧
      callOf s.part = false ∧ (s.part.clm.heater = .running ∨ s.part.clm.heater = .waiting) ∧ s.part.clm.minOn.isSome = true) ∧
    (∃ s : State, s.part.outbox = [] ∧ s.part.mdc.mode ≠ .start ∧ s.part.clm.guard = .safe ∧
      s.part.params.loadWith Role.heater = some (5 : LoadId) ∧ (5 : LoadId).val < 12 ∧ s.part.clm.evalTimer.isSome = true ∧
      callOf s.part = false ∧ (s.part.clm.heater = .running ∨ s.part.clm.heater = .waiting) ∧ s.part.clm.minOn = none) ∧
    (∃ s : State, s.part.outbox = [] ∧ s.part.mdc.mode ≠ .start ∧ s.part.clm.guard = .safe ∧
      s.part.params.loadWith Role.heater = some (5 : LoadId) ∧ (5 : LoadId).val < 12 ∧ s.part.clm.evalTimer.isSome = true ∧
      callOf s.part = false ∧ s.part.clm.heater = .idle) ∧
    (∃ s : State, s.part.outbox = [] ∧ s.part.mdc.mode ≠ .start ∧ s.part.clm.guard = .safe ∧
      s.part.params.loadWith Role.heater = some (5 : LoadId) ∧ (5 : LoadId).val < 12 ∧ s.part.clm.evalTimer.isSome = true ∧
      callOf s.part = true ∧ s.part.clm.heater = .idle ∧ s.part.clm.minOff.isSome = true) ∧
    (∃ s : State, s.part.outbox = [] ∧ s.part.mdc.mode ≠ .start ∧ s.part.clm.guard = .safe ∧
      s.part.params.loadWith Role.heater = some (5 : LoadId) ∧ (5 : LoadId).val < 12 ∧ s.part.clm.evalTimer.isSome = true ∧
      callOf s.part = true ∧ s.part.clm.heater = .idle ∧ s.part.clm.minOff = none ∧ s.part.Admits 5 ∧
      (s.part.chan 5).switching ≠ .tripped) ∧
    (∃ s : State, s.part.outbox = [] ∧ s.part.mdc.mode ≠ .start ∧ s.part.clm.guard = .safe ∧
      s.part.params.loadWith Role.heater = some (5 : LoadId) ∧ (5 : LoadId).val < 12 ∧ s.part.clm.minOn.isSome = true ∧
      (s.part.clm.heater = .running ∨ s.part.clm.heater = .waiting) ∧ (s.part.clm.call || s.part.clm.hold) = true) ∧
    (∃ s : State, s.part.outbox = [] ∧ s.part.mdc.mode ≠ .start ∧ s.part.clm.guard = .safe ∧
      s.part.params.loadWith Role.heater = some (5 : LoadId) ∧ (5 : LoadId).val < 12 ∧ s.part.clm.minOn.isSome = true ∧
      (s.part.clm.heater = .running ∨ s.part.clm.heater = .waiting) ∧ (s.part.clm.call || s.part.clm.hold) = false) ∧
    (∃ s : State, s.part.outbox = [] ∧ s.part.mdc.mode ≠ .start ∧ s.part.clm.guard = .safe ∧
      s.part.params.loadWith Role.heater = some (5 : LoadId) ∧ (5 : LoadId).val < 12 ∧ s.part.clm.minOff.isSome = true ∧
      s.part.clm.heater = .idle ∧ (s.part.clm.call || s.part.clm.hold) = false) ∧
    (∃ s : State, s.part.outbox = [] ∧ s.part.mdc.mode ≠ .start ∧ s.part.clm.guard = .safe ∧
      s.part.params.loadWith Role.heater = some (5 : LoadId) ∧ (5 : LoadId).val < 12 ∧ s.part.clm.minOff.isSome = true ∧
      s.part.clm.heater = .idle ∧ (s.part.clm.call || s.part.clm.hold) = true ∧ s.part.Admits 5 ∧
      (s.part.chan 5).switching ≠ .tripped) := by
  refine ⟨⟨evaluated ({ · with heater := .running, minOn := some 4}) (·.onLoad 5), by decide +kernel⟩,
    ⟨evaluated ({ · with heater := .running, minOn := some 4, cabin := some 60, call := true}) (·.onLoad 5), by decide +kernel⟩,
    ⟨evaluated ({ · with heater := .running, minOn := none, cabin := some 60, call := true}) (·.onLoad 5), by decide +kernel⟩,
    ⟨evaluated ({ · with heater := .idle, minOn := none, cabin := some 42, call := true}), by decide +kernel⟩,
    ⟨evaluated ({ · with heater := .idle, minOff := some 3, cabin := some 41, call := true}), by decide +kernel⟩,
    ⟨evaluated ({ · with heater := .idle, cabin := some 37}), by unfold Part.Admits; decide +kernel⟩,
    ⟨heating (·.onLoad 5) ({ · with heater := .running, minOn := some 0, call := true}), by decide +kernel⟩,
    ⟨heating (·.onLoad 5) ({ · with heater := .running, minOn := some 0, held := .heldOn}), by decide +kernel⟩,
    ⟨heating id ({ · with heater := .idle, minOff := some 0}), by decide +kernel⟩,
    ⟨heating id ({ · with heater := .idle, minOff := some 0, call := true}), by unfold Part.Admits; decide +kernel⟩⟩

theorem witness_HeatSetStoresAndForms :
    (∃ s : State, s.part.Ready ∧ s.part.mdc.mode ≠ .start ∧ (1 : Byte).toNat ≤ 2 ∧ s.part.params.loadWith Role.heater = none ∧
      s.part.clm.guard ≠ .watch ∧ s.part.clm.guard ≠ .risk ∧ 8 ≤ List.length s.part.params ∧
      2 ≤ (List.getD s.part.params 7 []).length) ∧
    (∃ s : State, s.part.Ready ∧ s.part.mdc.mode ≠ .start ∧ (2 : Byte).toNat ≤ 2 ∧ s.part.params.loadWith Role.heater = none ∧
      s.part.clm.guard ≠ .watch ∧ s.part.clm.guard ≠ .risk ∧ 8 ≤ List.length s.part.params ∧
      2 ≤ (List.getD s.part.params 7 []).length) ∧
    (∃ s : State, s.part.Ready ∧ s.part.mdc.mode ≠ .start ∧ (0 : Byte).toNat ≤ 2 ∧ s.part.params.loadWith Role.heater = none ∧
      s.part.clm.guard ≠ .watch ∧ s.part.clm.guard ≠ .risk ∧ 8 ≤ List.length s.part.params ∧
      2 ≤ (List.getD s.part.params 7 []).length) := by
  refine ⟨⟨cabinWarm, by decide +kernel⟩,
    ⟨cabinWarm, by decide +kernel⟩,
    ⟨cabinWarm, by decide +kernel⟩⟩

/-- The common hypotheses of HEAT_SET with the heater load L5, and the call that it forms. -/
abbrev Forms (s : State) (x : Byte) (v : Word) (call : Bool) : Prop :=
  let p := s.part
  let h : Int := (p.params.thermoHysteresis / 2 : Nat)
  let rule := fun setpoint : Int => match p.clm.cabin with
    | none => false
    | some t => if t < setpoint - h then true else if setpoint + h ≤ t then false else p.clm.call
  p.Ready ∧ p.mdc.mode ≠ .start ∧ x.toNat ≤ 2 ∧ p.clm.guard ≠ .watch ∧ p.clm.guard ≠ .risk ∧ 8 ≤ p.params.length ∧
    2 ≤ (p.params.getD 7 []).length ∧ p.params.loadWith .heater = some 5 ∧
    (if x = 1#8 then rule (max 10 (min 60 v.toInt)) else if x = 2#8 then rule 10 else false) = call
/-- The heater idle. -/
def resting (g : Clm → Clm) : State := heating id fun c => g { c with heater := .idle }
/-- The heater running. -/
def burning (g : Clm → Clm) : State := heating (·.onLoad 5) fun c => g { c with heater := .running }

theorem witness_HeatSetStoresAndForms_heater :
    Forms (burning id) 1 60 true ∧ Forms (heating id ({ · with heater := .waiting })) 1 60 true ∧
    Forms (heating id ({ · with heater := .faulted })) 1 60 true ∧
    (Forms (resting id) 1 10 false ∧ (resting id).part.clm.heater = .idle) ∧ Forms (heating id ({ · with heater := .faulted })) 0 60 false ∧
    Forms (heating id ({ · with heater := .denied .lowCharge })) 2 60 false ∧
    (Forms (burning ({ · with minOn := some 4 })) 1 10 false ∧ (burning ({ · with minOn := some 4 })).part.clm.minOn.isSome) ∧
    (Forms (burning id) 1 10 false ∧ (burning id).part.clm.minOn = none) ∧
    (Forms (resting ({ · with minOff := some 4 })) 1 60 true ∧
      (resting ({ · with minOff := some 4 })).part.clm.heater = .idle) ∧
    (Forms (resting id) 1 60 true ∧ (resting id).part.clm.heater = .idle ∧ (resting id).part.clm.minOff = none ∧
      (resting id).part.Admits 5 ∧ ((resting id).part.chan 5).switching ≠ .tripped) := by
  unfold Part.Admits
  refine ⟨?_, ?_, ?_, ?_, ?_, ?_, ?_, ?_, ?_, ?_⟩ <;> decide +kernel

theorem witness_GuardFollowsTheUnknownBay :
    (∃ s : State, s.part.outbox = [] ∧ s.part.mdc.mode ≠ .start ∧ s.part.clm.cabinTimer.isSome = true) ∧
    (∃ s : State, s.part.outbox = [] ∧ s.part.mdc.mode ≠ .start ∧ s.part.clm.cabinTimer = none) ∧
    (∃ s : State, s.part.outbox = [] ∧ s.part.mdc.mode ≠ .start ∧ s.part.clm.bayTimer = none) ∧
    (∃ s : State, s.part.outbox = [] ∧ s.part.mdc.mode ≠ .start ∧ s.part.clm.bayTimer.isSome = true ∧
      (s.part.clm.guard = .off ∨ s.part.clm.guard = .dumped)) ∧
    (∃ s : State, s.part.outbox = [] ∧ s.part.mdc.mode ≠ .start ∧ s.part.clm.bayTimer.isSome = true ∧ s.part.clm.guard = .safe ∧
      s.part.clm.unknownTimer < 60000 ∧ s.part.params.loadWith Role.heater = none) ∧
    (∃ s : State, s.part.outbox = [] ∧ s.part.mdc.mode ≠ .start ∧
      (s.part.clm.bay.isSome = true ∨ s.part.clm.guard = .off ∨ s.part.clm.guard = .dumped)) ∧
    (∃ s : State, s.part.outbox = [] ∧ s.part.mdc.mode ≠ .start ∧ s.part.clm.bay = none ∧ s.part.clm.guard = .watch ∧
      s.part.params.loadWith Role.heater = none) ∧
    (∃ s : State, s.part.outbox = [] ∧ s.part.mdc.mode ≠ .start ∧ s.part.clm.bay = none ∧ s.part.clm.guard = .watch ∧
      s.part.params.loadWith Role.heater = some (5 : LoadId) ∧ (s.part.load 5).promoted = false ∧ (s.part.load 5).state = .on ∧
      s.part.clm.heater = .running) := by
  refine ⟨⟨guarded ({ · with cabinTimer := some 0, cabin := some 3}), by decide +kernel⟩,
    ⟨guarded id, by decide +kernel⟩,
    ⟨guarded id, by decide +kernel⟩,
    ⟨guarded ({ · with bayTimer := some 0, bay := some 3}), by decide +kernel⟩,
    ⟨guarded ({ · with bayTimer := some 0, bay := some 30, guard := .safe}), by decide +kernel⟩,
    ⟨guarded ({ · with bay := some 30, guard := .watch}), by decide +kernel⟩,
    ⟨guarded ({ · with guard := .watch, hold := true}), by decide +kernel⟩,
    ⟨guarded ({ · with guard := .watch, hold := true, heater := .running}) (fun p => (p.role' 5 2).onLoad 5),
        by decide +kernel⟩⟩

/-- The cabin's and the bay's countdowns running over values of an age. -/
def dated (age : Option Nat) (g : Clm → Clm) (f : Part → Part := id) : State :=
  guarded (fun c => g { c with cabinTimer := some 0, bayTimer := some 0, cabin := some 3, bay := some 3 }) fun p =>
    f ((p.ln 3 ({ · with age := age })).ln 4 ({ · with age := age }))
/-- A judged value at an age, outside STORAGE, the guard outside its 60 s. -/
abbrev Stands (s : State) (age : Option Nat) : Prop :=
  s.part.outbox = [] ∧ s.part.mdc.mode = .active ∧ s.part.ageOf .cabinTemp = age ∧ s.part.ageOf .bayTemp = age ∧
    s.part.clm.cabinTimer.isSome = true ∧ s.part.clm.bayTimer.isSome = true

theorem witness_GuardFollowsTheUnknownBay_ages :
    Stands (dated none id) none ∧ Stands (dated (some 9999) id) (some 9999) ∧
    (Stands (dated (some 10000) id) (some 10000) ∧ (dated (some 10000) id).part.clm.guard = .off) ∧
    (Stands (dated (some 10000) ({ · with guard := .dumped })) (some 10000)) ∧
    (Stands (dated (some 10000) ({ · with guard := .risk })) (some 10000)) ∧
    (Stands (dated (some 10000) ({ · with guard := .watch, unknownTimer := 59999 })) (some 10000)) ∧
    (Stands (dated (some 10000) ({ · with guard := .safe, unknownTimer := 59999 })) (some 10000) ∧
      calm.params.loadWith .heater = none) ∧
    (Stands (dated (some 10000) ({ · with guard := .safe }) (·.role' 5 2)) (some 10000) ∧
      (calm.role' 5 2).params.loadWith .heater = some 5) ∧
    (let s := dated (some 120000) ({ · with guard := .safe }) fun p => { p with mdc := storing.part.mdc };
      s.part.outbox = [] ∧ s.part.mdc.mode = .storage ∧ s.part.ageOf .bayTemp = some 120000 ∧
        2 * s.part.params.dutyMs = 120000 ∧ s.part.clm.bayTimer.isSome = true) ∧
    (let s := guarded ({ · with guard := .watch, hold := true }) (·.role' 5 2);
      s.part.outbox = [] ∧ s.part.clm.bay = none ∧ s.part.params.loadWith .heater = some 5 ∧
        (s.part.load 5).state = .off) := by
  refine ⟨?_, ?_, ?_, ?_, ?_, ?_, ?_, ?_, ?_, ?_⟩ <;> try dsimp only
  all_goals decide +kernel

theorem witness_DumpOpensTheValveAndCloseShutsIt :
    (∃ s : State, s.part.mdc.mode ≠ .start ∧ s.part.params.loadWith Role.frostValve = some (6 : LoadId) ∧
        (6 : LoadId).val < 12 ∧
      s.part.params.loadWith Role.heater = none ∧ s.part.outbox = [] ∧
      (s.part.clm.guard = .safe ∨ s.part.clm.guard = .watch ∨ s.part.clm.guard = .risk) ∧ ((s.part.load 6).state = .on ∧
      (s.part.chan 6).switching = .on) ∧ s.part.clm.riskTimer.isSome = true) ∧
    (∃ s : State, s.part.mdc.mode ≠ .start ∧ s.part.params.loadWith Role.frostValve = some (6 : LoadId) ∧
        (6 : LoadId).val < 12 ∧
      s.part.params.loadWith Role.heater = none ∧ s.part.Ready ∧ s.part.clm.guard = .off) ∧
    (∃ s : State, s.part.mdc.mode ≠ .start ∧ s.part.params.loadWith Role.frostValve = some (6 : LoadId) ∧
        (6 : LoadId).val < 12 ∧
      s.part.params.loadWith Role.heater = none ∧ s.part.Ready ∧ s.part.clm.guard = .dumped) ∧
    (∃ s : State, s.part.mdc.mode ≠ .start ∧ s.part.params.loadWith Role.frostValve = some (6 : LoadId) ∧
        (6 : LoadId).val < 12 ∧
      s.part.params.loadWith Role.heater = none ∧ s.part.Ready ∧
      (s.part.clm.guard = .safe ∨ s.part.clm.guard = .watch ∨ s.part.clm.guard = .risk) ∧ ((s.part.load 6).state = .on ∧
      (s.part.chan 6).switching = .on)) ∧
    (∃ s : State, s.part.mdc.mode ≠ .start ∧ s.part.params.loadWith Role.frostValve = some (6 : LoadId) ∧
        (6 : LoadId).val < 12 ∧
      s.part.params.loadWith Role.heater = none ∧ s.part.Ready ∧ s.part.clm.guard ≠ .dumped) ∧
    (∃ s : State, s.part.mdc.mode ≠ .start ∧ s.part.params.loadWith Role.frostValve = some (6 : LoadId) ∧
        (6 : LoadId).val < 12 ∧
      s.part.params.loadWith Role.heater = none ∧ s.part.Ready ∧ s.part.clm.guard = .dumped ∧
          (s.part.load 6).state = .faulted) ∧
    (∃ s : State, s.part.mdc.mode ≠ .start ∧ s.part.params.loadWith Role.frostValve = some (6 : LoadId) ∧
        (6 : LoadId).val < 12 ∧
      s.part.params.loadWith Role.heater = none ∧ s.part.Ready ∧ s.part.clm.guard = .dumped ∧ (s.part.load 6).state ≠ .faulted ∧
      s.part.params.guardEnabled = true ∧ (∀ (t : ℤ), s.part.clm.bay = some t → t < s.part.params.warnThreshold)) ∧
    (∃ s : State, s.part.mdc.mode ≠ .start ∧ s.part.params.loadWith Role.frostValve = some (6 : LoadId) ∧
        (6 : LoadId).val < 12 ∧
      s.part.params.loadWith Role.heater = none ∧ s.part.Ready ∧ s.part.clm.guard = .dumped ∧ s.part.Admits 6 ∧
      (s.part.chan 6).switching ≠ .tripped ∧ s.part.params.guardEnabled = false) ∧
    (∃ s : State, s.part.mdc.mode ≠ .start ∧ s.part.params.loadWith Role.frostValve = some (6 : LoadId) ∧
        (6 : LoadId).val < 12 ∧
      s.part.params.loadWith Role.heater = none ∧ s.part.Ready ∧ s.part.clm.guard = .dumped ∧ s.part.Admits 6 ∧
      (s.part.chan 6).switching ≠ .tripped ∧ s.part.params.guardEnabled = true ∧
      s.part.params.dumpThreshold ≤ s.part.params.warnThreshold ∧ s.part.clm.bay = some (12 : ℤ) ∧
      s.part.params.warnThreshold ≤ (12 : ℤ)) ∧
    (∃ s : State, s.part.mdc.mode ≠ .start ∧ s.part.params.loadWith Role.frostValve = some (6 : LoadId) ∧
        (6 : LoadId).val < 12 ∧
      s.part.params.loadWith Role.heater = none ∧ s.part.Ready ∧ s.part.clm.guard = .dumped ∧ s.part.Admits 6 ∧
      (s.part.chan 6).switching ≠ .tripped ∧ s.part.params.guardEnabled = true ∧
      s.part.params.dumpThreshold ≤ s.part.params.warnThreshold ∧ s.part.clm.bay = some (16 : ℤ) ∧
      s.part.params.warnThreshold ≤ (16 : ℤ)) := by
  refine ⟨⟨valved (·.onLoad 6) ({ · with guard := .risk, riskTimer := some 0}), by decide +kernel⟩,
    ⟨valved (·.onLoad 6) ({ · with guard := .off}), by decide +kernel⟩,
    ⟨valved id ({ · with guard := .dumped}), by decide +kernel⟩,
    ⟨valved (·.onLoad 6) ({ · with guard := .safe}), by decide +kernel⟩,
    ⟨valved id ({ · with guard := .safe}), by decide +kernel⟩,
    ⟨valved (·.ld 6 ({ · with state := .faulted})) ({ · with guard := .dumped}), by decide +kernel⟩,
    ⟨valved id ({ · with guard := .dumped, bay := some 11}), by decide +kernel⟩,
    ⟨valved (·.par 7 3 0) ({ · with guard := .dumped, bay := some 11}), by unfold Part.Admits; decide +kernel⟩,
    ⟨valved id ({ · with guard := .dumped, bay := some 12}), by unfold Part.Admits; decide +kernel⟩,
    ⟨valved id ({ · with guard := .dumped, bay := some 16}), by unfold Part.Admits; decide +kernel⟩⟩

theorem witness_DumpOpensTheValveAndCloseShutsIt_heater :
    (let s := valved (fun p => ((p.role' 5 2).onLoad 6).onLoad 5) ({ · with
        guard := .risk, riskTimer := some 0, heater := .running });
      s.part.outbox = [] ∧ s.part.params.loadWith .frostValve = some 6 ∧ s.part.params.loadWith .heater = some 5 ∧
        s.part.Ready ∧ s.part.mdc.mode ≠ .start ∧ s.part.clm.guard = .risk ∧ (s.part.load 6).state = .on ∧
        (s.part.chan 6).switching = .on ∧ s.part.clm.riskTimer.isSome = true) ∧
    (let s := valved (·.role' 5 2) ({ · with guard := .dumped, bay := some 16 });
      s.part.params.loadWith .heater = some 5 ∧ s.part.params.loadWith .frostValve = some 6 ∧ s.part.Ready ∧
        s.part.mdc.mode ≠ .start ∧ s.part.Admits 6 ∧ (s.part.chan 6).switching ≠ .tripped ∧
        s.part.params.guardEnabled = true ∧ s.part.params.dumpThreshold ≤ s.part.params.warnThreshold ∧
        s.part.params.warnThreshold ≤ 16) := by
  unfold Part.Admits
  refine ⟨?_, ?_⟩ <;> dsimp only <;> decide +kernel

/-- The common hypotheses of MOVE on an idle bridge. -/
abbrev MoveIdle (s : State) (a : Axis) (d : Direction) (w : Option Word) : Prop :=
  (s.part.mdc.mode = .active ∨ s.part.mdc.mode = .service) ∧ s.part.Ready ∧ s.part.mot.active = none ∧
    (w.isSome = true → a = .awn ∧ d = .extend)
/-- The interlock of an extension holds. -/
abbrev MoveLocked (s : State) (a : Axis) (d : Direction) : Prop :=
  d = .extend ∧ (s.part.dplus = true ∨ a = .step ∧ s.part.handbrake = false)
/-- A target at or below the position. -/
abbrev MoveMet (s : State) (a : Axis) (w : Option Word) : Bool :=
  match w.map fun n => min 1000 n.toNat, (s.part.axis a).position with
  | some n, some pos => decide (n ≤ pos)
  | _, _ => false
/-- A MOVE that is admitted and starts no motion at its end. -/
abbrev MoveAdmitted (s : State) (a : Axis) (d : Direction) (w : Option Word) : Prop :=
  let p := s.part
  let l := motorOf a
  let b := p.busOf l
  let goal := match d with
    | .extend => AxisState.extended
    | .retract => .retracted
  let atEnd := match d with
    | .extend => p.outSwitch a
    | .retract => p.inSwitch a
  MoveIdle s a d w ∧ ¬ MoveLocked s a d ∧ ¬ (p.inSwitch a = true ∧ p.outSwitch a = true) ∧ (p.axis a).state ≠ goal ∧
    MoveMet s a w = false ∧
    (p.params.role l = .motor ∧ (p.load l).state = .off ∧ ((if a = .step ∧ d = .retract then 1 else 2) = 2 →
      busFloorOf p.params b 2 ≤ (p.bus b).soc ∧ (p.bus b).uvFlag = false) ∧
      p.committedSum b + p.committed l ≤ busLimitOf p.params b) ∧ atEnd = false ∧ (p.chan l).switching ≠ .tripped

theorem witness_AcceptedMoveStartsOrWaits_refused :
    (∃ s : State, s.part.Ready ∧ s.part.mdc.mode = .storage ∧ ((some 5#16).isSome = true → Axis.awn = .awn)) ∧
    (∃ s : State, MoveIdle s .step .extend none ∧ MoveLocked s .step .extend) ∧
    (∃ s : State, MoveIdle s .awn .extend (some 5) ∧ MoveLocked s .awn .extend) ∧
    (∃ s : State, MoveIdle s .awn .extend none ∧ ¬ MoveLocked s .awn .extend ∧ s.part.inSwitch .awn = true ∧
      s.part.outSwitch .awn = true) ∧
    (∃ s : State, MoveIdle s .awn .retract none ∧ ¬ MoveLocked s .awn .retract ∧
      ¬ (s.part.inSwitch .awn = true ∧ s.part.outSwitch .awn = true) ∧ (s.part.axis .awn).state = .retracted) ∧
    (∃ s : State, MoveIdle s .awn .extend (some 400) ∧ ¬ MoveLocked s .awn .extend ∧
      ¬ (s.part.inSwitch .awn = true ∧ s.part.outSwitch .awn = true) ∧ (s.part.axis .awn).state = .stoppedMid ∧
      MoveMet s .awn (some 400) = true) := by
  refine ⟨⟨st storing.part, by decide +kernel⟩,
    ⟨st (switches calm false false false false false false), by decide +kernel⟩,
    ⟨st (switches calm true true false false false false), by decide +kernel⟩,
    ⟨st (switches calm true false true true false false), by decide +kernel⟩,
    ⟨st ((switches calm true false true false false false).setAxis .awn {AxisRec.reset with
        state := .retracted, position := some 0}), by decide +kernel⟩,
    ⟨st ((switches calm true false false false false false).setAxis .awn {AxisRec.reset with
        state := .stoppedMid, position := some 400}), by decide +kernel⟩⟩

theorem witness_AcceptedMoveStartsOrWaits :
    (∃ s : State, MoveAdmitted s .awn .retract none ∧ s.part.mot.dead.isSome = true) ∧
    (∃ s : State, MoveAdmitted s .awn .extend none ∧ s.part.mot.dead = none) ∧
    (∃ s : State, MoveAdmitted s .awn .extend (some 401) ∧ (s.part.axis .awn).position = some 400 ∧ s.part.mot.dead = none) ∧
    (∃ s : State, MoveAdmitted s .awn .extend (some 0) ∧ (s.part.axis .awn).position = none ∧ s.part.mot.dead = none) ∧
    (∃ s : State, MoveAdmitted s .step .retract none ∧ s.part.mot.dead = none) := by
  refine ⟨⟨st {switches calm true false false false false false with mot := {Mot.reset with dead := some 3}}, by decide +kernel⟩,
    ⟨st {switches calm true false false false false false with mot := {Mot.reset with dead := none}}, by decide +kernel⟩,
    ⟨st ((switches calm true false false false false false).setAxis .awn {AxisRec.reset with
        state := .stoppedMid, position := some 400}), by decide +kernel⟩,
    ⟨st ((switches calm true false false false false false).setAxis .awn {AxisRec.reset with
        state := .stoppedMid, position := none}), by decide +kernel⟩,
    ⟨st {switches calm true true false false false false with ldm := {calm.ldm with busA := {calm.ldm.busA with
        uvFlag := true}}}, by decide +kernel⟩⟩

/-- A motion in the active slot at the end of the dead time, its motor ON in the load table and OFF at the channel, its axis in the
moving state, the switches AWN IN and STEP OUT given. -/
def expiring (m : Motion) (hb awnIn stepOut : Bool) (dead : Option Nat := some 0) : State :=
  let p := (switches calm hb false awnIn false false stepOut).onLoad (motorOf m.axis)
  let p := (p.ch (motorOf m.axis) ({ · with switching := .off })).setAxis m.axis { p.axis m.axis with state := movingState m.dir }
  st { p with mot := { p.mot with active := some m, dead := dead } }
/-- A motion that waits, as the demand of a MOVE leaves it. -/
def waiting (a : Axis) (d : Direction) (target : Option Nat) (before : AxisState) : Motion :=
  ⟨a, d, target, motionClass a d, .wait, before, none, 0, 1⟩
/-- The common hypotheses of the dead time's expiry over an active motion. -/
abbrev Expires (s : State) (m : Motion) : Prop :=
  s.part.outbox = [] ∧ s.part.mot.dead.isSome = true ∧ s.part.mot.active = some m ∧
    (s.part.chan (motorOf m.axis)).switching = .off ∧ (s.part.load (motorOf m.axis)).state = .on ∧ s.part.mot.pend = none ∧
    s.part.params.role (motorOf m.axis) = .motor

theorem witness_AcceptedMoveStartsOrWaits_deadTime :
    ((st calm).part.outbox = [] ∧ (st calm).part.mot.dead = none) ∧
    (let s := st { calm with mot := { Mot.reset with dead := some 0 } };
      s.part.outbox = [] ∧ s.part.mot.dead.isSome = true ∧ s.part.mot.active = none) ∧
    (let m := waiting .awn .extend (some 600) .retracted;
      Expires (expiring m true false false) m ∧ (expiring m true false false).part.outSwitch .awn = false) ∧
    (let m := waiting .step .extend none .stoppedMid;
      Expires (expiring m true false false) m ∧ (expiring m true false false).part.outSwitch .step = false ∧
        (expiring m true false false).part.stepLocked = false) ∧
    (let m := waiting .step .retract none .extended;
      Expires (expiring m false false true) m ∧ (expiring m false false true).part.inSwitch .step = false) ∧
    (let m := waiting .awn .retract none .stoppedMid;
      Expires (expiring m true true false) m ∧ (expiring m true true false).part.inSwitch .awn = true) ∧
    (let m := waiting .step .extend none .extended;
      Expires (expiring m true false true) m ∧ (expiring m true false true).part.outSwitch .step = true) ∧
    (let m : Motion := { waiting .awn .retract none .extended with stage := .backoffWait };
      Expires (expiring m false false false) m) ∧
    (let m := waiting .step .extend none .stoppedMid;
      Expires (expiring m false false false) m ∧ (expiring m false false false).part.outSwitch .step = false ∧
        (expiring m false false false).part.handbrake = false) ∧
    (let m : Motion := { waiting .step .retract none .extended with stage := .backoffWait };
      Expires (expiring m false false false) m ∧ (expiring m false false false).part.handbrake = false) ∧
    (let m : Motion := { waiting .awn .retract none .extended with stage := .drive };
      Expires (expiring m true false false) m) := by
  refine ⟨?_, ?_, ?_, ?_, ?_, ?_, ?_, ?_, ?_, ?_, ?_⟩ <;> try dsimp only
  all_goals decide +kernel

/-- An AWN RETRACT in WAIT that a drive-off ends and, the step being FAULTED by its switches, demands again: the notice carries
PREEMPTED and the state after the event, RETRACTING (R174, R176). -/
theorem test_preempted_notice_carries_the_state_after :
    let p := (expiring (waiting .awn .retract none .stoppedMid) true false true (some 100)).part
    let p := p.setAxis .step { p.axis .step with state := .fault }
    let p := { p with
      mdc := { p.mdc with signals := { p.mdc.signals with handbrake := ⟨false, true, 200⟩, stepIn := ⟨true, true, 20⟩ } }
      lnk := { p.lnk with tx := some ⟨.notice .started 0, false, []⟩ } }
    (after (.debounceExpiry .handbrake) p).lnk.notices.any fun n =>
      n.kind == .motion && n.subject == 0 && n.data.take 2 == [4#8, 3#8] := by
  dsimp only; decide +kernel

theorem witness_MoveMeetsTheActiveMotion :
    (∃ s : State, s.part.Ready ∧ s.part.mdc.mode = .active ∧
        s.part.mot.active = some (motionOf Axis.awn Direction.extend Stage.drive) ∧
      s.part.mot.pend = none ∧ Axis.step ≠ (motionOf Axis.awn Direction.extend Stage.drive).axis) ∧
    (∃ s : State, s.part.Ready ∧ s.part.mdc.mode = .active ∧
        s.part.mot.active = some (motionOf Axis.awn Direction.extend Stage.drive) ∧
      s.part.mot.pend = none ∧ Axis.step ≠ (motionOf Axis.awn Direction.extend Stage.drive).axis ∧
      (s.part.axis Axis.step).state ≠ .retracted ∧ s.part.inSwitch Axis.step = false) ∧
    (∃ s : State, s.part.Ready ∧ s.part.mdc.mode = .active ∧
        s.part.mot.active = some (motionOf Axis.awn Direction.retract Stage.drive) ∧
      s.part.mot.pend = none ∧ Axis.awn = (motionOf Axis.awn Direction.retract Stage.drive).axis ∧
      ((motionOf Axis.awn Direction.retract Stage.drive).stage = .drive ∨
          (motionOf Axis.awn Direction.retract Stage.drive).stage = .wait) ∧
      (motionOf Axis.awn Direction.retract Stage.drive).dir = .retract ∧ s.part.inSwitch Axis.awn = false) ∧
    (∃ s : State, s.part.Ready ∧ s.part.mdc.mode = .active ∧
        s.part.mot.active = some (motionOf Axis.awn Direction.retract Stage.drive) ∧
      s.part.mot.pend = none ∧ Axis.awn = (motionOf Axis.awn Direction.retract Stage.drive).axis ∧
      (motionOf Axis.awn Direction.retract Stage.drive).stage = .drive ∧ s.part.inSwitch Axis.awn = false ∧
      s.part.outSwitch Axis.awn = false ∧ (s.part.load (motorOf Axis.awn)).state = .on ∧
      (s.part.chan (motorOf Axis.awn)).switching ≠ .tripped) ∧
    (∃ s : State, s.part.Ready ∧ s.part.mdc.mode = .active ∧
        s.part.mot.active = some (motionOf Axis.step Direction.extend Stage.drive) ∧
      s.part.mot.pend = none ∧ Axis.step = (motionOf Axis.step Direction.extend Stage.drive).axis ∧
      (motionOf Axis.step Direction.extend Stage.drive).stage = .drive ∧ s.part.inSwitch Axis.step = false ∧
      s.part.outSwitch Axis.step = false ∧ (s.part.load (motorOf Axis.step)).state = .on ∧
      (s.part.chan (motorOf Axis.step)).switching ≠ .tripped) := by
  refine ⟨⟨moving (motionOf .awn .extend .drive), by decide +kernel⟩,
    ⟨moving (motionOf .awn .extend .drive), by decide +kernel⟩,
    ⟨moving (motionOf .awn .retract .drive), by decide +kernel⟩,
    ⟨moving (motionOf .awn .retract .drive), by decide +kernel⟩,
    ⟨moving (motionOf .step .extend .drive), by decide +kernel⟩⟩

theorem witness_MoveMeetsTheActiveMotion_reversal :
    let s := moving (motionOf .step .extend .drive)
    s.part.Ready ∧ s.part.mdc.mode = .active ∧ s.part.mot.active = some (motionOf .step .extend .drive) ∧
      s.part.mot.pend = none ∧ s.part.inSwitch .step = false ∧ s.part.outSwitch .step = false ∧
      s.part.params.role (motorOf .step) = .motor ∧ (s.part.load (motorOf .step)).state = .on ∧
      (s.part.chan (motorOf .step)).switching ≠ .tripped ∧ noticeEnabled s.part.params .motion = true ∧
      s.part.lnk.notices = [] := by
  dsimp only; decide +kernel

theorem witness_DrivesTickAndEnd :
    (∃ s : State, s.part.outbox = [] ∧ s.part.mot.active = some (motionOf Axis.awn Direction.extend Stage.drive) ∧
      s.part.mot.pend = none ∧ (s.part.load (motorOf (motionOf Axis.awn Direction.extend Stage.drive).axis)).state = .on ∧
      (s.part.chan (motorOf (motionOf Axis.awn Direction.extend Stage.drive).axis)).switching ≠ .tripped ∧
      ((motionOf Axis.awn Direction.extend Stage.drive).stage = .drive ∨
          (motionOf Axis.awn Direction.extend Stage.drive).stage = .backoff) ∧
      s.part.mot.timeout.isSome = true) ∧
    (∃ s : State, s.part.outbox = [] ∧ s.part.mot.active = some (motionOf Axis.awn Direction.retract Stage.backoff) ∧
      s.part.mot.pend = none ∧ (s.part.load (motorOf (motionOf Axis.awn Direction.retract Stage.backoff).axis)).state = .on ∧
      (s.part.chan (motorOf (motionOf Axis.awn Direction.retract Stage.backoff).axis)).switching ≠ .tripped ∧
      ((motionOf Axis.awn Direction.retract Stage.backoff).stage = .drive ∨
          (motionOf Axis.awn Direction.retract Stage.backoff).stage = .backoff) ∧
      s.part.mot.timeout.isSome = true) ∧
    (∃ s : State, s.part.outbox = [] ∧ s.part.mot.active = some (motionOf Axis.step Direction.extend Stage.drive) ∧
      s.part.mot.pend = none ∧ (s.part.load (motorOf (motionOf Axis.step Direction.extend Stage.drive).axis)).state = .on ∧
      (s.part.chan (motorOf (motionOf Axis.step Direction.extend Stage.drive).axis)).switching ≠ .tripped ∧
      ((motionOf Axis.step Direction.extend Stage.drive).stage = .drive ∨
          (motionOf Axis.step Direction.extend Stage.drive).stage = .backoff) ∧
      s.part.mot.watch.isSome = true) ∧
    (∃ s : State, s.part.outbox = [] ∧ s.part.mot.active = some (motionOf Axis.step Direction.retract Stage.backoff) ∧
      s.part.mot.pend = none ∧ (s.part.load (motorOf (motionOf Axis.step Direction.retract Stage.backoff).axis)).state = .on ∧
      (s.part.chan (motorOf (motionOf Axis.step Direction.retract Stage.backoff).axis)).switching ≠ .tripped ∧
      (motionOf Axis.step Direction.retract Stage.backoff).stage = .backoff ∧ s.part.mot.backoff.isSome = true ∧
      s.part.outSwitch (motionOf Axis.step Direction.retract Stage.backoff).axis = false) ∧
    (∃ s : State, s.part.outbox = [] ∧ s.part.mot.active = some (motionOf Axis.awn Direction.extend Stage.drive) ∧
      s.part.mot.pend = none ∧ (s.part.load (motorOf (motionOf Axis.awn Direction.extend Stage.drive).axis)).state = .on ∧
      (s.part.chan (motorOf (motionOf Axis.awn Direction.extend Stage.drive).axis)).switching ≠ .tripped) ∧
    (∃ s : State, s.part.outbox = [] ∧ (s.part.mot.tick = none ∨ s.part.mot.active = none)) ∧
    (∃ s : State, s.part.outbox = [] ∧ s.part.mot.tick.isSome = true ∧
      s.part.mot.active = some (motionOf Axis.step Direction.extend Stage.drive) ∧
      (motionOf Axis.step Direction.extend Stage.drive).target = none ∧ s.part.out.zeroPass = none ∧
          s.part.out.running.isSome = true ∧
      (motionOf Axis.step Direction.extend Stage.drive).axis = Axis.step) ∧
    (∃ s : State, s.part.outbox = [] ∧ s.part.mot.tick.isSome = true ∧
      s.part.mot.active = some (motionOf Axis.awn Direction.extend Stage.drive) ∧
      (motionOf Axis.awn Direction.extend Stage.drive).target = none ∧ s.part.out.zeroPass = none ∧
          s.part.out.running.isSome = true ∧
      (motionOf Axis.awn Direction.extend Stage.drive).axis = Axis.awn ∧
          (motionOf Axis.awn Direction.extend Stage.drive).stage = .drive ∧
      (motionOf Axis.awn Direction.extend Stage.drive).basePos = some 0) ∧
    (∃ s : State, s.part.outbox = [] ∧ s.part.mot.tick.isSome = true ∧
      s.part.mot.active = some (motionOf Axis.awn Direction.retract Stage.drive) ∧
      (motionOf Axis.awn Direction.retract Stage.drive).target = none ∧ s.part.out.zeroPass = none ∧
          s.part.out.running.isSome = true ∧
      (motionOf Axis.awn Direction.retract Stage.drive).axis = Axis.awn ∧
          (motionOf Axis.awn Direction.retract Stage.drive).stage = .drive ∧
      (motionOf Axis.awn Direction.retract Stage.drive).basePos = some 0) := by
  refine ⟨⟨moving (motionOf .awn .extend .drive), by decide +kernel⟩,
    ⟨moving (motionOf .awn .retract .backoff), by decide +kernel⟩,
    ⟨moving (motionOf .step .extend .drive), by decide +kernel⟩,
    ⟨moving (motionOf .step .retract .backoff), by decide +kernel⟩,
    ⟨moving (motionOf .awn .extend .drive), by decide +kernel⟩,
    ⟨active, by decide +kernel⟩,
    ⟨moving (motionOf .step .extend .drive), by decide +kernel⟩,
    ⟨moving (motionOf .awn .extend .drive), by decide +kernel⟩,
    ⟨moving (motionOf .awn .retract .drive), by decide +kernel⟩⟩

theorem witness_DrivesTickAndEnd_ends :
    (let s := moving (motionOf .awn .retract .backoff)
      let s := st { s.part with mdc := (switches s.part true false false true false false).mdc };
      s.part.outbox = [] ∧ s.part.mot.active = some (motionOf .awn .retract .backoff) ∧ s.part.mot.pend = none ∧
        (s.part.load 18).state = .on ∧ (s.part.chan 18).switching ≠ .tripped ∧ s.part.mot.backoff.isSome = true ∧
        s.part.outSwitch .awn = true) ∧
    (let m : Motion := { motionOf .awn .extend .drive with target := some 25 }
      let s := moving m;
      s.part.outbox = [] ∧ s.part.mot.active = some m ∧ s.part.mot.pend = none ∧ (s.part.load 18).state = .on ∧
        (s.part.chan 18).switching ≠ .tripped ∧ s.part.mot.tick.isSome = true ∧ m.basePos = some 0 ∧
        25 ≤ min 1000 (0 + (m.drivenMs + 10) * 1000 / m.travelMs)) ∧
    (let m : Motion := { motionOf .awn .extend .drive with target := some 1000, drivenMs := 19990 }
      let s := moving m
      let s := st { s.part with out := { s.part.out with running := some ⟨0, .sweep, false, true, 0⟩ } };
      s.part.outbox = [] ∧ s.part.mot.active = some m ∧ s.part.mot.tick.isSome = true ∧ s.part.out.zeroPass = none ∧
        s.part.out.running.isSome = true ∧ m.basePos = some 0) := by
  refine ⟨?_, ?_, ?_⟩ <;> dsimp only <;> decide +kernel

end Climate

/-! ### Witnesses: lights, scenes, pins and modes -/

namespace Lights

/-- LT2 with its courtesy timer running. -/
def lit (f : Part → Part) (g : LightRec → LightRec := id) := st (f (calm.setLight 2 (g {LightRec.reset with
    courtesy := some 5})))
/-- LT2 ON at 650, its fade ended at 700. -/
def fading := lit (fun p => (p.onLoad 14).ld 14 ({ · with wantedLevel := 700})) ({ · with
    target := 700, present := 650, fadeEnd := 700, fadeStep := some 3, tick := some 4})
/-- LT2 ON with its fade one step from its end. -/
def fadeNearEnd := lit (fun p => (p.onLoad 14).ld 14 ({ · with wantedLevel := 700})) ({ · with
    target := 700, present := 650, fadeEnd := 649, fadeStep := some 3, tick := some 4})
/-- LT2 ON with its fade one step from dark. -/
def fadeToDark := lit (fun p => (p.onLoad 14).ld 14 ({ · with wantedLevel := 700})) ({ · with
    target := 700, present := 2, fadeEnd := 0, fadeStep := some 3, tick := some 4})
/-- Six lights ON. -/
def allLit := st ((List.finRange 6).foldl (fun p c => ((p.onLoad (lightLoad c)).ld (lightLoad c) ({ · with
    wantedLevel := 900})).par 9 (6+c.val) (100*c.val+1)) calm)
/-- Signals changed. -/
def signalled (f : Signals → Signals) (p : Part := calm) := st {p with mdc := {p.mdc with signals := f p.mdc.signals}}
/-- A motion under way. -/
def motionOf (a : Axis) (d : Direction) (st' : Stage) : Motion := ⟨a, d, none, 2, st', .retracted, some 0, 500, 20000⟩
/-- A motion under way with its motor ON and its timers running. -/
def moving (m : Motion) : State :=
  let p := calm.onLoad (motorOf m.axis)
  let p := p.setAxis m.axis {p.axis m.axis with state := .extending, position := some 0}
  st {p with mot := {p.mot with
      active := some m, bridge := .outward, tick := some 0, timeout := some 0, watch := some 0, backoff :=
      some 0, inrush := some 0}}
/-- The handbrake just released, the axes in states. -/
def released (a b : AxisState) := signalled ({ · with handbrake := ⟨false,true,200⟩})
    ((calm.setAxis .awn {AxisRec.reset with state := a, position := some 0}).setAxis .step {AxisRec.reset with state := b})
/-- A mode. -/
def inMode (m : Mode) (f : Part → Part := id) := st (f {calm with mdc := {calm.mdc with mode := m}})
/-- Loads ON in both classes and one SHED. -/
def busy (p : Part) : Part := ((((p.onLoad 4).onLoad 14).shedLoad 3).onLoad 18)

theorem witness_LightsTakeTheirLevelsByFades :
    (∃ s : State, s.part.Ready ∧ s.part.mdc.mode ≠ .start ∧ (s.part.load 14).state = .exercised) ∧
    (∃ s : State, s.part.Ready ∧ s.part.mdc.mode ≠ .start ∧
      ((s.part.load 14).state = .off ∨ (s.part.load 14).state = .faulted) ∧
      min 1000 ((0 : Word).toNat) = 0) ∧
    (∃ s : State, s.part.Ready ∧ s.part.mdc.mode ≠ .start ∧ (s.part.load 14).state = .faulted ∧
      0 < min 1000 ((1 : Word).toNat) ∧
      s.part.modeRefusal 14 (s.part.effClass 14) = none) ∧
    (∃ s : State, s.part.Ready ∧ s.part.mdc.mode ≠ .start ∧ (s.part.load 14).state = .shed ∧
      0 < min 1000 ((2000 : Word).toNat) ∧
      s.part.modeRefusal 14 (s.part.effClass 14) = none) ∧
    (∃ s : State, s.part.Ready ∧ s.part.mdc.mode ≠ .start ∧ (s.part.load 14).state = .on ∧
      0 < min 1000 ((1 : Word).toNat) ∧
      s.part.modeRefusal 14 (s.part.effClass 14) = none ∧
      (s.part.chan 14).switching = .on ∧ 0 < min 10000 ((65535 : Word).toNat) ∧
      (0 < if (s.part.light 2).present ≤
          min 1000 ((1 : Word).toNat) then min 1000 ((1 : Word).toNat) - (s.part.light 2).present else
          (s.part.light 2).present - min 1000 ((1 : Word).toNat)) ∧
      s.part.baseDrawAt 14 (min 1000 ((1 : Word).toNat)) ≤
          s.part.baseDrawAt 14 (s.part.load 14).wantedLevel) ∧
    (∃ s : State, s.part.Ready ∧ s.part.mdc.mode ≠ .start ∧ (s.part.load 14).state = .on ∧
      0 < min 1000 ((700 : Word).toNat) ∧
      s.part.modeRefusal 14 (s.part.effClass 14) = none ∧
      (s.part.chan 14).switching = .on ∧ 0 < min 10000 ((1 : Word).toNat) ∧
      (0 < if (s.part.light 2).present ≤
          min 1000 ((700 : Word).toNat) then min 1000 ((700 : Word).toNat) - (s.part.light 2).present else
          (s.part.light 2).present - min 1000 ((700 : Word).toNat)) ∧
      s.part.baseDrawAt 14 (min 1000 ((700 : Word).toNat)) ≤
          s.part.baseDrawAt 14 (s.part.load 14).wantedLevel) ∧
    (∃ s : State, s.part.Ready ∧ s.part.mdc.mode ≠ .start ∧ (s.part.load 14).state = .on ∧
      min 1000 ((0 : Word).toNat) = 0 ∧ 0 < min 10000 ((300 : Word).toNat) ∧
      (0 < if (s.part.light 2).present ≤
          min 1000 ((0 : Word).toNat) then min 1000 ((0 : Word).toNat) - (s.part.light 2).present else
          (s.part.light 2).present - min 1000 ((0 : Word).toNat))) ∧
    (∃ s : State, s.part.Ready ∧ s.part.mdc.mode ≠ .start ∧ (s.part.load 14).state = .off ∧
      0 < min 1000 ((1000 : Word).toNat) ∧
      s.part.modeRefusal 14 (s.part.effClass 14) = none ∧
      0 < min 10000 ((300 : Word).toNat) ∧
      (0 < if (s.part.light 2).present ≤
          min 1000 ((1000 : Word).toNat) then min 1000 ((1000 : Word).toNat) - (s.part.light 2).present else
          (s.part.light 2).present - min 1000 ((1000 : Word).toNat)) ∧
      (s.part.chan 14).switching = .off ∧ s.part.out.exercise ≠ some 14 ∧
      s.part.chargeRefusal (s.part.busOf 14) (s.part.effClass 14) = false ∧
      s.part.committedSum (s.part.busOf 14) +
        max (lightDraw (s.part.params.nominal 14) (min 1000 ((1000 : Word).toNat))) ((s.part.load 14).measured.getD 0) ≤
        busLimitOf s.part.params (s.part.busOf 14)) ∧
    (∃ s : State, s.part.outbox = [] ∧ s.part.out.exercise ≠ some 14 ∧ (s.part.light 2).tick = none) ∧
    (∃ s : State, s.part.outbox = [] ∧ s.part.out.exercise ≠ some 14 ∧
        (s.part.light 2).tick.isSome = true ∧
      (s.part.light 2).fadeStep = some 3 ∧
      (if (s.part.light 2).present ≤
          (s.part.light 2).fadeEnd then min (s.part.light 2).fadeEnd ((s.part.light 2).present + 3) else
          max (s.part.light 2).fadeEnd ((s.part.light 2).present - 3)) ≠ (s.part.light 2).fadeEnd) ∧
    (∃ s : State, s.part.outbox = [] ∧ s.part.out.exercise ≠ some 14 ∧
        (s.part.light 2).tick.isSome = true ∧
      (s.part.light 2).fadeStep = some 3 ∧
      (if (s.part.light 2).present ≤
          (s.part.light 2).fadeEnd then min (s.part.light 2).fadeEnd ((s.part.light 2).present + 3) else
          max (s.part.light 2).fadeEnd ((s.part.light 2).present - 3)) = (s.part.light 2).fadeEnd ∧
      (0 < if (s.part.light 2).present ≤
          (s.part.light 2).fadeEnd then min (s.part.light 2).fadeEnd ((s.part.light 2).present + 3) else
          max (s.part.light 2).fadeEnd ((s.part.light 2).present - 3))) ∧
    (∃ s : State, s.part.outbox = [] ∧ s.part.out.exercise ≠ some 14 ∧
        (s.part.light 2).tick.isSome = true ∧
      (s.part.light 2).fadeStep = some 3 ∧
      (if (s.part.light 2).present ≤
          (s.part.light 2).fadeEnd then min (s.part.light 2).fadeEnd ((s.part.light 2).present + 3) else
          max (s.part.light 2).fadeEnd ((s.part.light 2).present - 3)) = (s.part.light 2).fadeEnd ∧
      (if (s.part.light 2).present ≤
          (s.part.light 2).fadeEnd then min (s.part.light 2).fadeEnd ((s.part.light 2).present + 3) else
          max (s.part.light 2).fadeEnd ((s.part.light 2).present - 3)) = 0) := by
  refine ⟨⟨lit (·.ld 14 ({ · with state := .exercised})), by decide +kernel⟩,
    ⟨lit id, by decide +kernel⟩,
    ⟨lit (·.ld 14 ({ · with state := .faulted})), by decide +kernel⟩,
    ⟨lit (·.shedLoad 14), by decide +kernel⟩,
    ⟨fading, by decide +kernel⟩,
    ⟨fading, by decide +kernel⟩,
    ⟨fading, by decide +kernel⟩,
    ⟨lit id, by decide +kernel⟩,
    ⟨active, by decide +kernel⟩,
    ⟨fading, by decide +kernel⟩,
    ⟨fadeNearEnd, by decide +kernel⟩,
    ⟨fadeToDark, by decide +kernel⟩⟩

theorem witness_SceneStoreCopiesTheTargets :
    (∃ s : State, s.part.Ready ∧ 3 < (4 : Byte).toNat) ∧
    (∃ s : State, s.part.Ready ∧ (3 : Byte).toNat ≤ 3 ∧ s.part.mdc.mode = .start) ∧
    (∃ s : State, s.part.Ready ∧ (3 : Byte).toNat ≤ 3 ∧ s.part.mdc.mode ≠ .start ∧ 10 ≤ List.length s.part.params ∧
      24 ≤ (List.getD s.part.params 9 []).length) ∧
    (∃ s : State, s.part.Ready ∧ (0 : Byte).toNat ≤ 3 ∧ s.part.mdc.mode ≠ .start ∧ 10 ≤ List.length s.part.params ∧
      24 ≤ (List.getD s.part.params 9 []).length) := by
  refine ⟨⟨active, by decide +kernel⟩,
    ⟨st {calm with mdc := {calm.mdc with mode := .start}}, by decide +kernel⟩,
    ⟨st (calm.setLight 5 {LightRec.reset with target := 77}), by decide +kernel⟩,
    ⟨st (calm), by decide +kernel⟩⟩

theorem witness_RecallAndCourtesySetLevels :
    (∃ s : State, 1 ≤ 3 ∧ s.part.Ready ∧ s.part.mdc.mode ≠ .start ∧ (∀ (c : LightId), (s.part.load (lightLoad c)).state = .on ∧
      (s.part.chan (lightLoad c)).switching = .on ∧ s.part.modeRefusal (lightLoad c) (s.part.effClass (lightLoad c)) = none ∧
      0 < s.part.params.sceneLevel 1 c ∧ s.part.params.sceneLevel 1 c ≠ (s.part.light c).present ∧
      s.part.baseDrawAt (lightLoad c) (s.part.params.sceneLevel 1 c) ≤ s.part.baseDrawAt (lightLoad c)
          (s.part.load (lightLoad c)).wantedLevel) ∧
      0 < min 10000 ((400 : Word).toNat)) ∧
    (∃ s : State, 1 ≤ 3 ∧ s.part.outbox = [] ∧ s.part.stepLight = none) ∧
    (∃ s : State, 1 ≤ 3 ∧ s.part.outbox = [] ∧ s.part.stepLight = some (2 : LightId) ∧ (s.part.light 2).courtesy = none) ∧
    (∃ s : State, 1 ≤ 3 ∧ s.part.outbox = [] ∧ s.part.stepLight = some (2 : LightId) ∧ (s.part.light 2).courtesy.isSome = true ∧
      0 < (s.part.light 2).present ∧ (s.part.load 14).state = .on) := by
  refine ⟨⟨allLit, by decide +kernel⟩,
    ⟨active, by decide +kernel⟩,
    ⟨st (calm.role' 14 5), by decide +kernel⟩,
    ⟨st (fading.part.role' 14 5), by decide +kernel⟩⟩

theorem witness_PinsAndSuppliesAreFollowed :
    (∃ s : State, s.part.outbox = [] ∧ (s.part.signal Signal.dplus).raw = false) ∧
    (∃ s : State, s.part.outbox = [] ∧ (s.part.signal Signal.dplus).raw ≠ true) ∧
    (∃ s : State, s.part.outbox = [] ∧ (s.part.signal Signal.mainsOk).raw = (s.part.signal Signal.mainsOk).deb) ∧
    (∃ s : State, s.part.outbox = [] ∧ s.part.mot.active = none ∧ (s.part.axis Axis.awn).state ≠ .blocked ∧
      (s.part.axis Axis.awn).state ≠ .fault ∧ (s.part.signal Signal.awnIn).raw ≠ (s.part.signal Signal.awnIn).deb ∧
      (s.part.signal Signal.awnIn).raw = true ∧ s.part.outSwitch Axis.awn = false) ∧
    (∃ s : State, s.part.outbox = [] ∧ s.part.mot.active = none ∧ (s.part.axis Axis.awn).state ≠ .blocked ∧
      (s.part.axis Axis.awn).state ≠ .fault ∧ (s.part.signal Signal.awnIn).raw ≠ (s.part.signal Signal.awnIn).deb ∧
      (s.part.signal Signal.awnIn).raw = false ∧ s.part.outSwitch Axis.awn = false) ∧
    (∃ s : State, s.part.outbox = [] ∧ s.part.mot.active = none ∧ (s.part.axis Axis.awn).state ≠ .blocked ∧
      (s.part.axis Axis.awn).state ≠ .fault ∧ (s.part.signal Signal.awnIn).raw ≠ (s.part.signal Signal.awnIn).deb ∧
      (s.part.signal Signal.awnIn).raw = true ∧ s.part.outSwitch Axis.awn = true) ∧
    (∃ s : State, s.part.outbox = [] ∧ s.part.mot.active = some (motionOf Axis.awn Direction.extend Stage.drive) ∧
      s.part.mot.pend = none ∧ (motionOf Axis.awn Direction.extend Stage.drive).axis = Axis.awn ∧
      (motionOf Axis.awn Direction.extend Stage.drive).dir = .extend ∧
          (motionOf Axis.awn Direction.extend Stage.drive).stage = .drive ∧
      (s.part.signal Signal.awnOut).raw = true ∧ (s.part.signal Signal.awnOut).deb = false ∧ s.part.inSwitch Axis.awn = false ∧
      (s.part.load 18).state = .on ∧ (s.part.chan 18).switching ≠ .tripped) ∧
    (∃ s : State, s.part.outbox = [] ∧ s.part.mdc.mode = .active ∧ (s.part.signal Signal.handbrake).raw = false ∧
      (s.part.signal Signal.handbrake).deb = true ∧ (s.part.axis Axis.awn).state = .retracted ∧
      (s.part.axis Axis.step).state = .retracted) ∧
    (∃ s : State, s.part.outbox = [] ∧ s.part.mdc.mode = .active ∧ (s.part.signal Signal.handbrake).raw = false ∧
      (s.part.signal Signal.handbrake).deb = true ∧ (s.part.axis Axis.awn).state = .retracted ∧
      (s.part.axis Axis.step).state = .extended ∧ s.part.mot.active = none ∧ s.part.mot.pend = none ∧ s.part.mot.dead = none ∧
      s.part.inSwitch Axis.step = false ∧ (s.part.load 19).state = .off ∧ (s.part.chan 19).switching = .off ∧
      s.part.committedSum (s.part.busOf 19) + s.part.committed 19 ≤ busLimitOf s.part.params (s.part.busOf 19)) ∧
    (∃ s : State, s.part.outbox = [] ∧ 8999 < 9000 ∧ s.part.mdc.supplyWarning = true) ∧
    (∃ s : State, s.part.outbox = [] ∧ 9000 ≤ 9000 ∧ 9000 < 9500) ∧
    (∃ s : State, s.part.outbox = [] ∧ 9500 ≤ 9500) ∧
    (∃ s : State, s.part.outbox = [] ∧ 8999 < 9000 ∧ s.part.mdc.supplyWarning = false ∧ s.part.lnk.memory ≠ .idle) ∧
    (∃ s : State, s.part.outbox = [] ∧ 8999 < 9000 ∧ s.part.mdc.supplyWarning = false ∧ s.part.lnk.memory = .idle ∧
      s.part.lnk.newest = none) := by
  refine ⟨⟨active, by decide +kernel⟩,
    ⟨active, by decide +kernel⟩,
    ⟨active, by decide +kernel⟩,
    ⟨signalled ({ · with awnIn := ⟨true,false,20⟩}), by decide +kernel⟩,
    ⟨signalled ({ · with awnIn := ⟨false,true,20⟩}), by decide +kernel⟩,
    ⟨signalled ({ · with awnIn := ⟨true,false,20⟩, awnOut := ⟨true,true,20⟩}), by decide +kernel⟩,
    ⟨signalled ({ · with awnOut := ⟨true,false,20⟩}) (moving (motionOf .awn .extend .drive)).part, by decide +kernel⟩,
    ⟨released .retracted .retracted, by decide +kernel⟩,
    ⟨released .retracted .extended, by decide +kernel⟩,
    ⟨st {calm with mdc := {calm.mdc with supplyWarning := true}}, by decide +kernel⟩,
    ⟨active, by decide +kernel⟩,
    ⟨active, by decide +kernel⟩,
    ⟨st {calm with lnk := {calm.lnk with memory := .saving}}, by decide +kernel⟩,
    ⟨active, by decide +kernel⟩⟩

/-- LEAD with no pad, the axes in states, a signal's raw and debounced levels given. -/
def rested (x : Signal) (raw deb : Bool) (step : AxisState := .retracted) (f : Part → Part := id) : State :=
  let p := calm.par 1 0 0
  let p := (p.setAxis .awn { p.axis .awn with state := .retracted }).setAxis .step { p.axis .step with state := step }
  st (f (p.setSignal x { p.signal x with raw := raw, deb := deb, timer := 0 }))
/-- A changed signal on a part whose pad rests (PinsAndSuppliesAreFollowed). -/
abbrev Rests (s : State) (x : Signal) (raw deb : Bool) : Prop :=
  s.part.outbox = [] ∧ (s.part.signal x).raw = raw ∧ (s.part.signal x).deb = deb ∧ s.part.params.chemistry = .lead ∧
    (s.part.chg.pad = .idle ∨ s.part.chg.pad = .noPad ∨ s.part.chg.pad = .faulted)

theorem witness_PinsAndSuppliesAreFollowed_dplus :
    (Rests (rested .dplus true false) .dplus true false ∧ ((rested .dplus true false).part.axis .awn).state = .retracted ∧
      ((rested .dplus true false).part.axis .step).state = .retracted ∧ (rested .dplus true false).part.mdc.mode = .active) ∧
    (let s := rested .dplus true false .extended;
      Rests s .dplus true false ∧ (s.part.axis .awn).state = .retracted ∧ (s.part.axis .step).state = .extended ∧
        s.part.mot.active = none ∧ s.part.mot.pend = none ∧ s.part.mot.dead = none ∧ s.part.inSwitch .step = false ∧
        (s.part.load 19).state = .off ∧ (s.part.chan 19).switching = .off ∧
        s.part.committedSum (s.part.busOf 19) + s.part.committed 19 ≤ busLimitOf s.part.params (s.part.busOf 19)) ∧
    (let s := rested .dplus true false .retracted fun p => { p with mdc := { p.mdc with mode := .storage } };
      s.part.outbox = [] ∧ s.part.mdc.mode = .storage ∧ (s.part.signal .dplus).raw = true ∧
        (s.part.signal .dplus).deb = false) ∧
    (Rests (rested .dplus false true) .dplus false true ∧ (rested .dplus false true).part.chg.splitClosed = false ∧
      (rested .dplus false true).part.handbrake = false) ∧
    (let s := rested .dplus false true .retracted fun p =>
        { p.setSignal .handbrake ⟨true, true, 200⟩ with chg := { p.chg with splitClosed := true } };
      Rests s .dplus false true ∧ s.part.chg.splitClosed = true ∧ s.part.handbrake = true) := by
  refine ⟨?_, ?_, ?_, ?_, ?_⟩ <;> try dsimp only
  all_goals decide +kernel

theorem witness_PinsAndSuppliesAreFollowed_mains :
    (let s := rested .mainsOk true false .retracted fun p => { p with chg := { p.chg with coldInhibit := none } };
      Rests s .mainsOk true false ∧ s.part.chg.shoreEnable = false ∧ s.part.chg.coldInhibit = none ∧
        s.part.chg.calHold = false) ∧
    (let s := rested .mainsOk false true .retracted fun p => { p with chg := { p.chg with shoreEnable := true } };
      Rests s .mainsOk false true ∧ s.part.chg.shoreEnable = true) ∧
    (Rests (rested .mainsOk false true) .mainsOk false true ∧ (rested .mainsOk false true).part.chg.shoreEnable = false) := by
  refine ⟨?_, ?_, ?_⟩ <;> try dsimp only
  all_goals decide +kernel

theorem witness_ModeSetChecksThenChanges :
    (∃ s : State, s.part.Ready ∧ ((4 : Byte) = 0#8 ∨ 3 < (4 : Byte).toNat)) ∧
    (∃ s : State, s.part.Ready ∧ 1 ≤ (3 : Byte).toNat ∧ (3 : Byte).toNat ≤ 3 ∧ s.part.mdc.mode = .start) ∧
    (∃ s : State, s.part.Ready ∧ s.part.mdc.mode ≠ .start ∧
      ((1 : Byte) = match (motive := Mode → Byte) Mode.active with
          | Mode.start => 0#8 | Mode.active => 1#8 | Mode.storage => 2#8 | Mode.service => 3#8) ∧
      Mode.active ≠ .start ∧ Mode.active = s.part.mdc.mode) ∧
    (∃ s : State, s.part.Ready ∧ s.part.mdc.mode ≠ .start ∧
      ((1 : Byte) = match (motive := Mode → Byte) Mode.active with
          | Mode.start => 0#8 | Mode.active => 1#8 | Mode.storage => 2#8 | Mode.service => 3#8) ∧
      Mode.active ≠ .start ∧ Mode.active ≠ s.part.mdc.mode ∧ s.part.mdc.mode = .service ∧ s.part.out.exercise.isSome = true) ∧
    (∃ s : State, s.part.Ready ∧ s.part.mdc.mode ≠ .start ∧
      ((2 : Byte) = match (motive := Mode → Byte) Mode.storage with
          | Mode.start => 0#8 | Mode.active => 1#8 | Mode.storage => 2#8 | Mode.service => 3#8) ∧
      Mode.storage ≠ .start ∧ Mode.storage = .storage ∧ s.part.mdc.mode = .service ∧ s.part.out.exercise = none) ∧
    (∃ s : State, s.part.Ready ∧ s.part.mdc.mode ≠ .start ∧
      ((3 : Byte) = match (motive := Mode → Byte) Mode.service with
          | Mode.start => 0#8 | Mode.active => 1#8 | Mode.storage => 2#8 | Mode.service => 3#8) ∧
      Mode.service ≠ .start ∧ Mode.service = .service ∧ s.part.mdc.mode = .storage) ∧
    (∃ s : State, s.part.Ready ∧ s.part.mdc.mode ≠ .start ∧
      ((2 : Byte) = match (motive := Mode → Byte) Mode.storage with
          | Mode.start => 0#8 | Mode.active => 1#8 | Mode.storage => 2#8 | Mode.service => 3#8) ∧
      Mode.storage ≠ .start ∧ Mode.storage = .storage ∧ s.part.mdc.mode = .active ∧ s.part.dplus = true) ∧
    (∃ s : State, s.part.Ready ∧ s.part.mdc.mode ≠ .start ∧
      ((3 : Byte) = match (motive := Mode → Byte) Mode.service with
          | Mode.start => 0#8 | Mode.active => 1#8 | Mode.storage => 2#8 | Mode.service => 3#8) ∧
      Mode.service ≠ .start ∧ Mode.service = .service ∧ s.part.mdc.mode = .active ∧ s.part.parked = false) ∧
    (∃ s : State, s.part.Ready ∧ s.part.mdc.mode ≠ .start ∧
      ((2 : Byte) = match (motive := Mode → Byte) Mode.storage with
          | Mode.start => 0#8 | Mode.active => 1#8 | Mode.storage => 2#8 | Mode.service => 3#8) ∧
      Mode.storage ≠ .start ∧ (Mode.storage = .storage ∧ s.part.mdc.mode = .active ∧ s.part.dplus = false ∨
          Mode.storage = .service ∧
      s.part.mdc.mode = .active ∧ s.part.parked = true ∨ Mode.storage = .active ∧
      s.part.mdc.mode = .storage ∨ Mode.storage = .active ∧ s.part.mdc.mode = .service ∧ s.part.out.exercise = none)) ∧
    (∃ s : State, s.part.Ready ∧ s.part.mdc.mode ≠ .start ∧
      ((3 : Byte) = match (motive := Mode → Byte) Mode.service with
          | Mode.start => 0#8 | Mode.active => 1#8 | Mode.storage => 2#8 | Mode.service => 3#8) ∧
      Mode.service ≠ .start ∧ (Mode.service = .storage ∧ s.part.mdc.mode = .active ∧ s.part.dplus = false ∨
          Mode.service = .service ∧
      s.part.mdc.mode = .active ∧ s.part.parked = true ∨ Mode.service = .active ∧
      s.part.mdc.mode = .storage ∨ Mode.service = .active ∧ s.part.mdc.mode = .service ∧ s.part.out.exercise = none)) ∧
    (∃ s : State, s.part.Ready ∧ s.part.mdc.mode ≠ .start ∧
      ((1 : Byte) = match (motive := Mode → Byte) Mode.active with
          | Mode.start => 0#8 | Mode.active => 1#8 | Mode.storage => 2#8 | Mode.service => 3#8) ∧
      Mode.active ≠ .start ∧ (Mode.active = .storage ∧ s.part.mdc.mode = .active ∧ s.part.dplus = false ∨
          Mode.active = .service ∧
      s.part.mdc.mode = .active ∧ s.part.parked = true ∨ Mode.active = .active ∧ s.part.mdc.mode = .storage ∨
          Mode.active = .active ∧
      s.part.mdc.mode = .service ∧ s.part.out.exercise = none)) := by
  refine ⟨⟨active, by decide +kernel⟩,
    ⟨inMode .start, by decide +kernel⟩,
    ⟨inMode .active, by decide +kernel⟩,
    ⟨inMode .service ({ · with out := {calm.out with exercise := some 3}}), by decide +kernel⟩,
    ⟨inMode .service, by decide +kernel⟩,
    ⟨inMode .storage, by decide +kernel⟩,
    ⟨signalled ({ · with dplus := ⟨true,true,500⟩}), by decide +kernel⟩,
    ⟨active, by decide +kernel⟩,
    ⟨inMode .active busy, by decide +kernel⟩,
    ⟨inMode .active (fun p => {busy p with mdc := {p.mdc with signals := {p.mdc.signals with
        handbrake := ⟨true,true,200⟩}}}), by decide +kernel⟩,
    ⟨inMode .storage, by decide +kernel⟩⟩

end Lights

/-! ### Witnesses: the end of START, memory, ties, drive-off and the courtesy light -/

namespace Ends

/-- The mask for one kind of notice alone and a busy transmitter (`Part.Hears`). -/
def hears (k : NoticeKind) (p : Part) : Part :=
  { p.par 0 2 (2 ^ noticeIndex k) with lnk := { p.lnk with tx := some ⟨.immediate, false, []⟩ } }
/-- A mode, with the zero mark as given. -/
def modeOf (m : Mode) (zero : Bool) (p : Part) : Part := { p with mdc := { p.mdc with mode := m, zeroDone := zero } }
/-- The last bank of a calibration before its 8th sample, with the hold raised. -/
def lastBank (f : Part → Part) : State :=
  st (f { calm with
    bnk := ⟨{ BankRec.reset with acct := .counting }, { BankRec.reset with calSamples := 7 }, none⟩
    chg := { calm.chg with calHold := true } })
/-- The hypotheses of the lowering of the hold (CalibrationSampleOfABank). -/
abbrev LastBank (s : State) : Prop :=
  (s.part.bank .B).acct = .calibrating ∧ 8 ≤ (s.part.bank .B).calSamples + 1 ∧ (s.part.bank .A).acct = .counting ∧
    s.part.outbox = [] ∧ s.part.chg.calHold = true
/-- The resume flag set, D+ at a level. -/
def resuming (dplus : Bool) (p : Part) : Part :=
  { p with mdc := { p.mdc with resume := true, signals := { p.mdc.signals with dplus := ⟨dplus, dplus, 500⟩ } } }

theorem witness_CalibrationSampleOfABank_hold :
    (let s := lastBank (hears .charge);
      LastBank s ∧ s.part.Hears .charge ∧ s.part.chg.tieRelay ≠ s.part.params.tieSetting ∧ s.part.mdc.mode ≠ .start) ∧
    (let s := lastBank (hears .charge ∘ modeOf .start false);
      LastBank s ∧ s.part.Hears .charge ∧ s.part.mdc.mode = .start ∧ s.part.mdc.zeroDone = false) ∧
    (let s := lastBank (hears .mode ∘ modeOf .start true ∘ resuming false);
      LastBank s ∧ s.part.mdc.mode = .start ∧ s.part.mdc.zeroDone = true ∧ s.part.Hears .mode ∧ s.part.mdc.resume = true ∧
        s.part.dplus = false) ∧
    (let s := lastBank (hears .mode ∘ modeOf .start true ∘ resuming true);
      LastBank s ∧ s.part.mdc.mode = .start ∧ s.part.mdc.zeroDone = true ∧ s.part.Hears .mode ∧ s.part.mdc.resume = true ∧
        s.part.dplus = true) ∧
    (let s := lastBank fun p => { modeOf .start true (p.par 1 0 0) with chg := { p.chg with coldInhibit := none } };
      LastBank s ∧ s.part.mdc.mode = .start ∧ s.part.mdc.zeroDone = true ∧ s.part.params.chemistry = .lead ∧
        s.part.chg.coldInhibit = none) := by
  refine ⟨?_, ?_, ?_, ?_, ?_⟩ <;> try dsimp only
  all_goals decide +kernel

/-- A BANK_ZERO held at the head, bank B before its 8th sample. -/
def zeroHeld (z : Zeroing) (a : Acct) : State :=
  st { calm with
    bnk := ⟨{ BankRec.reset with acct := a }, { BankRec.reset with calSamples := 7 }, some z⟩
    lnk := { calm.lnk with tx := some ⟨.immediate, false, []⟩, requests := [.bankZero 2, .getCharge], inFlight := true } }
/-- The hypotheses of the held reply (BankZeroChecksThenCalibrates). -/
abbrev ZeroHeld (s : State) (z : Zeroing) : Prop :=
  (s.part.bank .B).acct = .calibrating ∧ (s.part.bank .B).calSamples = 7 ∧ s.part.bnk.zeroing = some z ∧
    s.part.lnk.requests = [.bankZero 2, .getCharge] ∧ s.part.lnk.inFlight = true ∧ s.part.lnk.reply = none ∧
    s.part.lnk.tx.isSome = true

theorem witness_BankZeroChecksThenCalibrates_reply :
    (let s := zeroHeld ⟨true, true⟩ .counting; ZeroHeld s ⟨true, true⟩ ∧ (s.part.bank .A).acct = .counting) ∧
    (let s := zeroHeld ⟨false, true⟩ .calibrating; ZeroHeld s ⟨false, true⟩ ∧ (s.part.bank .A).acct = .calibrating) ∧
    (let s := zeroHeld ⟨true, true⟩ .calibrating; ZeroHeld s ⟨true, true⟩ ∧ (s.part.bank .A).acct = .calibrating) := by
  refine ⟨?_, ?_, ?_⟩ <;> try dsimp only
  all_goals decide +kernel

/-- The hypotheses of the end of the zero calibration (ZeroCalibrationSumsAndSetsOffsets). -/
abbrev LastPass (s : State) : Prop :=
  s.part.outbox = [] ∧ s.part.out.running = some (⟨19, .sweep, false, false, 0⟩ : Measuring) ∧ s.part.out.zeroPass = some 7 ∧
    s.part.out.sweepHeld = false

theorem witness_ZeroCalibrationSumsAndSetsOffsets_start :
    (let s := st (hears .mode (Loads.zeroing 19 7).part);
      LastPass s ∧ s.part.mdc.mode = .start ∧ s.part.mdc.bankDone = true ∧ s.part.Hears .mode ∧
        (s.part.chan 4).calTakes = true) ∧
    (let s := st { (Loads.zeroing 19 7).part with mdc := calm.mdc };
      LastPass s ∧ s.part.mdc.mode ≠ .start) ∧
    (let s := st ({ (Loads.zeroing 19 7).part with mdc := { Mdc.reset with settings := some .loaded } }.ch 5
        ({ · with calTakes := false }));
      LastPass s ∧ s.part.mdc.bankDone = false ∧ (s.part.chan 5).calTakes = false) := by
  refine ⟨?_, ?_, ?_⟩ <;> try dsimp only
  all_goals decide +kernel

/-- Line S0 in a line mode with its method, ON, its record changed. -/
def modal (mode adaptive : Nat) (f : LineRec → LineRec) : State :=
  Lines.lineState 0 (fun r => f { r with supply := .on, enabled := true }) fun p => (p.par 5 1 mode).par 5 3 adaptive

theorem witness_CrossingsMoveTheLevelState_more :
    (let s := modal 0 1 ({ · with supply := .settling }); s.part.outbox = [] ∧ (s.part.line 0).supply ≠ .on) ∧
    (let s := modal 1 1 id;
      s.part.outbox = [] ∧ (s.part.line 0).supply = .on ∧ (s.part.line 0).level = .base ∧ s.part.params.lineMode 0 = .width) ∧
    (let s := modal 0 1 ({ · with level := .tier1, pulse := some false });
      s.part.outbox = [] ∧ (s.part.line 0).supply = .on ∧ (s.part.line 0).level = .tier1 ∧ s.part.params.adaptive 0 = true ∧
        (s.part.line 0).pulse = some false ∧ (s.part.line 0).widthStart = none) ∧
    (let s := modal 0 1 ({ · with level := .tier2, sync := some true });
      s.part.outbox = [] ∧ (s.part.line 0).level = .tier2 ∧ s.part.params.adaptive 0 = true ∧
        (s.part.line 0).sync = some true ∧ s.part.params.lineMode 0 = .level ∧ (s.part.line 0).widthStart = none) ∧
    (let s := modal 2 1 ({ · with level := .tier2, sync := some true });
      s.part.outbox = [] ∧ (s.part.line 0).supply = .on ∧ (s.part.line 0).level = .tier2 ∧ s.part.params.lineMode 0 ≠ .level ∧
        (s.part.line 0).widthStart = none) ∧
    (let s := modal 0 1 id; s.part.outbox = [] ∧ (s.part.line 0).sync = none) := by
  refine ⟨?_, ?_, ?_, ?_, ?_, ?_⟩ <;> try dsimp only
  all_goals decide +kernel

/-- Line S3 in WIDTH mode without a role and with its method, ON, its record changed. -/
def wide (adaptive : Nat) (f : LineRec → LineRec) : State :=
  Lines.lineState 3 (fun r => f { r with supply := .on, enabled := true }) fun p =>
    ((p.par 5 35 0).par 5 34 1).par 5 36 adaptive

theorem witness_WidthsPulsesAndSilence_rise :
    (let s := wide 1 id;
      s.part.outbox = [] ∧ s.part.params.lineRole 3 = .none ∧ (s.part.line 3).supply = .on ∧
        s.part.params.lineMode 3 = .width ∧ (s.part.line 3).level = .base) ∧
    (let s := wide 1 ({ · with level := .tier1, pulse := some false, widthStart := some 0 });
      s.part.outbox = [] ∧ s.part.params.lineRole 3 = .none ∧ s.part.params.adaptive 3 = true ∧
        (s.part.line 3).level = .tier1 ∧ (s.part.line 3).pulse = some false ∧ (s.part.line 3).widthStart = some 0) ∧
    (let s := wide 0 ({ · with level := .tier2, widthStart := some 0 });
      s.part.outbox = [] ∧ s.part.params.lineRole 3 = .none ∧ (s.part.line 3).supply = .on ∧
        (s.part.line 3).level = .tier2 ∧ s.part.params.lineMode 3 = .width ∧ (s.part.line 3).widthStart = some 0) := by
  refine ⟨?_, ?_, ?_⟩ <;> try dsimp only
  all_goals decide +kernel

theorem witness_LinesReachTheirRoleHolders_adaptive :
    let s := Lines.roleLine 3 (fun r => { Lines.widthFrom 100 r with pulse := some false }) (·.par 5 36 1);
      s.part.outbox = [] ∧ s.part.mdc.mode ≠ .storage ∧ s.part.params.lineWith .cabinTemp = some 3 ∧
        s.part.params.adaptive 3 = true ∧ (s.part.line 3).supply = .on ∧ (s.part.line 3).level = .tier1 ∧
        (s.part.line 3).widthStart = some 100 ∧ (s.part.line 3).pulse = some false := by
  dsimp only
  decide +kernel

/-- The parts of the join, parked in ACTIVE, with a record changed. -/
def tied (f : Part → Part := id) : State := st (f joining)
/-- The same loads over JOINED banks. -/
def untied (uv : Bool) : State :=
  st { joining with
    chg := { joining.chg with tieRelay := .joined }
    ldm := { joining.ldm with
      busA := BusRec.reset, busB := BusRec.reset
      busJ := { joining.ldm.busA with
        uvFlag := uv, onList := joining.ldm.busA.onList ++ joining.ldm.busB.onList
        stack := joining.ldm.busA.stack ++ joining.ldm.busB.stack } } }
/-- The hypotheses of an accepted TIE_SET. -/
abbrev Ties (s : State) : Prop :=
  s.part.Ready ∧ s.part.mdc.mode = .active ∧ s.part.parked = true ∧ s.part.mot.active = none

theorem witness_TieSetJoinsAndSplits_lists :
    (let p := joining; let t := fun l => (p.load l).admittedAt.toNat;
      p.ldm.busA.onList.Pairwise (fun x y => t x ≤ t y) ∧ p.ldm.busB.onList.Pairwise (fun x y => t x ≤ t y)) ∧
    (let s := tied;
      Ties s ∧ s.part.chg.tieRelay = .split ∧ (s.part.ldm.busA.onList ++ s.part.ldm.busB.onList).Nodup ∧
        (s.part.ldm.busA.onList ++ s.part.ldm.busB.onList).length = 4 ∧
        ∀ l ∈ s.part.ldm.busA.onList ++ s.part.ldm.busB.onList, (s.part.load l).motorClass ≠ some 2) ∧
    (let s := tied fun p => p.setBus .B { p.bus .B with uvFlag := true };
      Ties s ∧ s.part.chg.tieRelay = .split ∧ s.part.ldm.busB.uvFlag = true) ∧
    (let s := untied false;
      Ties s ∧ s.part.chg.tieRelay = .joined ∧ s.part.ldm.busJ.onList.Nodup ∧ s.part.ldm.busJ.onList.length = 4 ∧
        ∀ l ∈ s.part.ldm.busJ.onList, (s.part.load l).motorClass ≠ some 2) ∧
    (let s := untied true; Ties s ∧ s.part.chg.tieRelay = .joined ∧ s.part.ldm.busJ.uvFlag = true) := by
  refine ⟨?_, ?_, ?_, ?_, ?_⟩ <;> try dsimp only
  all_goals decide +kernel

/-- L5 and L6 ON in class 3 on bus A with a limit in tens of mA, L4 OFF in a class. -/
def crowded (limit cls : Nat) : State :=
  st (({ (((calm.onLoad 5).onLoad 6).par 3 24 cls) with uptime := 9 }).par 4 0 limit)
/-- The hypotheses of an admission that makes room by the first `k` victims (LoadSetSwitchesAHostsLoad). -/
abbrev MakesRoom (s : State) (k : Nat) : Prop :=
  let p := s.part
  let b := p.busOf 4
  let cls := p.effClass 4
  let victims := p.victims b fun c => decide (cls < c)
  let tight := fun k => busLimitOf p.params b < p.committedSum b + p.committed 4 - ((victims.take k).map p.committed).sum
  p.Ready ∧ p.mdc.mode ≠ .start ∧ ownerOf p.params 4 = .host ∧ p.modeRefusal 4 cls = none ∧ (p.load 4).state = .off ∧
    p.chargeRefusal b cls = false ∧ (p.bus b).onList.Nodup ∧ 4 ∉ (p.bus b).onList ∧
    (∀ m ∈ (p.bus b).onList, (p.load m).motorClass ≠ some 2) ∧ (p.chan 4).switching ≠ .tripped ∧ k ≤ victims.length ∧
    (∀ j, j < k → tight j) ∧ (¬ tight k ∨ cls = 1 ∧ k = victims.length)

/-- A class-2 demand on a bus with a class-3 victim and the awning motor ON, whose limit even the victim would not make room on. -/
theorem witness_LoadSetSwitchesAHostsLoad_noBudget :
    let p := (((calm.onLoad 5).onLoad 18).par 4 0 100).par 3 24 2
    let victims := (p.victims (p.busOf 4) fun c => decide (p.effClass 4 < c)).filter (· ≠ (4 : LoadId))
    (st p).part.Ready ∧ ownerOf p.params 4 = .host ∧ p.mdc.mode = .active ∧ (p.load 4).state = .off ∧
      p.chargeRefusal (p.busOf 4) (p.effClass 4) = false ∧ 2 ≤ p.effClass 4 ∧ victims = [5] ∧
      busLimitOf p.params (p.busOf 4) < p.committedSum (p.busOf 4) + p.committed 4 - (victims.map p.committed).sum := by
  dsimp only
  decide +kernel

theorem witness_LoadSetSwitchesAHostsLoad_room :
    MakesRoom (crowded 200 2) 1 ∧ MakesRoom (crowded 100 2) 2 ∧ (MakesRoom (crowded 10 1) 2 ∧ (crowded 10 1).part.effClass 4 = 1) ∧
    (let s := st (calm.shedLoad 4);
      s.part.Ready ∧ s.part.mdc.mode ≠ .start ∧ ownerOf s.part.params 4 = .host ∧ (s.part.load 4).state = .shed ∧
        ¬ busWarnOf s.part.params .A ≤ 0) ∧
    (let s := st (((calm.shedLoad 3).shedLoad 4).par 4 11 1 |> fun p => p.setBus .A { p.bus .A with depthMark := true });
      s.part.Ready ∧ ownerOf s.part.params 4 = .host ∧ (s.part.load 4).state = .shed ∧ busWarnOf s.part.params .A = 1 ∧
        (s.part.bus .A).depthMark = true) := by
  refine ⟨?_, ?_, ?_, ?_, ?_⟩ <;> try dsimp only [MakesRoom]
  all_goals decide +kernel

/-- An accepted write of one value and its hypothesis on the lines. -/
abbrev Accepts5 (s : State) (idx : Byte) (v : Word) : Prop := Requests.accepts s 5 idx v ∧ Requests.quiet s.part

theorem witness_AcceptedWritesHaveTheirConsequences_roles :
    (Requests.accepts (st (calm.role' 4 3)) 3 27 0 ∧ (calm.role' 4 3).params.role 4 = .frostValve ∧
      ∀ l, l ≠ 4 → calm.params.role l ≠ .frostValve) ∧
    (Requests.accepts active 3 87 5 ∧ calm.params.role 14 = .general) ∧
    (Requests.accepts (st (calm.role' 14 5)) 3 87 0 ∧ (calm.role' 14 5).params.role 14 = .stepLight) ∧
    (Requests.accepts active 3 111 6 ∧ calm.params.role 18 = .motor) := by
  decide +kernel

theorem witness_AcceptedWritesHaveTheirConsequences_warn :
    (Requests.accepts (st (calm.shedLoad 4)) 4 11 2 ∧ (calm.shedLoad 4).chg.tieRelay = .split) ∧
    (let p := (calm.shedLoad 4).setBus .A { (calm.shedLoad 4).bus .A with depthMark := true };
      Requests.accepts (st p) 4 11 1 ∧ (p.bus .A).depthMark = true ∧ (p.bus .A).stack.length = 1) ∧
    (let p := { calm with
        chg := { calm.chg with tieRelay := .joined }
        ldm := { calm.ldm with busJ := (calm.shedLoad 4).ldm.busA } };
      Requests.accepts (st p) 4 11 1 ∧ (p.busOfBank .A) = .joined ∧ (p.bus .joined).stack.length = 1) := by
  refine ⟨?_, ?_, ?_⟩ <;> try dsimp only
  all_goals decide +kernel

theorem witness_AcceptedWritesHaveTheirConsequences_storage :
    (Accepts5 storing 66 10 ∧ 500 ≤ (storing.part.params.set 5 66 10).dutyMs) ∧
    (Accepts5 storing 5 30 ∧ 500 ≤ (storing.part.params.set 5 5 30).dutyMs) := by
  unfold Accepts5 Requests.quiet
  decide +kernel

/-- The heater's state with the guard in a state, no heater load and the cabin at a temperature. -/
def cool (h : HeaterState) (g : GuardState) (cabin : Option Int) (p : Part := calm) : State :=
  st { p with clm := { p.clm with heater := h, guard := g, cabin := cabin } }

theorem witness_AcceptedWritesHaveTheirConsequences_climate :
    (Requests.accepts (cool .noHeater .watch none) 7 0 1 ∧ calm.params.loadWith .heater = none) ∧
    (Requests.accepts (cool .faulted .risk (some 9) (calm.role' 5 2)) 7 0 2) ∧
    (Requests.accepts (cool .idle .safe (some 60) (calm.role' 5 2)) 7 1 40 ∧
      (calm.role' 5 2).params.loadWith .heater = some 5) ∧
    (Requests.accepts (cool .running .risk (some 41) (calm.role' 5 2)) 7 2 2) ∧
    (Requests.accepts (cool .noHeater .safe none) 7 3 0 ∧ calm.params.guardEnabled = true) ∧
    (let p := (calm.role' 5 2).ld 5 ({ · with promoted := true });
      Requests.accepts (cool .running .risk none p) 7 3 0 ∧ p.params.guardEnabled = true) ∧
    (Requests.accepts (cool .noHeater .off none (calm.par 7 3 0)) 7 3 1 ∧ (calm.par 7 3 0).params.guardEnabled = false) ∧
    (Requests.accepts (st (Lines.guardAt .safe none calm)) 7 4 20 ∧
      Requests.accepts (st (Lines.guardAt .safe (some 30) calm)) 7 4 20 ∧
      Requests.accepts (st (Lines.guardAt .watch (some 5) calm)) 7 5 6 ∧
      Requests.accepts (st (Lines.guardAt .risk (some 60) calm)) 7 6 2) := by
  refine ⟨?_, ?_, ?_, ?_, ?_, ?_, ?_, ?_⟩ <;> try dsimp only
  all_goals decide +kernel

/-- The step about to enter EXTENDED at its OUT switch, idle, with LT2 the step light at a courtesy level. -/
def stepping (courtesy : Nat) (f : Part → Part := id) : State :=
  st (f (((calm.role' 14 5).par 9 24 courtesy).setSignal .stepOut ⟨true, false, 20⟩))
/-- The hypotheses of the hand-over to LUX (RecallAndCourtesySetLevels). -/
abbrev Steps (s : State) : Prop :=
  s.part.outbox = [] ∧ (s.part.signal .stepOut).raw = true ∧ (s.part.signal .stepOut).deb = false ∧
    s.part.inSwitch .step = false ∧ ((s.part.axis .step).state = .retracted ∨ (s.part.axis .step).state = .stoppedMid) ∧
    s.part.mot.active = none
/-- With the light's target below the courtesy level and no courtesy timer. -/
abbrev Lights (s : State) : Prop :=
  Steps s ∧ s.part.stepLight = some 2 ∧ (s.part.light 2).courtesy = none ∧ (s.part.light 2).target < s.part.params.courtesyLevel

theorem witness_RecallAndCourtesySetLevels_courtesy :
    (let s := stepping 300 (·.role' 14 0); Steps s ∧ s.part.stepLight = none) ∧
    (let s := stepping 0; Steps s ∧ s.part.stepLight = some 2 ∧ s.part.params.courtesyLevel = 0) ∧
    (let s := stepping 1 (·.setLight 2 { LightRec.reset with courtesy := some 0 });
      Steps s ∧ s.part.stepLight = some 2 ∧ 0 < s.part.params.courtesyLevel ∧ (s.part.light 2).courtesy.isSome = true) ∧
    (let s := stepping 300 (·.setLight 2 { LightRec.reset with target := 300 });
      Steps s ∧ s.part.stepLight = some 2 ∧ (s.part.light 2).courtesy = none ∧
        s.part.params.courtesyLevel ≤ (s.part.light 2).target) ∧
    (let s := stepping 1000 (·.ld 14 ({ · with state := .exercised })); Lights s ∧ (s.part.load 14).state = .exercised) ∧
    (let s := stepping 300 fun p => { p with mdc := { p.mdc with mode := .service } };
      Lights s ∧ (s.part.modeRefusal 14 (s.part.effClass 14)).isSome = true) ∧
    (let s := stepping 300 (·.ld 14 ({ · with state := .faulted }));
      Lights s ∧ s.part.modeRefusal 14 (s.part.effClass 14) = none ∧ (s.part.load 14).state = .faulted) ∧
    (let s := stepping 300 fun p => p.setBus .B { p.bus .B with soc := 0 };
      Lights s ∧ s.part.modeRefusal 14 (s.part.effClass 14) = none ∧ (s.part.load 14).state = .off ∧
        s.part.chargeRefusal (s.part.busOf 14) (s.part.effClass 14) = true) ∧
    (let s := stepping 300 (·.shedLoad 14);
      Lights s ∧ s.part.modeRefusal 14 (s.part.effClass 14) = none ∧ (s.part.load 14).state = .shed) ∧
    (let s := stepping 300 fun p => (p.onLoad 14).ld 14 ({ · with wantedLevel := 900 });
      Lights s ∧ s.part.modeRefusal 14 (s.part.effClass 14) = none ∧ (s.part.load 14).state = .on ∧
        (s.part.chan 14).switching = .on ∧ (s.part.light 2).present ≠ s.part.params.courtesyLevel ∧
        s.part.baseDrawAt 14 s.part.params.courtesyLevel ≤ s.part.baseDrawAt 14 (s.part.load 14).wantedLevel) ∧
    (let s := stepping 300;
      Lights s ∧ s.part.modeRefusal 14 (s.part.effClass 14) = none ∧ (s.part.load 14).state = .off ∧
        (s.part.chan 14).switching = .off ∧ (s.part.light 2).present ≠ s.part.params.courtesyLevel ∧
        s.part.out.exercise ≠ some 14 ∧ s.part.chargeRefusal (s.part.busOf 14) (s.part.effClass 14) = false ∧
        s.part.committedSum (s.part.busOf 14) + s.part.committedAt 14 s.part.params.courtesyLevel ≤
          busLimitOf s.part.params (s.part.busOf 14)) := by
  refine ⟨?_, ?_, ?_, ?_, ?_, ?_, ?_, ?_, ?_, ?_, ?_⟩ <;> try dsimp only
  all_goals decide +kernel

/-- A handbrake just released with the awning out, the step in a state. -/
def leaving (step : AxisState) (f : Part → Part := id) : State :=
  st (hears .driveWarning (f (Lights.released .extended step).part))
/-- An awning motion in DRIVE with its motor ON. -/
def sliding (d : Direction) (g : Stage) (p : Part) : Part :=
  { (p.onLoad 18).ld 18 ({ · with motorClass := some 2 }) with
    mot := { p.mot with active := some ⟨.awn, d, none, 2, g, .stoppedMid, some 400, 30, 40000⟩ } }
/-- The draws of a bus without the awning's motor, and one more, fit its limit. -/
abbrev Fits (p : Part) (l : LoadId) : Prop :=
  (((p.bus (p.busOf l)).onList.filter fun k => decide (k ≠ 18)).map p.committed).sum + p.committed l ≤
    busLimitOf p.params (p.busOf l)
/-- The charge admits class 2 on the awning's bus. -/
abbrev Charged (p : Part) : Prop :=
  busFloorOf p.params (p.busOf 18) 2 ≤ (p.bus (p.busOf 18)).soc ∧ (p.bus (p.busOf 18)).uvFlag = false
/-- A drive-off with the awning out and the notice heard (PinsAndSuppliesAreFollowed). -/
abbrev Leaves (s : State) : Prop :=
  s.part.outbox = [] ∧ s.part.mdc.mode = .active ∧ (s.part.signal .handbrake).raw = false ∧
    (s.part.signal .handbrake).deb = true ∧ (s.part.axis .awn).state ≠ .retracted ∧ s.part.Hears .driveWarning ∧
    ListsAgree s.part
/-- No motion, none pending and no dead time. -/
abbrev Idle (p : Part) : Prop := p.mot.active = none ∧ p.mot.pend = none ∧ p.mot.dead = none
/-- A load and its channel OFF. -/
abbrev Off (p : Part) (l : LoadId) : Prop := (p.load l).state = .off ∧ (p.chan l).switching = .off
/-- The awning drives with its motor ON. -/
abbrev Drives (p : Part) (d : Direction) : Prop :=
  (p.mot.active.any fun m => decide (m.axis = .awn ∧ m.stage = .drive ∧ m.dir = d)) = true ∧ (p.load 18).state = .on ∧
    (p.chan 18).switching ≠ .tripped

theorem witness_PinsAndSuppliesAreFollowed_driveOff :
    (let s := leaving .retracted;
      Leaves s ∧ (s.part.axis .step).state = .retracted ∧ Idle s.part ∧ s.part.inSwitch .awn = false ∧ Off s.part 18 ∧
        Fits s.part 18 ∧ Charged s.part) ∧
    (let s := leaving .retracted fun p => p.setBus .A { p.bus .A with soc := 0 };
      Leaves s ∧ (s.part.axis .step).state = .retracted ∧ Idle s.part ∧ s.part.inSwitch .awn = false ∧ Off s.part 18 ∧
        ¬ Charged s.part) ∧
    (let s := leaving .retracted (sliding .retract .wait); Leaves s ∧ (s.part.axis .step).state = .retracted ∧
      s.part.mot.active.isSome = true) ∧
    (let s := leaving .retracted (sliding .extend .drive);
      Leaves s ∧ (s.part.axis .step).state = .retracted ∧ Drives s.part .extend ∧ s.part.inSwitch .awn = false ∧
        Fits s.part 18 ∧ Charged s.part) ∧
    (let s := leaving .extended;
      Leaves s ∧ (s.part.axis .step).state = .extended ∧ s.part.inSwitch .step = false ∧ Off s.part 19 ∧ Fits s.part 19 ∧
        Idle s.part ∧ (s.part.load 18).state = .off) ∧
    (let s := leaving .extended fun p => { sliding .retract .drive p with
        mot := { (sliding .retract .drive p).mot with pend := some ⟨.awn, .retract, some 300, .host⟩ } };
      Leaves s ∧ (s.part.axis .step).state = .extended ∧ s.part.inSwitch .step = false ∧ Off s.part 19 ∧ Fits s.part 19 ∧
        Drives s.part .retract ∧ s.part.inSwitch .awn = false ∧ s.part.params.role 18 = .motor) ∧
    (let s := { Lights.released .extended .retracted with
        part := (((calm.par 1 0 0).setSignal .dplus ⟨true, false, 500⟩).setAxis .awn
          { calm.axis .awn with state := .extended }).setAxis .step { calm.axis .step with state := .retracted } };
      s.part.outbox = [] ∧ (s.part.signal .dplus).raw = true ∧ (s.part.signal .dplus).deb = false ∧
        s.part.params.chemistry = .lead ∧ s.part.chg.pad = .noPad ∧ (s.part.axis .awn).state ≠ .retracted ∧
        (s.part.axis .step).state = .retracted ∧ ListsAgree s.part) := by
  refine ⟨?_, ?_, ?_, ?_, ?_, ?_, ?_⟩ <;> simp only [Leaves, ListsAgree] <;> try dsimp only
  all_goals decide +kernel

theorem witness_PinsAndSuppliesAreFollowed_snapshot :
    (let s := Requests.slotOneNewer;
      s.part.outbox = [] ∧ 8999 < 9000 ∧ s.part.mdc.supplyWarning = false ∧ s.part.lnk.memory = .idle ∧
        s.part.lnk.newest = some (true, Requests.validSlot 5)) ∧
    (let s := Requests.slotZeroNewer;
      s.part.outbox = [] ∧ s.part.mdc.supplyWarning = false ∧ s.part.lnk.memory = .idle ∧
        s.part.lnk.newest = some (false, Requests.validSlot 0)) := by
  refine ⟨?_, ?_⟩ <;> try dsimp only
  all_goals decide +kernel

/-- ACTIVE and parked, with loads ON and SHED, the frost valve among the ON ones, and the heater SHED. -/
def settingOff : State :=
  st (({ ((calm.role' 9 3).role' 7 2) with
    mdc := { calm.mdc with signals := { calm.mdc.signals with handbrake := ⟨true, true, 200⟩ } } }.onLoad 3).onLoad 9 |>.shedLoad 7)

/-- A retraction of the step waits behind a motion of the awning while STORAGE or SERVICE is entered. -/
theorem witness_ModeSetChecksThenChanges_pending :
    let m : Motion := ⟨.awn, .retract, none, 2, .wait, .extended, none, 0, 1⟩
    let p := hears .motion { settingOff.part with mot := { Mot.reset with active := some m, pend := some ⟨.step, .retract, none, .host⟩ } }
    (st p).part.Ready ∧ p.mdc.mode = .active ∧ p.dplus = false ∧ p.parked = true ∧ p.Hears .motion ∧
      p.mot.active.map (·.axis) = some .awn ∧ p.mot.pend.map (·.axis) = some .step := by
  dsimp only
  decide +kernel

/-- Lines of each kind while STORAGE is entered and left: an OFF and an ON duty line, an ON and an OFF line of another role. -/
theorem witness_ModeSetChecksThenChanges_lines :
    (let p := ((((Lights.inMode .active).part.ln 3 ({ · with enabled := true })).ln 5 ({ · with enabled := true, supply := .on })).ln 0
        ({ · with enabled := true, supply := .on })).ln 1 ({ · with enabled := true });
      (st p).part.Ready ∧ p.mdc.mode = .active ∧ p.dplus = false ∧ p.params.lineRole 3 = .cabinTemp ∧
        (p.line 3).supply = .off ∧ (p.line 5).supply = .on ∧ p.params.lineRole 0 = .freshLevel ∧ (p.line 0).supply = .on) ∧
    (let p := ((Lights.inMode .storage).part.ln 3 ({ · with enabled := true })).ln 0 ({ · with enabled := true });
      (st p).part.Ready ∧ p.mdc.mode = .storage ∧ (p.line 3).supply = .off ∧ (p.line 0).supply = .off) := by
  refine ⟨?_, ?_⟩ <;> try dsimp only
  all_goals decide +kernel

theorem witness_ModeSetChecksThenChanges_service :
    let s := settingOff;
      s.part.Ready ∧ s.part.mdc.mode = .active ∧ s.part.parked = true ∧ s.part.params.role 3 ≠ .frostValve ∧
        s.part.params.role 3 ≠ .heater ∧ (s.part.load 3).state = .on ∧ s.part.params.role 7 = .heater ∧
        (s.part.load 7).promoted = false ∧ s.part.clm.guard = .off ∧ (s.part.load 7).state = .shed ∧
        s.part.liveBuses = [.A, .B] ∧ (s.part.bus .A).stack.map (·.load) = [7] ∧ s.part.busOf 7 = .A ∧ ListsAgree s.part := by
  unfold ListsAgree
  dsimp only
  decide +kernel

/-- A class 3 load ON and a class 4 load SHED as STORAGE is entered. -/
theorem witness_ModeSetChecksThenChanges_storage :
    let p := ((calm.par 3 18 3).par 3 24 4 |>.onLoad 3).shedLoad 4
    (st p).part.Ready ∧ p.mdc.mode = .active ∧ p.dplus = false ∧ ListsAgree p ∧ p.params.role 3 ≠ .heater ∧
      p.effClass 3 = 3 ∧ (p.load 3).state = .on ∧ p.effClass 4 = 4 ∧ (p.load 4).state = .shed := by
  unfold ListsAgree
  dsimp only
  decide +kernel

end Ends

end Sys2Proof.Tests
end

section
/-! PROOFS. The OCV lookup (R15): over a table with ascending voltages it is the interpolation between the two points around the
voltage, with the ends below the first and above the last point. -/

namespace Sys2Proof.Machine

/-- An OCV table: the voltages ascend, the states of charge do not fall (R14). -/
abbrev OcvAscends (t : List (Nat × Nat)) : Prop := t.Pairwise fun a b => a.1 < b.1 ∧ a.2 ≤ b.2

/-- The interpolation at the left point is that point's state of charge. -/
@[simp] theorem ocvBetween_left (v0 s0 v1 s1 : Nat) : ocvBetween v0 s0 v1 s1 v0 = s0 := by
  simp [ocvBetween]

/-- The interpolation at the right point is that point's state of charge. -/
theorem ocvBetween_right {v0 s0 v1 s1 : Nat} (hv : v0 < v1) (hs : s0 ≤ s1) : ocvBetween v0 s0 v1 s1 v1 = s1 := by
  have : (v1 - v0) * (s1 - s0) / (v1 - v0) = s1 - s0 := Nat.mul_div_cancel_left _ (by omega)
  simp only [ocvBetween, this]
  omega

/-- The interpolation over signed numbers, the division truncated toward zero (R15). -/
theorem ocvBetween_eq_tdiv {v0 s0 v1 s1 v : Nat} (hv : v0 ≤ v) (h : v0 ≤ v1) (hs : s0 ≤ s1) :
    (ocvBetween v0 s0 v1 s1 v : Int) = s0 + (((v : Int) - v0) * ((s1 : Int) - s0)).tdiv ((v1 : Int) - v0) := by
  simp only [ocvBetween, ← Nat.cast_sub hv, ← Nat.cast_sub h, ← Nat.cast_sub hs, ← Nat.cast_mul, ← Int.ofNat_tdiv, ← Nat.cast_add]

/-- At or below the first point: its state of charge. -/
theorem ocvLookup_of_le_first {t : List (Nat × Nat)} {v : Nat} (h : v ≤ (t.getD 0 (0, 0)).1) :
    ocvLookup t v = (t.getD 0 (0, 0)).2 := by
  match t with
  | [] => rfl
  | [_] => rfl
  | _ :: _ :: _ => simp_all [ocvLookup]

/-- No voltage of an OCV table is below the first. -/
theorem OcvAscends.first_le {b : Nat × Nat} {t : List (Nat × Nat)} (ht : OcvAscends (b :: t)) {i : Nat}
    (hi : i < (b :: t).length) : b.1 ≤ ((b :: t).getD i (0, 0)).1 := by
  rw [List.getD_eq_getElem _ _ hi]
  rcases List.mem_cons.1 (List.getElem_mem hi) with e | e
  · rw [e]
  · exact ((List.pairwise_cons.1 ht).1 _ e).1.le

/-- Above the last point: its state of charge. -/
theorem ocvLookup_of_last_lt {t : List (Nat × Nat)} (ht : OcvAscends t) {n v : Nat} (hn : t.length = n + 1)
    (h : (t.getD n (0, 0)).1 < v) : ocvLookup t v = (t.getD n (0, 0)).2 := by
  induction t generalizing n with
  | nil => simp at hn
  | cons a t ih =>
    match t, n with
    | [], 0 => rfl
    | b :: rest, n + 1 =>
      obtain ⟨hab, ht'⟩ := List.pairwise_cons.1 ht
      have hbn := OcvAscends.first_le ht' (i := n) (by simp at hn ⊢; omega)
      have := (hab b (List.mem_cons_self ..)).1
      simp only [List.getD_cons_succ] at h ⊢
      rw [← ih ht' (by simpa using hn) h, ocvLookup, if_neg (by omega), if_neg (by omega)]

/-- Between two adjacent points: the interpolation over these two. -/
theorem ocvLookup_of_between {t : List (Nat × Nat)} (ht : OcvAscends t) {i v : Nat} (hi : i + 1 < t.length)
    (h0 : (t.getD i (0, 0)).1 ≤ v) (h1 : v ≤ (t.getD (i + 1) (0, 0)).1) :
    ocvLookup t v = ocvBetween (t.getD i (0, 0)).1 (t.getD i (0, 0)).2 (t.getD (i + 1) (0, 0)).1 (t.getD (i + 1) (0, 0)).2 v := by
  induction t generalizing i with
  | nil => simp at hi
  | cons a t ih =>
    match t, i with
    | b :: rest, 0 =>
      simp only [List.getD_cons_zero, List.getD_cons_succ] at h0 h1 ⊢
      rw [ocvLookup]
      split
      next h => rw [show v = a.1 by omega, ocvBetween_left]
      next => rfl
    | b :: rest, i + 1 =>
      obtain ⟨hab, ht'⟩ := List.pairwise_cons.1 ht
      obtain ⟨hv, hs⟩ := hab b (List.mem_cons_self ..)
      simp only [List.getD_cons_succ] at h0 h1 ⊢
      have step := ih ht' (by simpa using hi) h0 h1
      have hbi := OcvAscends.first_le ht' (i := i) (by simpa using Nat.lt_of_succ_lt hi)
      refine .trans ?_ step
      rw [ocvLookup, if_neg (by omega)]
      split
      next h =>
        -- the voltage is that of the second point, at which both interpolations agree
        obtain rfl : v = b.1 := by omega
        rw [ocvBetween_right hv hs, ocvLookup_of_le_first (by simp)]
        rfl
      next => rfl

/-- Adjacent points of an OCV table ascend. -/
theorem OcvAscends.adjacent {t : List (Nat × Nat)} (ht : OcvAscends t) {i : Nat} (hi : i + 1 < t.length) :
    (t.getD i (0, 0)).1 < (t.getD (i + 1) (0, 0)).1 ∧ (t.getD i (0, 0)).2 ≤ (t.getD (i + 1) (0, 0)).2 := by
  rw [List.getD_eq_getElem _ _ (Nat.lt_of_succ_lt hi), List.getD_eq_getElem _ _ hi]
  exact List.pairwise_iff_getElem.1 ht _ _ _ _ (Nat.lt_succ_self i)

/-- At a point: its state of charge. -/
theorem ocvLookup_at {t : List (Nat × Nat)} (ht : OcvAscends t) {i : Nat} (hi : i < t.length) :
    ocvLookup t (t.getD i (0, 0)).1 = (t.getD i (0, 0)).2 := by
  match i with
  | 0 => exact ocvLookup_of_le_first le_rfl
  | i + 1 =>
    obtain ⟨hv, hs⟩ := OcvAscends.adjacent ht hi
    rw [ocvLookup_of_between ht hi hv.le le_rfl, ocvBetween_right hv hs]

/-- The default of a point of the OCV tables is that of R15, whatever the chemistry and the capacities in force. -/
theorem paramDefault_ocv (chem : Chemistry) (capA capB i : Nat) :
    paramDefault chem capA capB 1 (14 + i) = BitVec.ofNat 16 (defaultOcv.getD i 0) := by
  have hle (n : Nat) (hn : n ≤ 13) : ¬ 14 + i ≤ n := by omega
  have hne (n : Nat) (hn : n ≤ 13) : 14 + i ≠ n := by omega
  simp [paramDefault, default1, hle, hne]

/-- Settles O26: below, between, at and above the points by the recursion of the lookup; the tables by their definitions. -/
theorem ocvLookupInterpolates : Obligations.OcvLookupInterpolates := by
  refine ⟨fun t v hl ht => ⟨fun h => ocvLookup_of_le_first h.le, ocvLookup_of_last_lt ht hl, fun i hi h0 h1 => ?_, ?_⟩,
    fun ps => ?_, fun chem capA capB => ?_, by decide +kernel⟩
  · obtain ⟨hv, hs⟩ := OcvAscends.adjacent ht (i := i) (by omega)
    rw [ocvLookup_of_between ht (by omega) h0 h1, ocvBetween_eq_tdiv h0 hv.le hs]
  · rintro i hi rfl
    exact ocvLookup_at ht (by omega)
  · unfold Pages.ocvTable Pages.ocvPoint
    cases ps.chemistry <;> rfl
  · simp only [paramDefault_ocv]
    decide

end Sys2Proof.Machine
end

section
/-! PROOFS. Requests that are answered at their dispatch, with nothing changed but the reply slot: the arguments by their
ranges (R202, R203), the refusals BAD_ARG and STARTING. -/

namespace Sys2Proof.Machine

/-! ### A request in the queue of a part that is ready -/

/-- The part while its block handles the request `r`, alone in the queue (R202). -/
abbrev Part.queued (p : Part) (r : Request) : Part := { p with lnk := { p.lnk with requests := [r] } }

/-- A request that its block answers without an effect: nothing but the reply. -/
theorem replies_of_answer {i : Instr} {r : Request} {s : State} {st : Status} {f : Part → List Byte} {payload : List Byte}
    (hr : s.part.Ready) (hi : i.request? = some r) (hh : (s.part.queued r).handle r = (s.part.queued r).answer st f)
    (hf : f (s.part.queued r) = payload) : Replies i s s.part st payload :=
  hf ▸ replies_of_refusal hr hi hh

/-- A request that its block refuses whatever the part is: nothing but the status. -/
theorem replies_of_refuse {i : Instr} {r : Request} {s : State} {st : Status} (hr : s.part.Ready) (hi : i.request? = some r)
    (hh : (s.part.queued r).handle r = (s.part.queued r).refuse st) : Replies i s s.part st [] :=
  replies_of_answer hr hi hh rfl

/-! ### Arguments (R202, R203) -/

/-- An argument that names no value of its list is refused. -/
theorem bankArg_eq_none {x : Byte} (h : 2 ≤ x.toNat) : bankArg x = none := by
  unfold bankArg; split <;> simp_all
theorem tankArg_eq_none {x : Byte} (h : 2 ≤ x.toNat) : tankArg x = none := by
  unfold tankArg; split <;> simp_all
theorem tieArg_eq_none {x : Byte} (h : 2 ≤ x.toNat) : tieArg x = none := by
  unfold tieArg; split <;> simp_all
theorem switchArg_eq_none {x : Byte} (h : 2 ≤ x.toNat) : switchArg x = none := by
  unfold switchArg; split <;> simp_all
theorem flagArg_eq_none {x : Byte} (h : 2 ≤ x.toNat) : flagArg x = none := by
  unfold flagArg; split <;> simp_all
theorem axisArg_eq_none {x : Byte} (h : 2 ≤ x.toNat) : axisArg x = none := by
  unfold axisArg; split <;> simp_all
theorem zeroArg_eq_none {x : Byte} (h : 3 ≤ x.toNat) : zeroArg x = none := by
  unfold zeroArg; split <;> simp_all
theorem thermoArg_eq_none {x : Byte} (h : 3 ≤ x.toNat) : thermoArg x = none := by
  unfold thermoArg; split <;> simp_all
theorem moveArg_eq_none {x : Byte} (h : 3 ≤ x.toNat) : moveArg x = none := by
  unfold moveArg; split <;> simp_all
theorem lineArg_eq_none {x : Byte} (h : 6 ≤ x.toNat) : lineArg x = none := dif_neg (by omega)
theorem lightArg_eq_none {x : Byte} (h : 6 ≤ x.toNat) : lightArg x = none := dif_neg (by omega)
theorem loadArg_eq_none {x : Byte} (h : 20 ≤ x.toNat) : loadArg x = none := dif_neg (by omega)
theorem linesArg_eq_none {x : Byte} (h : 6 ≤ x.toNat) (ha : x ≠ 0xFF#8) : linesArg x = none := by
  simp [linesArg, ha, lineArg_eq_none h]
theorem channelsArg_eq_none {x : Byte} (h : 20 ≤ x.toNat) (ha : x ≠ 0xFF#8) : channelsArg x = none := by
  simp [channelsArg, ha, loadArg_eq_none h]

/-- An argument of its list names a value of it. -/
theorem tieArg_of_le {x : Byte} (h : x.toNat ≤ 1) : ∃ t, tieArg x = some t := by
  rcases Nat.le_one_iff_eq_zero_or_eq_one.1 h with e | e <;> simp [tieArg, e]
theorem switchArg_of_le {x : Byte} (h : x.toNat ≤ 1) : ∃ on, switchArg x = some on := by
  rcases Nat.le_one_iff_eq_zero_or_eq_one.1 h with e | e <;> simp [switchArg, e]
theorem zeroArg_of_le {x : Byte} (h : x.toNat ≤ 2) : ∃ z, zeroArg x = some z := by
  obtain e | e | e : x.toNat = 0 ∨ x.toNat = 1 ∨ x.toNat = 2 := by omega
  all_goals simp [zeroArg, e]
theorem thermoArg_of_le {x : Byte} (h : x.toNat ≤ 2) : ∃ m, thermoArg x = some m := by
  obtain e | e | e : x.toNat = 0 ∨ x.toNat = 1 ∨ x.toNat = 2 := by omega
  all_goals simp [thermoArg, e]
theorem moveArg_of_le {x : Byte} (h : x.toNat ≤ 2) : ∃ c, moveArg x = some c := by
  obtain e | e | e : x.toNat = 0 ∨ x.toNat = 1 ∨ x.toNat = 2 := by omega
  all_goals simp [moveArg, e]
theorem modeArg_of_le {x : Byte} (h : 1 ≤ x.toNat) (h' : x.toNat ≤ 3) : ∃ m, modeArg x = some m := by
  obtain e | e | e : x.toNat = 1 ∨ x.toNat = 2 ∨ x.toNat = 3 := by omega
  all_goals simp [modeArg, e]

/-- The number of a load, a line or a light channel is its own argument. -/
@[simp] theorem loadArg_ofNat (l : LoadId) : loadArg (BitVec.ofNat 8 l.val) = some l := by
  have : l.val % 256 = l.val := Nat.mod_eq_of_lt (by omega)
  simp [loadArg, this]
@[simp] theorem lineArg_ofNat (n : LineId) : lineArg (BitVec.ofNat 8 n.val) = some n := by
  have : n.val % 256 = n.val := Nat.mod_eq_of_lt (by omega)
  simp [lineArg, this]
@[simp] theorem lightArg_ofNat (c : LightId) : lightArg (BitVec.ofNat 8 c.val) = some c := by
  have : c.val % 256 = c.val := Nat.mod_eq_of_lt (by omega)
  simp [lightArg, this]

/-! ### BAD_ARG -/

/-- A request whose argument its block finds in no list is refused with BAD_ARG, whatever the part is. -/
abbrev BadArg (r : Request) : Prop := ∀ p : Part, p.handle r = p.refuse .badArg

theorem badArg_getBank {x : Byte} (h : 2 ≤ x.toNat) : BadArg (.getBank x) := fun p => by
  simp only [Part.handle, Part.getBank, bankArg_eq_none h]
theorem badArg_tieSet {x : Byte} (h : 2 ≤ x.toNat) : BadArg (.tieSet x) := fun p => by
  simp only [Part.handle, Part.tieSet, tieArg_eq_none h]
theorem badArg_getBus {x : Byte} (h : 2 ≤ x.toNat) : BadArg (.getBus x) := fun p => by
  simp only [Part.handle, Part.getBus, bankArg_eq_none h]
theorem badArg_shedList {x : Byte} (h : 2 ≤ x.toNat) : BadArg (.shedList x) := fun p => by
  simp only [Part.handle, Part.shedList, bankArg_eq_none h]
theorem badArg_water {x : Byte} (h : 2 ≤ x.toNat) : BadArg (.water x) := fun p => by
  simp only [Part.handle, Part.water, switchArg_eq_none h]
theorem badArg_tankGet {x : Byte} (h : 2 ≤ x.toNat) : BadArg (.tankGet x) := fun p => by
  simp only [Part.handle, Part.tankGet, tankArg_eq_none h]
theorem badArg_bankZero {x : Byte} (h : 3 ≤ x.toNat) : BadArg (.bankZero x) := fun p => by
  simp only [Part.handle, Part.bankZero, zeroArg_eq_none h]
theorem badArg_heatSet {x : Byte} (v : Word) (h : 3 ≤ x.toNat) : BadArg (.heatSet x v) := fun p => by
  simp only [Part.handle, Part.heatSet, thermoArg_eq_none h]
theorem badArg_sceneRecall {x : Byte} (v : Word) (h : 4 ≤ x.toNat) : BadArg (.sceneRecall x v) := fun p => if_pos (by omega)
theorem badArg_sceneStore {x : Byte} (h : 4 ≤ x.toNat) : BadArg (.sceneStore x) := fun p => if_pos (by omega)
theorem badArg_lightSet {x : Byte} (v w : Word) (h : 6 ≤ x.toNat) : BadArg (.lightSet x v w) := fun p => by
  simp only [Part.handle, Part.lightSet, lightArg_eq_none h]
theorem badArg_loadGet {x : Byte} (h : 20 ≤ x.toNat) : BadArg (.loadGet x) := fun p => by
  simp only [Part.handle, Part.loadGet, loadArg_eq_none h]
theorem badArg_loadSet {x : Byte} (y : Byte) (h : 20 ≤ x.toNat) : BadArg (.loadSet x y) := fun p => by
  simp only [Part.handle, Part.loadSet, loadArg_eq_none h]
theorem badArg_spotCheck {x : Byte} (h : 20 ≤ x.toNat) : BadArg (.spotCheck x) := fun p => by
  simp only [Part.handle, Part.spotCheck, loadArg_eq_none h]
theorem badArg_exerciseNone {x : Byte} (ha : x ≠ 0xFF#8) : BadArg (.exercise x none) := fun _ => if_neg ha

/-- Of two arguments one is out of its list. -/
theorem badArg_exercise {x y : Byte} (h : 20 ≤ x.toNat ∨ 2 ≤ y.toNat) : BadArg (.exercise x (some y)) := fun p => by
  rcases h with h | h
  · simp only [Part.handle, Part.exercise, Part.exerciseSet, loadArg_eq_none h]
  · simp only [Part.handle, Part.exercise, Part.exerciseSet, switchArg_eq_none h]
    cases loadArg x <;> rfl
theorem badArg_outputStatus {x y : Byte} (h : 20 ≤ x.toNat ∧ x ≠ 0xFF#8 ∨ 2 ≤ y.toNat) : BadArg (.outputStatus x y) := fun p => by
  rcases h with ⟨h, ha⟩ | h
  · simp only [Part.handle, Part.outputStatus, channelsArg_eq_none h ha]
  · simp only [Part.handle, Part.outputStatus, flagArg_eq_none h]
    cases channelsArg x <;> rfl
theorem badArg_lineGet {x y : Byte} (h : 6 ≤ x.toNat ∧ x ≠ 0xFF#8 ∨ 2 ≤ y.toNat) : BadArg (.lineGet x y) := fun p => by
  rcases h with ⟨h, ha⟩ | h
  · simp only [Part.handle, Part.lineGet, linesArg_eq_none h ha]
  · simp only [Part.handle, Part.lineGet, flagArg_eq_none h]
    cases linesArg x <;> rfl
theorem badArg_lineControl {x y : Byte} (h : 6 ≤ x.toNat ∨ 2 ≤ y.toNat) : BadArg (.lineControl x y) := fun p => by
  rcases h with h | h
  · simp only [Part.handle, Part.lineControl, lineArg_eq_none h]
  · simp only [Part.handle, Part.lineControl, switchArg_eq_none h]
    cases lineArg x <;> rfl
theorem badArg_move {x : Byte} (d : Byte) (w : Option Word) (h : 2 ≤ x.toNat) : BadArg (.move x d w) := fun p => by
  simp only [Part.handle, Part.move, axisArg_eq_none h]

/-- A MOVE of an axis with a bad command, or with a target that only AWN EXTEND takes, is refused with its payload (R165). -/
theorem handle_move_badArg (p : Part) {x d : Byte} {w : Option Word} {a : Axis} (ha : axisArg x = some a)
    (h : 3 ≤ d.toNat ∨ w.isSome = true ∧ (a = .step ∨ d ≠ 0#8)) :
    p.handle (.move x d w) = p.answer .badArg (·.movePayload a) := by
  by_cases hd : 3 ≤ d.toNat
  · simp only [Part.handle, Part.move, ha, moveArg_eq_none hd]
  · obtain ⟨hw, hx⟩ := h.resolve_left hd
    obtain ⟨c, hc⟩ := moveArg_of_le (x := d) (by omega)
    have hbad : badTarget a c w = true := by
      rcases hx with rfl | hx
      · simp [badTarget, hw]
      · have : c ≠ .extend := by
          rintro rfl
          unfold moveArg at hc
          split at hc <;> simp_all [BitVec.toNat_eq]
        cases c <;> simp_all [badTarget]
    simp only [Part.handle, Part.move, ha, hc, hbad, if_true]

/-! ### STARTING -/

/-- In START the request is answered STARTING with a payload, and has no effect. -/
abbrev Starting (r : Request) (payload : Part → List Byte) : Prop :=
  ∀ p : Part, p.mdc.mode = .start → p.handle r = p.answer .starting payload

theorem starting_save : Starting .save fun _ => [] := fun _ hm => if_pos hm
theorem starting_loadDefaults : Starting .loadDefaults fun _ => [] := fun p hm => by
  simp only [Part.handle, Part.loadDefaults, Part.defaultsRefusal, if_pos hm, Part.refuse, Part.answer]
theorem starting_frostDump : Starting .frostDump fun _ => [] := fun p hm => by
  simp only [Part.handle, Part.frostDump, frostReply, Part.frostDumped, if_pos hm, reduceCtorEq, if_false]; rfl
theorem starting_frostClose : Starting .frostClose fun _ => [] := fun p hm => by
  simp only [Part.handle, Part.frostClose, frostReply, Part.frostClosed, if_pos hm, reduceCtorEq, if_false]; rfl
theorem starting_bankZero {x : Byte} (h : x.toNat ≤ 2) : Starting (.bankZero x) fun _ => [] := fun p hm => by
  obtain ⟨z, hz⟩ := zeroArg_of_le h
  simp only [Part.handle, Part.bankZero, hz, Part.zeroRefusal, hm]; rfl
theorem starting_tieSet {x : Byte} (h : x.toNat ≤ 1) : Starting (.tieSet x) fun _ => [] := fun p hm => by
  obtain ⟨t, ht⟩ := tieArg_of_le h
  simp only [Part.handle, Part.tieSet, ht, Part.tieRefusal, hm]; rfl
theorem starting_exerciseNone : Starting (.exercise 0xFF#8 none) fun _ => [] := fun p hm => by
  simp only [Part.handle, Part.exercise, Part.exerciseNone, Part.serviceRefusal, hm, if_true]; rfl
theorem starting_exercise {x : Byte} (l : LoadId) (h : x.toNat ≤ 1) :
    Starting (.exercise (BitVec.ofNat 8 l.val) (some x)) fun _ => [] := fun p hm => by
  obtain ⟨on, ho⟩ := switchArg_of_le h
  simp only [Part.handle, Part.exercise, Part.exerciseSet, loadArg_ofNat, ho, Part.serviceRefusal, hm]; rfl
theorem starting_lineControl {x : Byte} (n : LineId) (h : x.toNat ≤ 1) :
    Starting (.lineControl (BitVec.ofNat 8 n.val) x) fun _ => [] := fun p hm => by
  obtain ⟨on, ho⟩ := switchArg_of_le h
  simp only [Part.handle, Part.lineControl, lineArg_ofNat, ho, if_pos hm]; rfl
theorem starting_water : Starting (.water 0) Part.waterPayload := fun p hm => by
  simp only [Part.handle, Part.water, show switchArg 0 = some true from rfl, Part.waterOn, hm]
theorem starting_heatSet {x : Byte} (v : Word) (h : x.toNat ≤ 2) : Starting (.heatSet x v) fun _ => [] := fun p hm => by
  obtain ⟨m, h⟩ := thermoArg_of_le h
  simp only [Part.handle, Part.heatSet, h, if_pos hm]; rfl
theorem starting_sceneRecall {x : Byte} (v : Word) (h : x.toNat ≤ 3) : Starting (.sceneRecall x v) fun _ => [] := fun p hm => by
  simp only [Part.handle, Part.sceneRecall, if_neg (show ¬ 3 < x.toNat by omega), if_pos hm]; rfl
theorem starting_sceneStore {x : Byte} (h : x.toNat ≤ 3) : Starting (.sceneStore x) fun _ => [] := fun p hm => by
  simp only [Part.handle, Part.sceneStore, if_neg (show ¬ 3 < x.toNat by omega), if_pos hm]; rfl
theorem starting_lightSet (c : LightId) (v w : Word) :
    Starting (.lightSet (BitVec.ofNat 8 c.val) v w) (·.lightPayload c (min 1000 v.toNat) (min 10000 w.toNat)) := fun p hm => by
  simp only [Part.handle, Part.lightSet, lightArg_ofNat, if_pos hm, clampLevel, clampFade]
theorem starting_modeSet {x : Byte} (h : 1 ≤ x.toNat) (h' : x.toNat ≤ 3) : Starting (.modeSet x) (·.modePayload .start) :=
  fun p hm => by
    obtain ⟨m, e⟩ := modeArg_of_le h h'
    have hr : p.modeSetRefusal m = some .starting := if_pos hm
    simp only [Part.handle, Part.modeSet, e, Part.modeAsked, hr, hm]

/-- A host's load, by its owner: the switch argument is taken, and START refuses (R70). -/
theorem handle_loadSet_starting (p : Part) (hm : p.mdc.mode = .start) {x : Byte} {l : LoadId} (h : x.toNat ≤ 1)
    (ho : ownerOf p.params l = .host) :
    p.handle (.loadSet (BitVec.ofNat 8 l.val) x) = p.answer .starting (·.loadSetPayload l .starting) := by
  obtain ⟨on, hs⟩ := switchArg_of_le h
  simp only [Part.handle, Part.loadSet, loadArg_ofNat, hs, if_pos ho, Part.loadSwitched, if_pos hm]

/-- A MOVE without a target has no bad one, and START refuses it whatever its command (R165). -/
theorem starting_move {x d : Byte} {a : Axis} (ha : axisArg x = some a) (h : d.toNat ≤ 2) :
    Starting (.move x d none) (·.movePayload a) := fun p hm => by
  obtain ⟨c, hc⟩ := moveArg_of_le h
  have hr : p.moveRefusal a c.direction = some .starting := by cases c <;> simp [MoveCmd.direction, Part.moveRefusal, hm]
  simp [Part.handle, Part.move, ha, hc, badTarget, Part.moveTaken, hr]

/-- Settles O21, request by request, by the lemmas above. -/
theorem refusedRequestsChangeNothing : Obligations.RefusedRequestsChangeNothing := by
  refine ⟨fun s x y v w r hr h => ?_, fun s x d w a hr => ⟨fun h => replies_of_refuse hr rfl (badArg_move d w h _),
    fun ha h => replies_of_answer hr rfl (handle_move_badArg _ ha h) rfl⟩, fun s x a d c l n v w hr hm => ?_⟩
  · rcases h with ⟨hx, h⟩ | ⟨hx, h⟩ | ⟨hx, h⟩ | ⟨hx, h⟩ | ⟨hx, ha, h⟩ | ⟨hx, h⟩ | ⟨hx, ha, h⟩ | ⟨hy, h⟩ <;>
      simp only [List.mem_cons, List.not_mem_nil, or_false] at h
    · rcases h with rfl | rfl | rfl | rfl | rfl | rfl
      · exact replies_of_refuse hr rfl (badArg_getBank hx _)
      · exact replies_of_refuse hr rfl (badArg_tieSet hx _)
      · exact replies_of_refuse hr rfl (badArg_getBus hx _)
      · exact replies_of_refuse hr rfl (badArg_shedList hx _)
      · exact replies_of_refuse hr rfl (badArg_water hx _)
      · exact replies_of_refuse hr rfl (badArg_tankGet hx _)
    · rcases h with rfl | rfl
      · exact replies_of_refuse hr rfl (badArg_bankZero hx _)
      · exact replies_of_refuse hr rfl (badArg_heatSet v hx _)
    · rcases h with rfl | rfl
      · exact replies_of_refuse hr rfl (badArg_sceneRecall v hx _)
      · exact replies_of_refuse hr rfl (badArg_sceneStore hx _)
    · rcases h with rfl | rfl
      · exact replies_of_refuse hr rfl (badArg_lineControl (.inl hx) _)
      · exact replies_of_refuse hr rfl (badArg_lightSet v w hx _)
    · subst h
      exact replies_of_refuse hr rfl (badArg_lineGet (.inl ⟨hx, ha⟩) _)
    · rcases h with rfl | rfl | rfl | rfl
      · exact replies_of_refuse hr rfl (badArg_loadGet hx _)
      · exact replies_of_refuse hr rfl (badArg_loadSet y hx _)
      · exact replies_of_refuse hr rfl (badArg_spotCheck hx _)
      · exact replies_of_refuse hr rfl (badArg_exercise (.inl hx) _)
    · rcases h with rfl | rfl
      · exact replies_of_refuse hr rfl (badArg_outputStatus (.inl ⟨hx, ha⟩) _)
      · exact replies_of_refuse hr rfl (badArg_exerciseNone ha _)
    · rcases h with rfl | rfl | rfl | rfl
      · exact replies_of_refuse hr rfl (badArg_lineControl (.inr hy) _)
      · exact replies_of_refuse hr rfl (badArg_exercise (.inr hy) _)
      · exact replies_of_refuse hr rfl (badArg_outputStatus (.inr hy) _)
      · exact replies_of_refuse hr rfl (badArg_lineGet (.inr hy) _)
  · have start {i : Instr} {r : Request} (f : Part → List Byte) (hi : i.request? = some r) (h : Starting r f) :
        Replies i s s.part .starting (f (s.part.queued r)) := replies_of_answer hr hi (h _ hm) rfl
    have bare {i : Instr} {r : Request} (hi : i.request? = some r) (h : Starting r fun _ => []) :
        Replies i s s.part .starting [] := start _ hi h
    exact ⟨bare rfl starting_save, bare rfl starting_loadDefaults, bare rfl starting_frostDump,
      bare rfl starting_frostClose, fun h => bare rfl (starting_bankZero h), fun h => bare rfl (starting_tieSet h),
      fun h ho => replies_of_answer hr rfl (handle_loadSet_starting (s.part.queued _) hm h ho) rfl,
      fun h => bare rfl (starting_exercise l h), bare rfl starting_exerciseNone,
      fun h => bare rfl (starting_lineControl n h), start Part.waterPayload rfl starting_water, fun h => bare rfl (starting_heatSet v h),
      fun ha h => start (·.movePayload a) rfl (starting_move ha h),
      start (·.lightPayload c (min 1000 v.toNat) (min 10000 w.toNat)) rfl (starting_lightSet c v w),
      fun h => bare rfl (starting_sceneRecall v h), fun h => bare rfl (starting_sceneStore h),
      fun h h' => start (·.modePayload .start) rfl (starting_modeSet h h')⟩

end Sys2Proof.Machine
end

section
/-! PROOFS. The requests that only read: their payloads are the fields of their rules in order (R22, R40, R71 to R73, R93, R119,
R137, R138, R157, R175, R205, R209), and nothing changes but the reply slot. -/

namespace Sys2Proof.Machine

/-! ### Codings of single fields -/

/-- A byte is its own number in one byte. -/
@[simp] theorem n8_toNat (x : Byte) : n8 x.toNat = [x] := by simp [n8, leBytes]

/-- The light channels are L12 to L17. -/
theorem isLightChannel_iff {l : LoadId} : isLightChannel l = true ↔ 12 ≤ l.val ∧ l.val < 18 := by simp [isLightChannel]

/-- The entries of a stack with their places, as `zipIdx` pairs them. -/
theorem numberedFrom_eq_zipIdx {α : Type} (n : Nat) (xs : List α) :
    numberedFrom n xs = (xs.zipIdx n).map fun x => (x.2, x.1) := by
  induction xs generalizing n with
  | nil => rfl
  | cons x xs ih => simp [numberedFrom, ih]

/-- The first entry that passes, with its place. -/
theorem find?_zipIdx {α : Type} (f : α → Bool) (n : Nat) (xs : List α) :
    (xs.zipIdx n).find? (fun x => f x.1) = (xs.find? f).bind fun x => (firstIndexFrom (fun _ => f) n xs).map fun i => (x, i) := by
  induction xs generalizing n with
  | nil => rfl
  | cons x xs ih =>
    cases h : f x <;> simp [firstIndexFrom, h, ih]

/-- A passing entry has a place. -/
theorem firstIndexFrom_isSome {α : Type} (f : α → Bool) (n : Nat) (xs : List α) :
    (firstIndexFrom (fun _ => f) n xs).isSome = (xs.find? f).isSome := by
  induction xs generalizing n with
  | nil => rfl
  | cons x xs ih => cases h : f x <;> simp [firstIndexFrom, h, ih]

/-- A flag as a number. -/
theorem toNat_eq_ite (b : Bool) : b.toNat = if b = true then 1 else 0 := by cases b <;> rfl

/-- A flag is sent as 1 when it is set. -/
theorem bit_eq (b : Bool) : bit b = n8 (if b = true then 1 else 0) := congrArg n8 (toNat_eq_ite b)

/-- An optional field, by its value. -/
theorem optField_eq_elim {α : Type} (enc : α → List Byte) (o : Option α) :
    optField enc o = o.elim (n8 0) fun x => n8 1 ++ enc x := by cases o <;> rfl

/-- The capacity of a stack is 32 while joined (R73). -/
theorem stackCapacity_eq (b : BusName) : stackCapacity b = if b = .joined then 32 else 16 := by cases b <;> rfl
/-- The places of bus B's substack begin at 16 (R51). -/
theorem stackBase_eq (b : BusName) : stackBase b = if b = .B then 16 else 0 := by cases b <;> rfl

/-- The place and the cause of a SHED load, from the stack with its places (R71). -/
theorem Part.shedFields_eq (p : Part) (l : LoadId) :
    p.shedFields l = (((p.bus (p.busOf l)).stack.zipIdx (stackBase (p.busOf l))).find? fun y => y.1.load == l).elim []
      fun y => n8 y.2 ++ n8 y.1.cause.code := by
  have hs := firstIndexFrom_isSome (fun e : ShedEntry => e.load == l) (stackBase (p.busOf l)) (p.bus (p.busOf l)).stack
  rw [find?_zipIdx (fun e : ShedEntry => e.load == l)]
  unfold Part.shedFields
  dsimp only
  split
  next place e hp he => simp [hp, he]
  next h =>
    cases hf : (p.bus (p.busOf l)).stack.find? (·.load == l) with
    | none => rfl
    | some e =>
      rw [hf] at hs
      obtain ⟨place, hp⟩ := Option.isSome_iff_exists.1 hs
      exact absurd hf (h place e hp)

/-- The promoted mark that CLM shares, of the load with the role HEATER (R150). -/
theorem Part.heaterPromoted_eq (p : Part) : p.heaterPromoted = (p.params.loadWith .heater).any fun l => (p.load l).promoted := by
  unfold Part.heaterPromoted
  cases p.params.loadWith .heater <;> rfl

/-- A list is sent with its count, entry by entry. -/
theorem listField_congr {α : Type} {f g : α → List Byte} (xs : List α) (h : ∀ x, f x = g x) :
    listField f xs = [n8 xs.length, (xs.map g).flatten].flatten := by
  simp [listField, funext h]

/-! ### Each reading request answers at once, with its payload -/

section
variable {s : State} (hr : s.part.Ready) {x : Byte}
include hr

/-- A reading request takes nothing from the request queue, so its payload is that of the part as it stands. -/
theorem replies_of_read {i : Instr} {r : Request} {f : Part → List Byte} {fields : List Byte} (hi : i.request? = some r)
    (hh : ∀ p : Part, p.handle r = p.answer .ok f) (hq : f (s.part.queued r) = f s.part) (hf : f s.part = fields) :
    Replies i s s.part .ok fields := replies_of_answer hr hi (hh _) (hq.trans hf)

variable {fields : List Byte}

theorem identify_reads (hf : s.part.identifyPayload = fields) : Replies .identify s s.part .ok fields :=
  replies_of_read hr rfl (fun _ => rfl) rfl hf
theorem getCharge_reads (hf : s.part.chargePayload = fields) : Replies .getCharge s s.part .ok fields :=
  replies_of_read hr rfl (fun _ => rfl) rfl hf
theorem flowGet_reads (hf : s.part.flowPayload = fields) : Replies .flowGet s s.part .ok fields :=
  replies_of_read hr rfl (fun _ => rfl) rfl hf
theorem climateGet_reads (hf : s.part.climatePayload = fields) : Replies .climateGet s s.part .ok fields :=
  replies_of_read hr rfl (fun _ => rfl) rfl hf
theorem motionGet_reads (hf : s.part.motionPayload = fields) : Replies .motionGet s s.part .ok fields :=
  replies_of_read hr rfl (fun _ => rfl) rfl hf
theorem getBank_reads {b : Bank} (hb : bankArg x = some b) (hf : s.part.bankPayload b = fields) :
    Replies (.getBank x) s s.part .ok fields :=
  replies_of_read (f := (·.bankPayload b)) hr rfl (fun p => by simp only [Part.handle, Part.getBank, hb]) rfl hf
theorem getBus_reads {b : Bank} (hb : bankArg x = some b) (hf : s.part.busPayload (s.part.busOfBank b) = fields) :
    Replies (.getBus x) s s.part .ok fields :=
  replies_of_read (f := fun q => q.busPayload (q.busOfBank b)) hr rfl
    (fun p => by simp only [Part.handle, Part.getBus, hb]) rfl hf
theorem shedList_reads {b : Bank} (hb : bankArg x = some b) (hf : s.part.stackPayload (s.part.busOfBank b) = fields) :
    Replies (.shedList x) s s.part .ok fields :=
  replies_of_read (f := fun q => q.stackPayload (q.busOfBank b)) hr rfl
    (fun p => by simp only [Part.handle, Part.shedList, hb]) rfl hf
theorem loadGet_reads {l : LoadId} (hl : loadArg x = some l) (hf : s.part.loadPayload l = fields) :
    Replies (.loadGet x) s s.part .ok fields :=
  replies_of_read (f := (·.loadPayload l)) hr rfl (fun p => by simp only [Part.handle, Part.loadGet, hl]) rfl hf
theorem tankGet_reads {t : Tank} (ht : tankArg x = some t) (hf : s.part.tankPayload t = fields) :
    Replies (.tankGet x) s s.part .ok fields :=
  replies_of_read (f := (·.tankPayload t)) hr rfl (fun p => by simp only [Part.handle, Part.tankGet, ht]) rfl hf
theorem outputStatus_reads {cs : List LoadId} (hc : channelsArg x = some cs) (hf : listField s.part.channelPayload cs = fields) :
    Replies (.outputStatus x 0) s s.part .ok fields :=
  replies_of_read (f := fun q => listField q.channelPayload cs) hr rfl
    (fun p => by simp only [Part.handle, Part.outputStatus, hc]; rfl) rfl hf
theorem lineGet_reads {ls : List LineId} (hl : linesArg x = some ls) (hf : listField s.part.linePayload ls = fields) :
    Replies (.lineGet x 0) s s.part .ok fields :=
  replies_of_read (f := fun q => listField q.linePayload ls) hr rfl
    (fun p => by simp only [Part.handle, Part.lineGet, hl]; rfl) rfl hf

/-- READ_PARAM of a page that stands, from a start in it (R205). -/
theorem readParam_reads {page start count : Byte} (hp : page.toNat ≤ 9) (hc : 1 ≤ count.toNat) (hc' : count.toNat ≤ 28)
    (hs : start.toNat < pageLength page.toNat) (hf : s.part.readPayload page.toNat start.toNat count.toNat = fields) :
    Replies (.readParam page start count) s s.part .ok fields :=
  replies_of_read (f := (·.readPayload page.toNat start.toNat count.toNat)) hr rfl
    (fun p => (if_neg (by omega)).trans (if_neg (by omega))) rfl hf

/-- READ_PARAM from a start past its page (R205). -/
theorem readParam_range {page start count : Byte} (hp : page.toNat ≤ 9) (hc : 1 ≤ count.toNat) (hc' : count.toNat ≤ 28)
    (hs : pageLength page.toNat ≤ start.toNat) : Replies (.readParam page start count) s s.part .range [] :=
  replies_of_refuse hr rfl ((if_neg (by omega)).trans (if_pos hs))

end

/-- Settles O20: each request answers with its payload, which is compared with the fields of its rule. -/
theorem readingRequestsOnlyRead : Obligations.ReadingRequestsOnlyRead := by
  intro s page start count b l t x hr
  refine ⟨identify_reads hr ?identify, fun h1 h2 h3 h4 => readParam_reads hr h1 h2 h3 h4 ?read,
    fun h => replies_of_refuse hr rfl (if_pos (by omega)), fun h1 h2 h3 h4 => readParam_range hr h1 h2 h3 h4,
    fun hb => getBank_reads hr hb ?bank, getCharge_reads hr ?charge, fun hb => getBus_reads hr hb ?bus,
    fun hb => shedList_reads hr hb ?shedList, fun hl => loadGet_reads hr hl ?load, fun ht => tankGet_reads hr ht ?tank,
    flowGet_reads hr ?flow, climateGet_reads hr ?climate, motionGet_reads hr ?motion,
    fun cs hc => outputStatus_reads hr hc ?outputs, fun ls hl => lineGet_reads hr hl ?lines⟩
  case identify => simp [Part.identifyPayload, Lnk.rate, Part.progressStates]
  case read => simp [Part.readPayload]
  case bank =>
    delta Part.bankPayload
    simp only [BankRec.flags, List.flatten_cons, List.flatten_nil, List.append_nil, List.append_assoc]
  case charge =>
    delta Part.chargePayload Part.sourcesPayload
    simp only [Part.chargeState, Part.chargeHoldOff, Part.shoreHoldOff, Part.solarHoldOff, Part.splitHoldOff, twoWay,
      toNat_eq_ite, secondsLeft, encodeFin, encodeStatus, optField_eq_elim,
      List.flatten_cons, List.flatten_nil, List.append_nil, List.append_assoc]
  case bus =>
    delta Part.busPayload
    simp only [twoWay, secondsLeft, listField, List.flatten_cons, List.flatten_nil, List.append_nil, List.append_assoc]
    rfl
  case shedList =>
    simp only [Part.stackPayload, Part.stackEntry, twoWay, listField, encodeFin, numberedFrom_eq_zipIdx, stackCapacity_eq,
      stackBase_eq, ← List.map_reverse, List.map_map, List.length_map, List.length_reverse, List.length_zipIdx,
      Function.comp_def, List.flatten_cons, List.flatten_nil, List.append_nil, List.append_assoc]
  case load =>
    delta Part.loadPayload
    cases hs : (s.part.load l).state <;>
      simp [twoWay, encodeFin, isLightChannel_iff, hs, Part.shedFields_eq, stackBase_eq, optField_eq_elim]
    cases ((s.part.bus (s.part.busOf l)).stack.zipIdx (if s.part.busOf l = .B then 16 else 0)).find? (·.1.load == l) <;> rfl
  case tank =>
    cases t <;> simp [Part.tankPayload, twoWay, encodeFin, tankRole, listField, tankThreshold, Pages.lowThreshold,
      Pages.fullThreshold, optField_eq_elim]
  case flow =>
    delta Part.flowPayload
    simp only [twoWay, encodeFin, encodeStatus, Pages.volumePerPulse, Pages.runningThreshold, Pages.dryMs, optField_eq_elim,
      Nat.mul_div_cancel _ (show 0 < 1000 by decide), List.flatten_cons, List.flatten_nil, List.append_nil, List.append_assoc]
  case climate =>
    delta Part.climatePayload Part.thermostatPayload Part.guardPayload
    simp only [twoWay, encodeFin, encodeStatus, secondsLeft, bit_eq, Part.heaterPromoted_eq, Part.valveState, optField_eq_elim,
      List.flatten_cons, List.flatten_nil, List.append_nil, List.append_assoc]
  case motion =>
    simp only [Part.motionPayload, Part.axisPayload, twoWay, Part.positionFields, Part.axisTarget, Mot.runningTimeout,
      Mot.waitsBackoff, optField_eq_elim, encodeActive, encodePending, reduceCtorEq, if_true, if_false,
      List.flatten_cons, List.flatten_nil, List.append_nil, List.append_assoc]
    rfl
  case outputs =>
    refine listField_congr cs fun c => ?_
    simp [Part.channelPayload, isLightChannel_iff, twoWay, bit_eq, OutLatches.bits]
  case lines =>
    refine listField_congr ls fun m => ?_
    delta Part.linePayload
    simp only [bit, LineLatches.bits, List.append_assoc, List.append_cancel_left_eq]
    refine congrArg₂ (· ++ ·) ?learned (congrArg₂ (· ++ ·) ?value (congrArg (· ++ _) ?mode))
    case learned => cases s.part.params.adaptive m <;> simp [optField]
    case value =>
      cases (s.part.line m).value with
      | none => rfl
      | some v => cases v <;> simp [optField, encodeLineValue]
    case mode => cases s.part.params.lineMode m <;> simp [LineRec.modeFields, twoWay]

end Sys2Proof.Machine
end

section
/-! PROOFS. The resets (R192 and the reset rules of the chapters): what every reset keeps, what a PIN or SOFT reset keeps besides,
and that the part after a reset is settled and within its bounds. -/

namespace Sys2Proof.Machine

/-! ### What every reset keeps (R192) -/

/-- After a reset no report waits, STARTED is being sent and the dry timer rests. -/
theorem Part.resetCommon_settled (p : Part) (k : ResetKind) : (p.resetCommon k).Settled :=
  ⟨rfl, fun h => by simp [Part.resetCommon] at h, fun _ => rfl⟩

/-- The drivers' standing reports of the channels outlast a reset (R98). -/
theorem Part.resetCommon_chan (p : Part) (k : ResetKind) (c : LoadId) :
    (p.resetCommon k).chan c = { Channel.reset with backfeedStands := (p.chan c).backfeedStands } := by
  simp [Part.resetCommon, Part.keepReports, Part.chan, Part.reset, Out.reset]

/-- The line voltage over the rail outlasts a reset (R124). -/
theorem Part.resetCommon_line (p : Part) (k : ResetKind) (s : LineId) :
    (p.resetCommon k).line s = { LineRec.reset with overRail := (p.line s).overRail } := by
  simp [Part.resetCommon, Part.keepReports, Part.line, Part.reset, Sli.reset]

theorem Part.resetCommon_load (p : Part) (k : ResetKind) (l : LoadId) : (p.resetCommon k).load l = LoadRec.reset := by
  simp [Part.resetCommon, Part.keepReports, Part.load, Part.reset, Ldm.reset]

theorem Part.resetCommon_bus (p : Part) (k : ResetKind) (b : BusName) : (p.resetCommon k).bus b = BusRec.reset := by
  cases b <;> rfl

/-- But for the channels the Output Monitor is at its reset state, with the groups' standing warnings (R98). -/
theorem Part.resetCommon_out (p : Part) (k : ResetKind) (cs : Vector Channel 20) :
    { (p.resetCommon k).out with channels := cs } = { Out.reset with groupHot := p.out.groupHot, channels := cs } := by
  simp only [Part.resetCommon, Part.keepReports, Part.reset]

/-- The channels of the Output Monitor after a reset, as one vector. -/
theorem Part.resetCommon_channels (p : Part) (k : ResetKind) : (p.resetCommon k).out.channels =
    Vector.ofFn fun c => { Channel.reset with backfeedStands := (p.chan c).backfeedStands } :=
  Vector.ext fun i hi => by simpa [Part.chan] using p.resetCommon_chan k ⟨i, hi⟩

/-- The lines of the Sensor Line Interface after a reset, as one vector. -/
theorem Part.resetCommon_lines (p : Part) (k : ResetKind) : (p.resetCommon k).sli.lines =
    Vector.ofFn fun s => { LineRec.reset with overRail := (p.line s).overRail } :=
  Vector.ext fun i hi => by simpa [Part.line] using p.resetCommon_line k ⟨i, hi⟩

/-! ### The POWER reset (R24, R43, R77, R98, R124, R141, R161, R178, R188, R200, R212) -/

/-- An empty list agrees with loads that are all OFF. -/
theorem listsAgree_of_off {p : Part} (hl : ∀ l, (p.load l).state = .off) (hb : ∀ b, (p.bus b).onList = [] ∧ (p.bus b).stack = []) :
    ListsAgree p := by
  intro b _
  obtain ⟨ho, hs⟩ := hb b
  simp [ho, hs, hl]

/-- The default pages have their lengths. -/
theorem pagesOk_default : PagesOk defaultPages := by
  refine ⟨by simp [defaultPages], fun page h => ?_⟩
  simp [defaultPages, h]

/-- Settles O13: the POWER reset is what every reset does, and the rest follows from the records of the reset state. -/
theorem powerResetRestoresEveryBlock : Obligations.PowerResetRestoresEveryBlock := by
  refine ⟨fun s => ⟨⟨s.part.resetCommon .power, s.pending⟩, ?_, rfl, ?_⟩, ?settled, ?bounds, ?lists⟩
  · show Host.Outcome.next _ = _
    simp only [Part.resetPower, Part.finish_of_settled (s.part.resetCommon_settled .power)]
  · rw [← s.part.resetCommon_channels .power, ← s.part.resetCommon_lines .power]
    rfl
  case settled => exact ⟨rfl, fun h => by simp [State.reset, Part.reset, Lnk.reset] at h, fun _ => rfl⟩
  case bounds =>
    exact ⟨⟨by simp [State.reset, Part.reset, Lnk.reset], .nil⟩, by simp [State.reset, Part.reset, Lnk.reset],
      ⟨by simp [State.reset, Part.reset, Out.reset], .nil⟩, pagesOk_default, pagesOk_default, rfl⟩
  case lists =>
    exact listsAgree_of_off (by simp [State.reset, Part.load, Part.reset, Ldm.reset, LoadRec.reset])
      (by rintro (_ | _ | _) <;> exact ⟨rfl, rfl⟩)

/-! ### The settings-dependent values (log 31) -/

/-- The learned values of lines are initialized, line by line (R103); nothing else changes. -/
theorem Part.foldl_initial (p : Part) (ls : List LineId) : ∃ lines,
    ls.foldl (fun q s => q.setLine s ((q.line s).initial q.params s)) p = { p with sli := { p.sli with lines := lines } } ∧
      ∀ s : LineId, lines[s] = if s ∈ ls then (p.line s).initial p.params s else p.line s := by
  induction ls generalizing p with
  | nil => exact ⟨p.sli.lines, rfl, fun s => rfl⟩
  | cons s ls ih =>
    obtain ⟨lines, e, h⟩ := ih (p.setLine s ((p.line s).initial p.params s))
    refine ⟨lines, by rw [List.foldl_cons, e]; rfl, fun s' => ?_⟩
    rw [h s']
    by_cases hs : s' = s
    · subst hs
      simp [LineRec.initial, LineRec.derived]
    · simp [hs, Part.line_setLine_of_ne _ _ hs]

/-- The values that follow from the settings, and nothing else, are formed anew (R43, R124, R141, R161). -/
theorem Part.settingsValues_eq (p : Part) : ∃ lines,
    p.settingsValues = { p with
      chg := { p.chg with coldInhibit := inhibitAtReset p.params.chemistry, pad := p.padAtReset }
      wat := { p.wat with
        fresh := p.tankAtReset .fresh, grey := p.tankAtReset .grey, pump := p.pumpAtReset, dumped := p.clm.guard == .dumped }
      clm := { p.clm with heater := p.heaterAtReset }
      sli := { p.sli with lines := lines } } ∧
    ∀ s : LineId, lines[s] = (p.line s).initial p.params s := by
  obtain ⟨lines, e, h⟩ := Part.foldl_initial { p with
    chg := { p.chg with coldInhibit := inhibitAtReset p.params.chemistry, pad := p.padAtReset }
    wat := { p.wat with
      fresh := p.tankAtReset .fresh, grey := p.tankAtReset .grey, pump := p.pumpAtReset, dumped := p.clm.guard == .dumped }
    clm := { p.clm with heater := p.heaterAtReset } } (List.finRange 6)
  exact ⟨lines, e, fun s => (h s).trans (if_pos (List.mem_finRange s))⟩

/-- The line record of R124 under the learned values of R103. -/
theorem LineRec.initial_reset (ps : Pages) (s : LineId) (v : Int) :
    ({ LineRec.reset with overRail := v }).initial ps s =
      let base := ps.lineField s 7
      let t1 := 40 + ps.lineField s 5
      let t2 := t1 + 40 + ps.lineField s 6
      { LineRec.reset with
        overRail := v, ib := base
        thr := if ps.adaptive s = true then ⟨base + 35, base + 105, base + 27, base + 97⟩ else ⟨t1, t2, t1 - 8, t2 - 8⟩ } := by
  have h (n : Nat) (m : Int) (k : Nat) (hm : m = k) : ((n : Int) + m).toNat = n + k := by omega
  cases hs : ps.adaptive s
  · simp [LineRec.initial, LineRec.derived, fixedThresholds, hs, LineRec.reset]
  · simp only [LineRec.initial, LineRec.derived, hs, adaptiveThresholds, LineRec.reset, if_true]
    congr 1
    simp only [Thresholds.mk.injEq]
    refine ⟨?_, ?_, ?_, ?_⟩ <;> simp <;> omega

/-- With no load FAULTED the units' states of a reset go by their roles alone (R43, R141, R161). -/
theorem Part.unitsAtReset {p : Part} (h : ∀ l, (p.load l).state ≠ .faulted) :
    p.padAtReset = (if p.params.loadWith .battPad = none then .noPad else .idle) ∧
    p.pumpAtReset = (if p.params.loadWith .pump = none then .noPump else .off) ∧
    p.heaterAtReset = (if p.params.loadWith .heater = none then .noHeater else .idle) := by
  refine ⟨?_, ?_, ?_⟩
  · unfold Part.padAtReset; split <;> simp_all [Part.loadFaulted]
  · unfold Part.pumpAtReset; split <;> simp_all [Part.loadFaulted]
  · unfold Part.heaterAtReset; split <;> simp_all [Part.loadFaulted]

/-- A tank at a reset waits for its level, or has no line (R141). -/
theorem Part.tankAtReset_of_reset {p : Part} {t : Tank} (h : p.tank t = TankRec.reset) : p.tankAtReset t =
    { TankRec.reset with levelState := if p.params.lineWith (tankRole t) = none then .none else .waiting } := by
  unfold Part.tankAtReset
  rw [h]
  cases p.params.lineWith (tankRole t) <;> rfl

theorem inhibitAtReset_eq (c : Chemistry) : inhibitAtReset c = if c = .lithium then some .unknown else none := by
  cases c <;> rfl

/-! ### The PIN and SOFT resets -/

/-- The frost valve load that is ON, by R77's two conditions. -/
theorem Part.valveLoadOn_eq_some {p : Part} {l : LoadId} : p.valveLoadOn = some l ↔ p.keptValve l := by
  unfold Part.valveLoadOn Part.keptValve
  split
  next l' h => split <;> simp_all <;> rintro rfl <;> simp_all
  next h => simp [h]

/-- A PIN or SOFT reset before the frost valve and the settings are looked at: every reset's work, and what R25, R141, R161 and R200
keep. -/
def Part.warmKept (p : Part) (k : ResetKind) : Part :=
  let q := p.resetCommon k
  { q with
    params := p.params
    bnk := ⟨p.bnk.a.kept, p.bnk.b.kept, none⟩
    wat := { q.wat with total := p.wat.total, remainder := p.wat.remainder }
    clm := { q.clm with guard := p.clm.guard, riskTimer := p.clm.riskTimer }
    mdc := { q.mdc with resume := p.mdc.resume, valveOn := p.valveLoadOn.isSome } }

/-- The part with the frost valve kept, if one is ON (R77, R98). -/
def Part.valveKept (p : Part) (k : ResetKind) : Part :=
  match p.valveLoadOn with
  | some l => (p.warmKept k).keepValve l (p.chan l).zero (p.chan l).zeroSat
  | none => p.warmKept k

/-- The PIN or SOFT reset in its three stages. -/
theorem Part.resetWarm_eq (p : Part) (k : ResetKind) : p.resetWarm k = (p.valveKept k).settingsValues := rfl

/-- Keeping a valve changes load, bus and channel records alone. -/
theorem Part.keepValve_cases (p : Part) (l : LoadId) (zero : Int) (zeroSat : Bool) : ∃ (d : Ldm) (cs : Vector Channel 20),
    p.keepValve l zero zeroSat = { p with ldm := d, out := { p.out with channels := cs } } ∧
      d.restoreTimer = p.ldm.restoreTimer := by
  unfold Part.keepValve Part.seatValve Part.setBus Part.setLoad
  dsimp only
  split <;> exact ⟨_, _, rfl, rfl⟩

/-- The kept frost valve stands in the load, bus and channel records alone. -/
theorem Part.valveKept_cases (p : Part) (k : ResetKind) : ∃ (d : Ldm) (cs : Vector Channel 20),
    p.valveKept k = { p.warmKept k with ldm := d, out := { (p.warmKept k).out with channels := cs } } ∧
      d.restoreTimer = (p.warmKept k).ldm.restoreTimer := by
  unfold Part.valveKept
  generalize p.warmKept k = q
  split
  · exact q.keepValve_cases ..
  · exact ⟨_, _, rfl, rfl⟩

/-- The loads after the reset: the kept frost valve ON, the others as at a POWER reset (R77). -/
theorem Part.valveKept_load (p : Part) (k : ResetKind) (l : LoadId) :
    (p.keptValve l → (p.valveKept k).load l = { LoadRec.reset with state := .on }) ∧
    (¬ p.keptValve l → (p.valveKept k).load l = LoadRec.reset) := by
  have hb : (p.warmKept k).load l = LoadRec.reset := p.resetCommon_load k l
  unfold Part.valveKept
  split
  next l' h =>
    have hl : ((p.warmKept k).keepValve l' (p.chan l').zero (p.chan l').zeroSat).load l =
        ((p.warmKept k).setLoad l' { LoadRec.reset with state := .on }).load l := by
      simp [Part.keepValve, Part.seatValve]
    rw [hl, ← Part.valveLoadOn_eq_some, h]
    by_cases e : l = l'
    · subst e; simp
    · simp [Part.load_setLoad_of_ne _ _ e, hb, Ne.symm e]
  next h => simp [← Part.valveLoadOn_eq_some, h, hb]

/-- The channels after the reset: the kept frost valve ON with its zero offset (R86, R98). -/
theorem Part.valveKept_chan (p : Part) (k : ResetKind) (c : LoadId) :
    (p.keptValve c → (p.valveKept k).chan c = { Channel.reset with
      switching := .on, zero := (p.chan c).zero, zeroSat := (p.chan c).zeroSat, calTakes := false
      backfeedStands := (p.chan c).backfeedStands }) ∧
    (¬ p.keptValve c → (p.valveKept k).chan c = { Channel.reset with backfeedStands := (p.chan c).backfeedStands }) := by
  have hb (c) : (p.warmKept k).chan c = { Channel.reset with backfeedStands := (p.chan c).backfeedStands } :=
    p.resetCommon_chan k c
  unfold Part.valveKept
  split
  next l' h =>
    rw [← Part.valveLoadOn_eq_some, h]
    by_cases e : c = l'
    · subst e; simp [Part.keepValve, Part.seatValve, hb]
    · simp [Part.keepValve, Part.seatValve, Part.chan_setChan_of_ne _ _ e, hb, Ne.symm e]
  next h => simp [← Part.valveLoadOn_eq_some, h, hb]

/-- A kept valve is put alone on its bus, whatever stood there (R77). -/
theorem Part.keepValve_bus (p : Part) (l : LoadId) (zero : Int) (zeroSat : Bool) (b : BusName) :
    (p.keepValve l zero zeroSat).bus b = if b = p.busOf l then { p.bus b with onList := [l] } else p.bus b := by
  have hb (r : LoadRec) : (p.setLoad l r).busOf l = p.busOf l := rfl
  simp only [Part.keepValve, Part.setChan_bus_read, Part.seatValve, hb, Part.setLoad_bus_read]
  by_cases h : b = p.busOf l
  · subst h; simp
  · rw [if_neg h, Part.bus_setBus_of_ne _ _ h, Part.setLoad_bus_read]

/-- The buses after the reset: the kept frost valve alone on its home bus (R77). -/
theorem Part.valveKept_bus (p : Part) (k : ResetKind) (b : BusName) :
    (∀ l, p.keptValve l → b = (p.warmKept k).busOf l → (p.valveKept k).bus b = { BusRec.reset with onList := [l] }) ∧
    ((∀ l, p.keptValve l → b ≠ (p.warmKept k).busOf l) → (p.valveKept k).bus b = BusRec.reset) := by
  have hb : (p.warmKept k).bus b = BusRec.reset := p.resetCommon_bus k b
  simp only [← Part.valveLoadOn_eq_some]
  unfold Part.valveKept
  cases p.valveLoadOn with
  | none => simp [hb]
  | some l =>
    simp only [Option.some.injEq, forall_eq', Part.keepValve_bus, hb]
    exact ⟨fun e => if_pos e, fun e => if_neg e⟩

/-- After a reset the tie is SPLIT, and each bank has its own bus (R43, R48). -/
theorem Part.warmKept_busOfBank (p : Part) (k : ResetKind) (b : Bank) :
    (p.warmKept k).busOfBank b = match b with | .A => BusName.A | .B => .B := by cases b <;> rfl

/-- What a PIN or SOFT reset leaves of the part (R192). -/
theorem Part.resetWarm_after (p : Part) (k : ResetKind) : AfterWarmReset p k (p.resetWarm k) := by
  obtain ⟨d, cs, hv, hd⟩ := p.valveKept_cases k
  obtain ⟨lines, hs, hl⟩ := (p.valveKept k).settingsValues_eq
  have hnf (l : LoadId) : ((p.valveKept k).load l).state ≠ .faulted := by
    obtain ⟨hon, hoff⟩ := p.valveKept_load k l
    by_cases h : p.keptValve l
    · simp [hon h]
    · simp [hoff h, LoadRec.reset]
  obtain ⟨hpad, hpump, hheater⟩ := Part.unitsAtReset hnf
  have hps : (p.valveKept k).params = p.params := by rw [hv]; rfl
  rw [hps] at hpad hpump hheater
  have htank (t : Tank) : (p.valveKept k).tank t = TankRec.reset := by rw [hv]; cases t <;> rfl
  have hbus (b : Bank) : (p.resetWarm k).busOfBank b = (p.warmKept k).busOfBank b := by
    rw [Part.resetWarm_eq, hs, hv]; rfl
  have hinj {b b' : Bank} (e : (p.warmKept k).busOfBank b = (p.warmKept k).busOfBank b') : b = b' := by
    rw [Part.warmKept_busOfBank, Part.warmKept_busOfBank] at e
    cases b <;> cases b' <;> simp_all
  rw [Part.resetWarm_eq, hs] at hbus ⊢
  exact {
    uptime := by rw [hv]; exact ⟨rfl, rfl⟩
    outbox := by rw [hv]; rfl
    params := hps
    bank := by rw [hv]; rintro (_ | _) <;> rfl
    zeroing := by rw [hv]; rfl
    charge := by
      dsimp only
      rw [hpad, hps, inhibitAtReset_eq, hv]; rfl
    keptLoad := fun l => (p.valveKept_load k l).1
    otherLoad := fun l => (p.valveKept_load k l).2
    keptBus := fun l h => (p.valveKept_bus k _).1 l h (hbus _)
    otherBus := fun b h => (p.valveKept_bus k _).2 fun l hl e => h l hl (hinj (e.symm.trans (hbus b)))
    joinedBus := (p.valveKept_bus k .joined).2 fun l _ e => by
      rw [Part.busOf, Part.warmKept_busOfBank] at e
      split at e <;> contradiction
    restoreTimer := by rw [hv]; exact hd
    outputs := by rw [hv]; exact p.resetCommon_out k cs
    keptChannel := fun c => (p.valveKept_chan k c).1
    otherChannel := fun c => (p.valveKept_chan k c).2
    sensors := by rw [hv]; rfl
    lines := fun s => by
      refine (hl s).trans ?_
      rw [hps, ← LineRec.initial_reset, ← p.resetCommon_line k, hv]
      rfl
    water := by
      dsimp only
      rw [hpump, Part.tankAtReset_of_reset (htank .fresh), Part.tankAtReset_of_reset (htank .grey), hps, hv, beq_eq_decide]
      rfl
    climate := by
      dsimp only
      rw [hheater, hv]; rfl
    motion := by rw [hv]; rfl
    lights := by rw [hv]; rfl
    valveOn := by
      rw [hv]
      show p.valveLoadOn.isSome = true ↔ _
      simp only [Option.isSome_iff_exists, Part.valveLoadOn_eq_some]
    modes := by rw [hv]; rfl
    link := by rw [hv]; rfl }

/-- The part after a PIN or SOFT reset is settled: STARTED is being sent and the dry timer rests. -/
theorem AfterWarmReset.settled {p q : Part} {k : ResetKind} (h : AfterWarmReset p k q) : q.Settled :=
  ⟨h.outbox, fun e => by simp [h.link] at e, fun _ => by rw [h.water]; rfl⟩

/-- RESET marks the coming reset and answers (R209). -/
theorem resetRequest_replies {s : State} (h : s.part.Ready) :
    Replies .resetRequest s { s.part with lnk := { s.part.lnk with resetPending := true } } .ok [] := by
  have ⟨ho, _, hq, hf, _⟩ := h
  have hr := replies_of_handle (i := .resetRequest) (r := .reset) (payload := fun _ => [])
    (e := { s.part with lnk := { s.part.lnk with requests := [.reset], resetPending := true } }) h rfl rfl ho rfl hf
  simpa only [← hq] using hr

/-- Settles O14: RESET by its handling, the PIN reset by the stages of `resetWarm`. -/
theorem warmResetsKeepWhatTheyMay : Obligations.WarmResetsKeepWhatTheyMay := by
  refine ⟨fun s => resetRequest_replies, fun s => ⟨⟨s.part.resetWarm .pin, s.pending⟩, ?_, rfl, s.part.resetWarm_after .pin⟩⟩
  show Host.Outcome.next _ = _
  simp only [Part.resetPart, Part.finish_of_settled (s.part.resetWarm_after .pin).settled]

end Sys2Proof.Machine
end

section
/-! PROOFS. What the work of the blocks leaves unchanged. Most operations change the Load Manager, the outputs, the units over them
and the battery pad, and post notices of their own kinds: settings, banks, lines, Mode Control, the charge outputs and the link but
for its notices stand (`Part.BlockWork`). The work of a mode change reaches the charge outputs and the lines as well
(`Part.ModeWork`). Each operation has one lemma, which follows its definition. -/

namespace Sys2Proof.Machine

/-! ### Posted notices (R211) -/

/-- The notices that blocks post of their own work: every kind but STARTED and MODE, and no CHARGE notice of the tie relay. -/
def OwnNotice : NoticeKind → Nat → Prop
  | .started, _ => False
  | .mode, _ => False
  | .charge, subject => subject < 5
  | _, _ => True

/-- A notice queue after some of the blocks' own postings, under the mask of the settings. -/
inductive Posted (ps : Pages) (q : List Notice) : List Notice → Prop
  | none : Posted ps q q
  | post {q' : List Notice} {n : Notice} :
    Posted ps q q' → noticeEnabled ps n.kind = true → OwnNotice n.kind n.subject → Posted ps q (enqueueNotice q' n).1

theorem Posted.trans {ps : Pages} {a b c : List Notice} (h : Posted ps a b) (k : Posted ps b c) : Posted ps a c := by
  induction k with
  | none => exact h
  | post _ he ho ih => exact ih.post he ho

/-- A posting leaves a notice of another kind or subject where it is. -/
theorem mem_enqueueNotice_of_other {q : List Notice} {n m : Notice} (h : m ∈ q) (hn : m.isFor n.kind n.subject = false) :
    m ∈ (enqueueNotice q n).1 := by
  unfold enqueueNotice
  split
  · exact List.mem_map.2 ⟨m, h, by simp [hn]⟩
  · split
    · exact List.mem_append_left _ h
    · exact h

/-- A posting into a queue that has room stands in the queue. -/
theorem mem_enqueueNotice {q : List Notice} {n : Notice} (h : q.length < 16) : n ∈ (enqueueNotice q n).1 := by
  unfold enqueueNotice
  split
  next ha =>
    obtain ⟨m, hm, e⟩ := List.any_eq_true.1 ha
    exact List.mem_map.2 ⟨m, hm, by simp [e]⟩
  next => simp

/-- The notice of the tie relay outlasts the blocks' own postings. -/
theorem Posted.mem_tie {ps : Pages} {q q' : List Notice} (h : Posted ps q q') {d : List Byte} (hm : ⟨.charge, 5, d⟩ ∈ q) :
    ⟨.charge, 5, d⟩ ∈ q' := by
  induction h with
  | none => exact hm
  | @post q' n _ _ ho ih =>
    refine mem_enqueueNotice_of_other ih ?_
    obtain ⟨k, s, d'⟩ := n
    cases k <;> simp [Notice.isFor]
    simp only [OwnNotice] at ho
    omega

/-- Under a mask that lets nothing but MODE through, the blocks' own work posts nothing. -/
theorem Posted.eq_of_mask {ps : Pages} {q q' : List Notice} (h : Posted ps q q')
    (hm : ∀ k, noticeEnabled ps k = true → k = .started ∨ k = .mode) : q' = q := by
  induction h with
  | none => rfl
  | post _ he ho ih => rcases hm _ he with e | e <;> simp [e, OwnNotice] at ho

/-- A queue of CHARGE notices of different subjects below 5, as the blocks' own work leaves it under a mask for CHARGE. -/
def OwnCharge (q : List Notice) : Prop := (q.map Notice.subject).Nodup ∧ ∀ n ∈ q, n.kind = .charge ∧ n.subject < 5

theorem OwnCharge.length_le {q : List Notice} (h : OwnCharge q) : q.length ≤ 5 := by
  obtain ⟨hd, hk⟩ := h
  have hs : q.map Notice.subject ⊆ List.range 5 := fun x hx => by
    obtain ⟨n, hn, rfl⟩ := List.mem_map.1 hx
    exact List.mem_range.2 (hk n hn).2
  simpa using (List.subperm_of_subset hd hs).length_le

theorem OwnCharge.enqueue {q : List Notice} (h : OwnCharge q) {n : Notice} (hk : n.kind = .charge) (hs : n.subject < 5) :
    OwnCharge (enqueueNotice q n).1 := by
  obtain ⟨hd, hq⟩ := h
  cases hp : q.any (Notice.isFor n.kind n.subject) with
  | true =>
    rw [enqueueNotice_of_present hp]
    constructor
    · have e := congrArg (List.map Prod.snd) (enqueueNotice_kinds (q := q) (n := n))
      simp only [List.map_map] at e
      simpa [Function.comp_def] using e ▸ hd
    · intro m hm
      obtain ⟨m', hm', rfl⟩ := List.mem_map.1 hm
      split
      · exact ⟨hk, hs⟩
      · exact hq m' hm'
  | false =>
    rw [enqueueNotice_of_absent hp]
    split
    next =>
      refine ⟨?_, fun m hm => ?_⟩
      · rw [List.map_append, List.nodup_append]
        refine ⟨hd, by simp, fun a ha b hb e => ?_⟩
        obtain ⟨m, hm, rfl⟩ := List.mem_map.1 ha
        have := List.any_eq_false.1 hp m hm
        simp [Notice.isFor, (hq m hm).1, hk] at this
        simp_all
      · rcases List.mem_append.1 hm with h | h
        · exact hq m h
        · obtain rfl := List.mem_singleton.1 h
          exact ⟨hk, hs⟩
    next => exact ⟨hd, hq⟩

/-- Under a mask that lets nothing but CHARGE through, the blocks' own work leaves at most one CHARGE notice of a subject. -/
theorem Posted.ownCharge {ps : Pages} {q q' : List Notice} (h : Posted ps q q')
    (hm : ∀ k, noticeEnabled ps k = true → k = .started ∨ k = .charge) (hq : OwnCharge q) : OwnCharge q' := by
  induction h with
  | none => exact hq
  | @post q' n _ he ho ih =>
    obtain ⟨k, s, d⟩ := n
    rcases hm _ he with e | e <;> simp only at e <;> subst e
    · exact ho.elim
    · exact ih.enqueue rfl ho

/-! ### The two frames -/

/-- The fields that the blocks' work is about, as one tuple. -/
def Part.kept (p : Part) := (p.params, p.bnk, p.sli, p.mdc, p.chg, p.lnk)

/-- The work of the blocks from `p` to `q`. -/
structure Part.BlockWork (p q : Part) : Prop where
  params : q.params = p.params
  bnk : q.bnk = p.bnk
  sli : q.sli = p.sli
  mdc : q.mdc = p.mdc
  chg : ∃ st retry, q.chg = { p.chg with pad := st, padRetry := retry }
  lnk : ∃ ns lost, q.lnk = { p.lnk with notices := ns, noticeLost := lost } ∧ Posted p.params p.lnk.notices ns

/-- The work of the blocks at a change of the mode, from `p` to `q`: it may reach the charge outputs and the lines. -/
structure Part.ModeWork (p q : Part) : Prop where
  params : q.params = p.params
  bnk : q.bnk = p.bnk
  mdc : q.mdc = p.mdc
  tie : q.chg.tieRelay = p.chg.tieRelay
  hold : q.chg.calHold = p.chg.calHold
  /-- With LEAD no inhibit comes to stand, so that the charge outputs stay (R34). -/
  lead : p.params.chemistry = .lead → p.chg.coldInhibit = none →
    q.chg.coldInhibit = none ∧ q.chg.shoreEnable = p.chg.shoreEnable ∧ q.chg.solarEnable = p.chg.solarEnable ∧
      q.chg.splitClosed = p.chg.splitClosed
  lnk : ∃ ns lost, q.lnk = { p.lnk with notices := ns, noticeLost := lost } ∧ Posted p.params p.lnk.notices ns

namespace Part.BlockWork

variable {r p q : Part}

theorem refl (p : Part) : p.BlockWork p := ⟨rfl, rfl, rfl, rfl, ⟨_, _, rfl⟩, _, _, rfl, .none⟩

theorem trans (h : r.BlockWork p) (k : p.BlockWork q) : r.BlockWork q := by
  obtain ⟨hp, hb, hs, hm, ⟨_, _, hc⟩, _, _, hl, hn⟩ := h
  obtain ⟨kp, kb, ks, km, ⟨_, _, kc⟩, _, _, kl, kn⟩ := k
  refine ⟨kp.trans hp, kb.trans hb, ks.trans hs, km.trans hm, ⟨_, _, by rw [kc, hc]⟩, _, _, by rw [kl, hl], hn.trans ?_⟩
  rw [hp, hl] at kn
  exact kn

/-- A change of the records of the other blocks alone. -/
theorem other (h : r.BlockWork p) (e : q.kept = p.kept) : r.BlockWork q := by
  simp only [Part.kept, Prod.mk.injEq] at e
  obtain ⟨e1, e2, e3, e4, e5, e6⟩ := e
  obtain ⟨h1, h2, h3, h4, h5, h6⟩ := h
  exact ⟨e1.trans h1, e2.trans h2, e3.trans h3, e4.trans h4, e5 ▸ h5, e6 ▸ h6⟩


/-! ### One record of a block, one notice -/

theorem setLoad (h : r.BlockWork p) (l : LoadId) (x : LoadRec) : r.BlockWork (p.setLoad l x) := h.other rfl

theorem setBus (h : r.BlockWork p) (b : BusName) (x : BusRec) : r.BlockWork (p.setBus b x) := by
  cases b <;> exact h.other rfl

theorem setChan (h : r.BlockWork p) (c : LoadId) (x : Channel) : r.BlockWork (p.setChan c x) := h.other rfl

theorem setTank (h : r.BlockWork p) (t : Tank) (x : TankRec) : r.BlockWork (p.setTank t x) := by
  cases t <;> exact h.other rfl

theorem setAxis (h : r.BlockWork p) (a : Axis) (x : AxisRec) : r.BlockWork (p.setAxis a x) := by
  cases a <;> exact h.other rfl

theorem setLight (h : r.BlockWork p) (c : LightId) (x : LightRec) : r.BlockWork (p.setLight c x) := h.other rfl

theorem report (h : r.BlockWork p) (x : Report) : r.BlockWork (p.report x) := h.other rfl

/-- A posting of a block's own. -/
theorem post (h : r.BlockWork p) {k : NoticeKind} {n : Nat} (d : List Byte) (ho : OwnNotice k n) :
    r.BlockWork (p.post k n d) := by
  refine h.trans ?_
  unfold Part.post
  split
  next he => exact ⟨rfl, rfl, rfl, rfl, ⟨_, _, rfl⟩, _, _, rfl, Posted.none.post he ho⟩
  next => exact refl p

theorem postLoad (h : r.BlockWork p) (l : LoadId) (c : LoadCause) : r.BlockWork (p.postLoad l c) := h.post _ trivial

theorem postDepth (h : r.BlockWork p) (b : BusName) : r.BlockWork (p.postDepth b) := h.post _ trivial

theorem postHeater (h : r.BlockWork p) : r.BlockWork p.postHeater := h.post _ trivial

theorem postMotion (h : r.BlockWork p) (a : Axis) (x : MotionResult) : r.BlockWork (p.postMotion a x) := h.post _ trivial

theorem postTank (h : r.BlockWork p) (t : Tank) (c : TankCause) : r.BlockWork (p.postTank t c) := h.post _ trivial

theorem postFrost (h : r.BlockWork p) (g : GuardState) (c : FrostCause) : r.BlockWork (p.postFrost g c) := h.post _ trivial

/-! ### The outputs (R78 to R83) -/

theorem arbiter (h : r.BlockWork p) : r.BlockWork p.arbiter := by
  obtain ⟨o, e, _⟩ := p.arbiter_cases
  exact h.other (by rw [e]; rfl)

theorem orderOff (h : r.BlockWork p) (c : LoadId) : r.BlockWork (p.orderOff c) := by
  obtain ⟨o, e, _⟩ := p.orderOff_cases c
  exact h.other (by rw [e]; rfl)

theorem orderOn (h : r.BlockWork p) (c : LoadId) : r.BlockWork (p.orderOn c) := by
  rcases p.orderOn_cases c with ⟨o, e, _⟩ | ⟨_, e⟩
  · exact h.other (by rw [e]; rfl)
  · exact e ▸ h.report _

theorem setDuty (h : r.BlockWork p) (c : LoadId) (n : Nat) : r.BlockWork (p.setDuty c n) := h.setChan c _

/-! ### The lights over their outputs (R179 to R182) -/

theorem setPresent (h : r.BlockWork p) (c : LightId) (n : Nat) : r.BlockWork (p.setPresent c n) := by
  obtain ⟨o, e, _⟩ := p.setPresent_cases c n
  exact h.other (by rw [e]; rfl)

theorem lightOn (h : r.BlockWork p) (c : LightId) : r.BlockWork (p.lightOn c) := by
  unfold Part.lightOn; split
  · exact h
  · exact h.orderOn _

theorem lightOff (h : r.BlockWork p) (c : LightId) : r.BlockWork (p.lightOff c) := by
  unfold Part.lightOff; split
  · exact h
  · exact h.orderOff _

theorem endFade (h : r.BlockWork p) (c : LightId) : r.BlockWork (p.endFade c) := by
  unfold Part.endFade; dsimp only; split
  · exact (h.setLight c _).lightOff c
  · exact h.setLight c _

theorem startFade (h : r.BlockWork p) (c : LightId) (fadeEnd time : Nat) : r.BlockWork (p.startFade c fadeEnd time) := by
  have hend := h.setLight c { p.light c with fadeEnd := fadeEnd }
  unfold Part.startFade; dsimp only; split
  · split
    · exact ((hend.lightOn c).setPresent c _).endFade c
    · exact (hend.lightOn c).setLight c _
  · split
    · exact (hend.setPresent c _).endFade c
    · exact hend.setLight c _

theorem darken (h : r.BlockWork p) (c : LightId) : r.BlockWork (p.darken c) := (h.setPresent c 0).setLight c _

theorem lightReport (h : r.BlockWork p) (c : LightId) (x : OwnerReport) : r.BlockWork (p.lightReport c x) := by
  cases x with
  | restored => exact h.startFade c _ _
  | shed => exact h.startFade c _ _
  | off => exact (h.darken c).lightOff c
  | cut => exact h
  | faulted => exact h.darken c
  | cleared => exact h
  | exercised => exact h.darken c
  | released => exact h.setDuty _ _

/-! ### Reports to the owners of loads (R58) -/

theorem setPad (h : r.BlockWork p) (st : PadState) : r.BlockWork (p.setPad st) := by
  refine h.trans ?_
  have hq (retry : Option Nat) : p.BlockWork { p with chg := { p.chg with pad := st, padRetry := retry } } :=
    ⟨rfl, rfl, rfl, rfl, ⟨_, _, rfl⟩, _, _, rfl, .none⟩
  unfold Part.setPad; dsimp only; split
  · exact hq _
  · exact (hq _).post _ (show 4 < 5 by decide)

theorem setHeater (h : r.BlockWork p) (x : HeaterState) : r.BlockWork (p.setHeater x) := by
  have hq : r.BlockWork { p with clm := { p.clm with heater := x } } := h.other rfl
  unfold Part.setHeater; dsimp only; split
  · exact hq
  · exact hq.postHeater

theorem heaterRunning (h : r.BlockWork p) : r.BlockWork p.heaterRunning := by
  have hq : r.BlockWork { p with clm := { p.clm with minOn := some 120000 } } := h.other rfl
  exact hq.setHeater .running

theorem heaterEnded (h : r.BlockWork p) : r.BlockWork p.heaterEnded := by
  unfold Part.heaterEnded; split
  · exact h.other rfl
  · exact h

theorem heaterReport (h : r.BlockWork p) (x : OwnerReport) : r.BlockWork (p.heaterReport x) := by
  cases x with
  | restored => exact h.heaterRunning
  | shed => exact h.setHeater _
  | off => exact h.heaterEnded.setHeater _
  | faulted => exact h.heaterEnded.setHeater _
  | cleared => exact h.setHeater _
  | cut | exercised | released => exact h

theorem pumpReport (h : r.BlockWork p) (x : OwnerReport) : r.BlockWork (p.pumpReport x) := by
  cases x <;> exact h.other rfl

theorem padReport (h : r.BlockWork p) (x : OwnerReport) : r.BlockWork (p.padReport x) := by
  unfold Part.padReport; split
  · exact h
  · cases x with
    | restored => exact h.setPad _
    | shed => exact h.setPad _
    | off =>
      dsimp only; split
      · exact h.setPad _
      · exact h.setPad _
      · exact h
    | faulted => exact h.setPad _
    | cleared => exact h.report _
    | cut | exercised | released => exact h

theorem motorReport (h : r.BlockWork p) (a : Axis) (x : OwnerReport) : r.BlockWork (p.motorReport a x) := by
  cases x with
  | off | cut | faulted => exact h.report _
  | restored | shed | cleared | exercised | released => exact h

theorem valveReport (h : r.BlockWork p) (x : OwnerReport) : r.BlockWork (p.valveReport x) := by
  cases x with
  | faulted => exact h.report _
  | restored | shed | off | cut | cleared | exercised | released => exact h

theorem tellOwner (h : r.BlockWork p) (l : LoadId) (x : OwnerReport) : r.BlockWork (p.tellOwner l x) := by
  unfold Part.tellOwner
  split
  · exact h.lightReport _ x
  · split
    · exact h.motorReport _ x
    · split
      · exact h.pumpReport x
      · exact h.heaterReport x
      · exact h.valveReport x
      · exact h.padReport x
      · exact h

/-! ### The Load Manager (R50 to R69) -/

theorem depthJudge (h : r.BlockWork p) (b : BusName) : r.BlockWork (p.depthJudge b) := by
  rcases p.depthJudge_cases b with ⟨e, _⟩ | ⟨e, _⟩ | ⟨e, _⟩ <;> rw [e]
  · exact h
  · exact (h.setBus b _).postDepth b
  · exact h.setBus b _

theorem leaveList (h : r.BlockWork p) (b : BusName) (l : LoadId) : r.BlockWork (p.leaveList b l) := h.setBus b _

theorem leaveStack (h : r.BlockWork p) (b : BusName) (l : LoadId) : r.BlockWork (p.leaveStack b l) :=
  (h.setBus b _).depthJudge b

theorem leave (h : r.BlockWork p) (l : LoadId) : r.BlockWork (p.leave l) := by
  unfold Part.leave; split
  · exact h.leaveList _ l
  · exact h.leaveStack _ l
  · exact h

theorem setLoadState (h : r.BlockWork p) (l : LoadId) (st : LoadState) : r.BlockWork (p.setLoadState l st) := h.setLoad l _

theorem ldmOff (h : r.BlockWork p) (l : LoadId) : r.BlockWork (p.ldmOff l) := by
  rcases p.ldmOff_cases l with e | e <;> rw [e]
  · exact h
  · exact h.orderOff l

theorem ldmOn (h : r.BlockWork p) (l : LoadId) : r.BlockWork (p.ldmOn l) := by
  rcases p.ldmOn_cases l with e | e <;> rw [e]
  · exact h
  · exact h.orderOn l

theorem shed (h : r.BlockWork p) (b : BusName) (c : ShedCause) (l : LoadId) : r.BlockWork (p.shed b c l) :=
  (((((((h.leaveList b l).setLoadState l .shed).setBus b _).ldmOff l).tellOwner l (.shed c)).postLoad l (.shed c))).depthJudge b

theorem shedAll (h : r.BlockWork p) (b : BusName) (c : ShedCause) (ls : List LoadId) : r.BlockWork (p.shedAll b c ls) := by
  induction ls generalizing p with
  | nil => exact h
  | cons l ls ih => exact ih (h.shed b c l)

theorem shedToFit (h : r.BlockWork p) (b : BusName) (ls : List LoadId) : r.BlockWork (p.shedToFit b ls) := by
  induction ls generalizing p with
  | nil => exact h
  | cons l ls ih =>
    unfold Part.shedToFit; split
    · exact h
    · exact ih (h.shed b _ l)

theorem cutMotor (h : r.BlockWork p) (b : BusName) (l : LoadId) : r.BlockWork (p.cutMotor b l) :=
  ((((h.leaveList b l).setLoadState l .off).orderOff l).tellOwner l .cut).postLoad l .cut

theorem motorCut (h : r.BlockWork p) (b : BusName) (extra : Nat) : r.BlockWork (p.motorCut b extra) := by
  unfold Part.motorCut; split
  · split
    · exact h.cutMotor b _
    · exact h
  · exact h

theorem overloadCheck (h : r.BlockWork p) (b : BusName) : r.BlockWork (p.overloadCheck b) := (h.shedToFit b _).motorCut b 0

theorem floorCheck (h : r.BlockWork p) (b : BusName) : r.BlockWork (p.floorCheck b) := (h.shedAll b _ _).motorCut b 0

theorem undervoltageShed (h : r.BlockWork p) (b : BusName) : r.BlockWork (p.undervoltageShed b) :=
  (h.shedAll b _ _).motorCut b 0

theorem threeChecks (h : r.BlockWork p) (b : BusName) : r.BlockWork (p.threeChecks b) := by
  unfold Part.threeChecks; dsimp only; split
  · exact ((h.undervoltageShed b).floorCheck b).overloadCheck b
  · exact (h.floorCheck b).overloadCheck b

theorem makeRoom (h : r.BlockWork p) (l : LoadId) (cls draw : Nat) : r.BlockWork (p.makeRoom l cls draw).1 := by
  unfold Part.makeRoom; dsimp only; split
  · exact h
  · split
    · exact h.shedAll _ _ _
    · split
      · exact (h.shedAll _ _ _).motorCut _ _
      · exact h

theorem turnOn (h : r.BlockWork p) (l : LoadId) (m : Option Nat) : r.BlockWork (p.turnOn l m) :=
  ((h.setLoad l _).setBus _ _).ldmOn l

theorem admitLoad (h : r.BlockWork p) (l : LoadId) (m : Option Nat) : r.BlockWork (p.admitLoad l m) :=
  (h.turnOn l m).postLoad l .admitted

theorem demand (h : r.BlockWork p) (l : LoadId) (m : Option Nat) : r.BlockWork (p.demand l m).1 := by
  have hr (cls draw : Nat) := h.makeRoom l cls draw
  unfold Part.demand; dsimp only; split
  · exact h
  · split
    · exact h
    · exact h
    · split
      · exact (hr _ _).admitLoad l m
      · exact hr _ _

theorem setWantedLevel (h : r.BlockWork p) (l : LoadId) (n : Nat) : r.BlockWork (p.setWantedLevel l n) := h.setLoad l _

theorem lightDemand (h : r.BlockWork p) (c : LightId) (n : Nat) : r.BlockWork (p.lightDemand c n).1 := by
  have hr (cls draw : Nat) := h.makeRoom (lightLoad c) cls draw
  unfold Part.lightDemand; dsimp only; split
  · exact h
  · split
    · exact h.setWantedLevel _ n
    · split
      · exact h.setWantedLevel _ n
      · split
        · exact (hr _ _).setWantedLevel _ n
        · exact hr _ _
    · split
      · exact ((hr _ _).setWantedLevel _ n).admitLoad _ none
      · exact hr _ _

theorem wantedOff (h : r.BlockWork p) (l : LoadId) : r.BlockWork (p.wantedOff l) := by
  unfold Part.wantedOff; split
  · exact (((h.leave l).setLoadState l .off).ldmOff l).postLoad l .off
  · exact h

theorem loadTrip (h : r.BlockWork p) (l : LoadId) : r.BlockWork (p.loadTrip l) := by
  unfold Part.loadTrip; split
  · exact h
  · exact (((h.leave l).setLoadState l .faulted).tellOwner l .faulted).postLoad l .faulted

theorem promoteLoad (h : r.BlockWork p) (l : LoadId) : r.BlockWork (p.promoteLoad l) := by
  have hq := (h.setLoad l { p.load l with promoted := true }).postLoad l .promoted
  unfold Part.promoteLoad; dsimp only; split
  · exact (((((hq.leave l).setLoadState l .off).makeRoom l 1 _).turnOn l none).tellOwner l .restored).postLoad l .restored
  · exact hq

theorem demoteLoad (h : r.BlockWork p) (l : LoadId) : r.BlockWork (p.demoteLoad l) := by
  have hq := (h.setLoad l { p.load l with promoted := false }).postLoad l .demoted
  unfold Part.demoteLoad; dsimp only; split
  · exact (((((hq.leave l).setLoadState l .off).ldmOff l).tellOwner l .off).postLoad l .off).threeChecks _
  · exact hq.threeChecks _

theorem undervoltageJudge (h : r.BlockWork p) (b : BusName) : r.BlockWork (p.undervoltageJudge b) := by
  unfold Part.undervoltageJudge; dsimp only; split
  · exact h
  · split
    · split
      · exact h
      · exact h.setBus b _
    · split
      · exact (h.setBus b _).postDepth b
      · exact h.setBus b _

theorem publish (h : r.BlockWork p) (b : BusName) (soc : Nat) (v : Option Nat) : r.BlockWork (p.publish b soc v) :=
  ((h.setBus b _).undervoltageJudge b).floorCheck b

/-- A change of the Load Manager's record alone. -/
theorem setLdm (h : r.BlockWork p) (d : Ldm) : r.BlockWork { p with ldm := d } := h.other rfl

theorem tieChecks (h : r.BlockWork p) (b : BusName) : r.BlockWork (p.tieChecks b).1 := h.threeChecks b

theorem ldmJoin (h : r.BlockWork p) (soc : Nat) (v : Option Nat) : r.BlockWork (p.ldmJoin soc v).1 := by
  unfold Part.ldmJoin; dsimp only
  exact depthJudge (tieChecks (h.setLdm _) .joined) .joined

theorem ldmSplit (h : r.BlockWork p) (values : Bank → Nat × Option Nat) : r.BlockWork (p.ldmSplit values).1 := by
  unfold Part.ldmSplit; dsimp only
  exact depthJudge (depthJudge (tieChecks (tieChecks (h.setLdm _) .A) .B) .A) .B

theorem entryOff (h : r.BlockWork p) (l : LoadId) : r.BlockWork (p.entryOff l) := by
  unfold Part.entryOff; split
  · exact (((h.leave l).setLoadState l .off).ldmOff l).tellOwner l .off
  · exact h

theorem entryOffs (h : r.BlockWork p) (ls : List LoadId) : r.BlockWork (ls.foldl Part.entryOff p) := by
  induction ls generalizing p with
  | nil => exact h
  | cons l ls ih => exact ih (h.entryOff l)

theorem ldmModeEntry (h : r.BlockWork p) (m : Mode) : r.BlockWork (p.ldmModeEntry m) := by
  unfold Part.ldmModeEntry; split
  · exact h.entryOffs _
  · exact h.entryOffs _
  · exact h

/-! ### The battery pad (R35, R36) -/

theorem demandPad (h : r.BlockWork p) (l : LoadId) : r.BlockWork (p.demandPad l) := (h.demand l none).setPad _

theorem dropPad (h : r.BlockWork p) (l : LoadId) : r.BlockWork (p.dropPad l) := (h.wantedOff l).setPad _

theorem padJudge (h : r.BlockWork p) : r.BlockWork p.padJudge := by
  unfold Part.padJudge; split
  · exact h
  · split
    · split
      · exact h.demandPad _
      · exact h
    · split
      · exact h.dropPad _
      · exact h.dropPad _
      · exact h.dropPad _
      · exact h

theorem padFaultCleared (h : r.BlockWork p) : r.BlockWork p.padFaultCleared := by
  unfold Part.padFaultCleared; split
  · exact (h.setPad .idle).padJudge
  · exact h.padJudge

/-! ### Water (R131, R134) -/

theorem dropPump (h : r.BlockWork p) : r.BlockWork p.dropPump := by
  have hq (w : Wat) : r.BlockWork { p with wat := w } := h.other rfl
  unfold Part.dropPump; dsimp only; split
  · exact hq _
  · split
    · exact (hq _).wantedOff _
    · exact (hq _).wantedOff _
    · exact hq _

theorem watDumped (h : r.BlockWork p) : r.BlockWork p.watDumped := by
  have hq (w : Wat) : r.BlockWork { p with wat := w } := h.other rfl
  unfold Part.watDumped; dsimp only; split
  · exact (hq _).dropPump.postTank _ _
  · exact (hq _).postTank _ _

theorem holdTank (h : r.BlockWork p) (t : Tank) : r.BlockWork (p.holdTank t) := by
  unfold Part.holdTank; split
  · exact h.setTank t _
  · exact h

/-! ### The thermostat and the frost guard (R143 to R160) -/

/-- A change of the Climate Unit's record alone. -/
theorem setClm (h : r.BlockWork p) (c : Clm) : r.BlockWork { p with clm := c } := h.other rfl

theorem demandHeater (h : r.BlockWork p) (l : LoadId) : r.BlockWork (p.demandHeater l) := by
  have hd := h.demand l none
  unfold Part.demandHeater; dsimp only; split
  · exact hd.heaterRunning
  · exact hd.setHeater _
  · exact hd.setHeater _
  · exact hd.setHeater _

theorem dropHeater (h : r.BlockWork p) (l : LoadId) : r.BlockWork (p.dropHeater l) :=
  (h.wantedOff l).heaterEnded.setHeater .idle

theorem setHeld (h : r.BlockWork p) (x : Held) : r.BlockWork (p.setHeld x) := h.setClm _

theorem heaterJudge (h : r.BlockWork p) : r.BlockWork p.heaterJudge := by
  have hq := (h.setClm { p.clm with heatWanted := p.wantsHeat }).setHeld .none
  unfold Part.heaterJudge; dsimp only; split
  · exact h
  · split
    · exact hq
    · split
      · exact hq
      · exact hq
      · split
        · split
          · exact hq.setHeld _
          · exact hq.demandHeater _
        · exact hq
      · split
        · split
          · exact hq.setHeld _
          · exact hq.demandHeater _
        · exact hq.setHeater _
      · split
        · exact hq
        · split
          · exact hq.setHeld _
          · exact hq.dropHeater _
      · split
        · exact hq
        · split
          · exact hq.setHeld _
          · exact hq.dropHeater _

theorem evaluateThermostat (h : r.BlockWork p) : r.BlockWork p.evaluateThermostat :=
  ((h.setClm { p.clm with evalTimer := some 10000 }).setClm _).heaterJudge

theorem promoteHeater (h : r.BlockWork p) : r.BlockWork p.promoteHeater := by
  unfold Part.promoteHeater; split
  · exact h
  · split
    · exact h
    · exact (h.promoteLoad _).postHeater

theorem demoteHeater (h : r.BlockWork p) : r.BlockWork p.demoteHeater := by
  unfold Part.demoteHeater; split
  · exact h
  · split
    · exact (h.demoteLoad _).postHeater
    · exact h

theorem enterWatch (h : r.BlockWork p) : r.BlockWork p.enterWatch := (h.setClm { p.clm with guard := .watch }).setClm _

theorem guardEnter (h : r.BlockWork p) (g : GuardState) : r.BlockWork (p.guardEnter g) := by
  unfold Part.guardEnter; split
  · exact (h.setClm _).promoteHeater.heaterJudge
  · dsimp only; split
    · exact (h.setClm _).demoteHeater.enterWatch.heaterJudge
    · exact h.enterWatch.heaterJudge
  · exact (h.setClm _).heaterJudge

theorem guardLoop (h : r.BlockWork p) (n : Nat) (c : Option FrostCause) : r.BlockWork (p.guardLoop n c).1 := by
  induction n generalizing p c with
  | zero => exact h
  | succ n ih =>
    unfold Part.guardLoop; split
    · exact h
    · exact ih (h.guardEnter _) _

theorem guardSettle (h : r.BlockWork p) : r.BlockWork p.guardSettle.1 := by
  unfold Part.guardSettle; split
  · exact h
  · exact h.guardLoop 4 none

theorem postGuard (h : r.BlockWork p) (g : GuardState) (c : Option FrostCause) : r.BlockWork (p.postGuard g c) := by
  cases c with
  | none => exact h
  | some c => exact h.postFrost g c

theorem guardJudge (h : r.BlockWork p) : r.BlockWork p.guardJudge := h.guardSettle.postGuard _ _

theorem enterDumped (h : r.BlockWork p) (c : FrostCause) : r.BlockWork (p.enterDumped c) := by
  unfold Part.enterDumped; dsimp only; split
  · exact (((h.wantedOff _).setClm _).demoteHeater.heaterJudge.watDumped).postFrost _ c
  · exact ((h.setClm _).demoteHeater.heaterJudge.watDumped).postFrost _ c

theorem valveTripped (h : r.BlockWork p) : r.BlockWork p.valveTripped := by
  unfold Part.valveTripped; split
  · exact h
  · exact h.enterDumped _

theorem guardDisable (h : r.BlockWork p) : r.BlockWork p.guardDisable := by
  unfold Part.guardDisable; dsimp only; split
  · exact (h.setClm _).demoteHeater.heaterJudge
  · exact (h.setClm _).heaterJudge

theorem guardStart (h : r.BlockWork p) : r.BlockWork p.guardStart := by
  unfold Part.guardStart; split
  · exact h
  · exact h.enterWatch
  · exact h
  · exact h.guardDisable
  · exact h

theorem clmStart (h : r.BlockWork p) : r.BlockWork p.clmStart := by
  unfold Part.clmStart; dsimp only; split
  · exact (h.guardStart.promoteHeater.guardSettle.postGuard _ _).evaluateThermostat
  · exact (h.guardStart.guardSettle.postGuard _ _).evaluateThermostat

theorem cabinJudge (h : r.BlockWork p) : r.BlockWork p.cabinJudge := h.setClm _

theorem bayJudge (h : r.BlockWork p) : r.BlockWork p.bayJudge := (h.setClm _).guardJudge

theorem clmModeEntry (h : r.BlockWork p) (before : Mode) : r.BlockWork (p.clmModeEntry before) := by
  unfold Part.clmModeEntry; dsimp only; split
  · exact ((h.setClm _).cabinJudge.setClm _).clmStart
  · exact (h.setClm _).cabinJudge.bayJudge

/-! ### Motion (R164 to R178) -/

/-- A change of the Motion Unit's record alone. -/
theorem setMot (h : r.BlockWork p) (m : Mot) : r.BlockWork { p with mot := m } := h.other rfl

theorem setAxisState (h : r.BlockWork p) (a : Axis) (st : AxisState) : r.BlockWork (p.setAxisState a st) := by
  unfold Part.setAxisState; dsimp only; split
  · exact (h.setAxis a _).report _
  · exact h.setAxis a _

theorem formPosition (h : r.BlockWork p) (m : Motion) : r.BlockWork (p.formPosition m) := by
  unfold Part.formPosition Part.setPosition; split
  · split
    · exact h.setAxis _ _
    · exact h
  · exact h

theorem stopDrive (h : r.BlockWork p) (m : Motion) : r.BlockWork (p.stopDrive m) := ((h.formPosition m).orderOff _).setMot _

theorem endAs (h : r.BlockWork p) (m : Motion) (x : MotionResult) (st : AxisState) : r.BlockWork (p.endAs m x st) := by
  unfold Part.endAs; dsimp only; split
  · exact (((((h.stopDrive m).setMot _).setAxisState _ st).wantedOff _).setAxis _ _).postMotion _ x
  · exact ((((h.setMot _).setAxisState _ st).wantedOff _).setAxis _ _).postMotion _ x

theorem endCore (h : r.BlockWork p) (m : Motion) (x : MotionResult) : r.BlockWork (p.endCore m x) := h.endAs m x _

theorem restated (h : r.BlockWork p) (a : Axis) : r.BlockWork (p.restated a) := by
  rcases p.restated_cases a with e | ⟨_, x, e⟩ <;> rw [e]
  · exact h
  · exact h.postMotion a x

theorem restatedOf (h : r.BlockWork p) (a : Option Axis) : r.BlockWork (p.restatedOf a) := by
  cases a with
  | none => exact h
  | some a => exact h.restated a

theorem startBridge (h : r.BlockWork p) (m : Motion) (b : Bridge) : r.BlockWork (p.startBridge m b) := (h.setMot _).orderOn _

theorem startCore (h : r.BlockWork p) (m : Motion) : r.BlockWork (p.startCore m) := by
  unfold Part.startCore; dsimp only; split
  · exact h.endCore m _
  · split
    · exact h.endCore m _
    · exact ((h.startBridge _ _).setMot _).setAxis _ _

theorem startWaiting (h : r.BlockWork p) : r.BlockWork p.startWaiting := by
  unfold Part.startWaiting; split
  · split
    · exact h.startCore _
    · exact h
  · exact h

theorem demandMotion (h : r.BlockWork p) (a : Axis) (d : Direction) (target : Option Nat) :
    r.BlockWork (p.demandMotion a d target).1 := by
  have hd := h.demand (motorOf a) (some (motionClass a d))
  unfold Part.demandMotion; dsimp only; split
  · exact ((hd.setMot _).setAxisState a _).startWaiting
  · exact hd

theorem takePending (h : r.BlockWork p) : r.BlockWork p.takePending := by
  unfold Part.takePending; split
  · have hq := h.setMot { p.mot with pend := none }
    dsimp only; split
    · exact hq.postMotion _ _
    · split
      · exact hq.demandMotion _ _ _
      · exact (hq.demandMotion _ _ _).postMotion _ _
  · exact h

theorem endMotion (h : r.BlockWork p) (m : Motion) (x : MotionResult) : r.BlockWork (p.endMotion m x) :=
  ((h.endCore m x).takePending).restated _

theorem motorReported (h : r.BlockWork p) (a : Axis) (x : MotionResult) : r.BlockWork (p.motorReported a x) := by
  unfold Part.motorReported; split
  · split
    · exact h.endMotion _ x
    · exact h
  · exact h

theorem driveOffDemand (h : r.BlockWork p) (a : Axis) : r.BlockWork (p.driveOffDemand a).1 := by
  unfold Part.driveOffDemand; dsimp only; split
  · exact h.postMotion a _
  · split
    · exact h.demandMotion _ _ _
    · exact (h.demandMotion _ _ _).postMotion a _

theorem driveOffStep (h : r.BlockWork p) : r.BlockWork p.driveOffStep.1 := by
  unfold Part.driveOffStep; split
  · exact h
  · split
    · split
      · exact h
      · exact ((h.endCore _ _).driveOffDemand _).restated _
    · exact h.driveOffDemand _

theorem placePending (h : r.BlockWork p) (x : PendingMove) : r.BlockWork (p.placePending x) := by
  unfold Part.placePending; dsimp only; split
  · exact (h.setMot _).postMotion _ _
  · exact h.setMot _

theorem driveOffAwning (h : r.BlockWork p) : r.BlockWork p.driveOffAwning.1 := by
  unfold Part.driveOffAwning; split
  · exact h
  · split
    · split
      · dsimp only; split
        · exact h
        · exact h.placePending _
      · split
        · exact h
        · exact ((h.endCore _ _).driveOffDemand _).restated _
    · exact h.driveOffDemand _

theorem driveOff (h : r.BlockWork p) (c : DriveOffCause) : r.BlockWork (p.driveOff c) := by
  unfold Part.driveOff; split
  · exact h
  · exact ((h.driveOffStep.driveOffAwning.takePending).restatedOf _).post _ trivial

theorem motModeEntry (h : r.BlockWork p) (before after : Mode) : r.BlockWork (p.motModeEntry before after) := by
  unfold Part.motModeEntry; split
  · split
    · exact h
    · exact h.driveOff _
  · split
    · split
      · exact (h.setMot _).postMotion _ _
      · exact h
    · exact h

theorem outModeEntry (h : r.BlockWork p) (m : Mode) : r.BlockWork (p.outModeEntry m) := by
  unfold Part.outModeEntry; split
  · exact h.other rfl
  · exact arbiter (h.other rfl)

/-! ### The courtesy light (R185) -/

theorem setTarget (h : r.BlockWork p) (c : LightId) (n : Nat) : r.BlockWork (p.setTarget c n) := h.setLight c _

theorem startCourtesy (h : r.BlockWork p) (c : LightId) : r.BlockWork (p.startCourtesy c) := h.setLight c _

theorem levelDemand (h : r.BlockWork p) (c : LightId) (level fade : Nat) : r.BlockWork (p.levelDemand c level fade).1 := by
  have hd := h.lightDemand c level
  unfold Part.levelDemand; dsimp only; split
  · exact h
  · split
    · split
      · exact ((h.wantedOff _).setTarget c 0).startFade c 0 fade
      · exact h
    · split
      · exact (hd.setTarget c level).startFade c level fade
      · exact hd.setTarget c level
      · exact hd

theorem courtesyStep (h : r.BlockWork p) : r.BlockWork p.courtesyStep := by
  unfold Part.courtesyStep; split
  · exact h
  · dsimp only; split
    · exact h
    · split
      · exact h.startCourtesy _
      · split
        · exact h
        · split
          · exact (h.levelDemand _ _ _).startCourtesy _
          · exact h.levelDemand _ _ _

/-! ### The delivery of reports (log 6) -/

theorem takeReport (h : r.BlockWork p) (x : Report) : r.BlockWork (p.takeReport x) := by
  cases x with
  | motorCut a => exact h.motorReported a _
  | motorFaulted a => exact h.motorReported a _
  | valveFaulted => exact h.valveTripped
  | padCleared => exact h.padFaultCleared
  | tripped l => exact h.loadTrip l
  | stepExtended => exact h.courtesyStep

theorem deliver (h : r.BlockWork p) (n : Nat) : r.BlockWork (p.deliver n) := by
  induction n generalizing p with
  | zero => exact h.other rfl
  | succ n ih =>
    unfold Part.deliver; split
    · exact h
    · refine ih (takeReport (h.other ?_) _)
      rfl

theorem delivered (h : r.BlockWork p) : r.BlockWork p.delivered := h.deliver 64

theorem dryCheck (h : r.BlockWork p) : r.BlockWork p.dryCheck := by
  unfold Part.dryCheck; split
  · exact h
  · exact h.other rfl

theorem publishBank (h : r.BlockWork p) (b : Bank) : r.BlockWork (p.publishBank b) := by
  unfold Part.publishBank; split
  · exact h.publish _ _ _
  · exact h.publish _ _ _

end Part.BlockWork

end Sys2Proof.Machine
end

section
/-! PROOFS. The charge outputs and the tie relay under the calibration hold (R27 to R32, R37), and the frame of a mode change (R196):
what each leaves unchanged. -/

namespace Sys2Proof.Machine

/-! ### The charge outputs (R27, R28, R30, R31) -/

/-- From `p` to `q` the record of Charge Control has become `c`, and CHARGE notices may have been posted, none of the tie relay. -/
def Part.Rewired (p : Part) (c : Chg) (q : Part) : Prop :=
  ∃ ns lost, q = { p with chg := c, lnk := { p.lnk with notices := ns, noticeLost := lost } } ∧
    Posted p.params p.lnk.notices ns

theorem Part.Rewired.trans {p q r : Part} {c d : Chg} (h : p.Rewired c q) (k : q.Rewired d r) : p.Rewired d r := by
  obtain ⟨_, _, rfl, hn⟩ := h
  obtain ⟨_, _, rfl, kn⟩ := k
  exact ⟨_, _, rfl, hn.trans kn⟩

theorem Part.rewired_self (p : Part) : p.Rewired p.chg p := ⟨_, _, rfl, .none⟩

theorem Part.rewired_chg (p : Part) (c : Chg) : p.Rewired c { p with chg := c } := ⟨_, _, rfl, .none⟩

theorem Part.Rewired.chg {p q : Part} {c : Chg} (h : p.Rewired c q) : q.chg = c := by
  obtain ⟨_, _, rfl, _⟩ := h; rfl

/-- A CHARGE notice but that of the tie relay. -/
theorem Part.Rewired.postCharge {p q : Part} {c : Chg} (h : p.Rewired c q) {x : ChargeSubject} (hx : x.code < 5) (y : ChargeCause) :
    p.Rewired c (q.postCharge x y) := by
  refine h.trans ?_
  rw [← h.chg]
  unfold Part.postCharge Part.post
  split
  next he => exact ⟨_, _, rfl, Posted.none.post he hx⟩
  next => exact q.rewired_self

theorem Part.evalShore_rewired (p : Part) (x : ChargeCause) :
    p.Rewired { p.chg with shoreEnable := p.mains && p.chg.coldInhibit.isNone && !p.chg.calHold } (p.evalShore x) := by
  unfold Part.evalShore; dsimp only; split
  next h => rw [h]; exact p.rewired_self
  next => exact (p.rewired_chg _).postCharge (x := .shore) (by decide) _

theorem Part.evalSolar_rewired (p : Part) (x : ChargeCause) :
    p.Rewired { p.chg with solarEnable := p.chg.coldInhibit.isNone && !p.chg.calHold } (p.evalSolar x) := by
  unfold Part.evalSolar; dsimp only; split
  next h => rw [h]; exact p.rewired_self
  next => exact (p.rewired_chg _).postCharge (x := .solar) (by decide) _

theorem Part.evalSplitClose_rewired (p : Part) :
    p.Rewired { p.chg with splitClosed := p.chg.splitClosed ||
      p.dplus && p.chg.dplusCount == 50 && p.chg.highCount == 50 && p.chg.coldInhibit.isNone && !p.chg.calHold }
      p.evalSplitClose := by
  unfold Part.evalSplitClose; split
  next h =>
    have e : (p.dplus && p.chg.dplusCount == 50 && p.chg.highCount == 50 && p.chg.coldInhibit.isNone && !p.chg.calHold) = true := by
      simp_all
    rw [e, Bool.or_true]
    exact (p.rewired_chg _).postCharge (x := .split) (by decide) _
  next h =>
    have e : (p.chg.splitClosed || p.dplus && p.chg.dplusCount == 50 && p.chg.highCount == 50 && p.chg.coldInhibit.isNone &&
        !p.chg.calHold) = p.chg.splitClosed := by
      cases hs : p.chg.splitClosed <;> simp_all
    rw [e]
    exact p.rewired_self

theorem Part.openSplit_rewired (p : Part) (x : ChargeCause) :
    p.Rewired { p.chg with splitClosed := false } (p.openSplit x) := by
  unfold Part.openSplit; split
  next => exact (p.rewired_chg _).postCharge (x := .split) (by decide) _
  next h =>
    rw [← Bool.not_eq_true _ |>.mp h]
    exact p.rewired_self

/-- The charge outputs where neither an inhibit nor the hold needs to be taken into account but by their values. -/
theorem Part.sourcesOn_rewired (p : Part) (x : ChargeCause) : p.Rewired { p.chg with
    shoreEnable := p.mains && p.chg.coldInhibit.isNone && !p.chg.calHold
    solarEnable := p.chg.coldInhibit.isNone && !p.chg.calHold
    splitClosed := p.chg.splitClosed ||
      p.dplus && p.chg.dplusCount == 50 && p.chg.highCount == 50 && p.chg.coldInhibit.isNone && !p.chg.calHold }
    (p.sourcesOn x) := by
  obtain ⟨_, _, e1, h1⟩ := p.evalShore_rewired x
  obtain ⟨_, _, e2, h2⟩ := (p.evalShore x).evalSolar_rewired x
  obtain ⟨_, _, e3, h3⟩ := ((p.evalShore x).evalSolar x).evalSplitClose_rewired
  unfold Part.sourcesOn
  rw [e3]
  rw [e2] at h3 ⊢
  rw [e1] at h2 h3 ⊢
  exact ⟨_, _, rfl, (h1.trans h2).trans h3⟩

theorem Part.sourcesOff_rewired (p : Part) (x : ChargeCause) : p.Rewired { p.chg with
    shoreEnable := p.mains && p.chg.coldInhibit.isNone && !p.chg.calHold
    solarEnable := p.chg.coldInhibit.isNone && !p.chg.calHold
    splitClosed := false } (p.sourcesOff x) := by
  obtain ⟨_, _, e1, h1⟩ := p.evalShore_rewired x
  obtain ⟨_, _, e2, h2⟩ := (p.evalShore x).evalSolar_rewired x
  obtain ⟨_, _, e3, h3⟩ := ((p.evalShore x).evalSolar x).openSplit_rewired x
  unfold Part.sourcesOff
  rw [e3]
  rw [e2] at h3 ⊢
  rw [e1] at h2 h3 ⊢
  exact ⟨_, _, rfl, (h1.trans h2).trans h3⟩

/-! ### The tie relay (R37) -/

/-- A change of the tie relay: the Load Manager's work over the new state, then the CHARGE notice. -/
theorem Part.setTie_cases (p : Part) (t : Tie) (x : ChargeCause) :
    (p.chg.tieRelay = t ∧ (p.setTie t x).1 = p) ∨
    (p.chg.tieRelay ≠ t ∧ ∃ q, ({ p with chg := { p.chg with tieRelay := t } } : Part).BlockWork q ∧
      (p.setTie t x).1 = q.postCharge .tie x) := by
  unfold Part.setTie; split
  next h => exact .inl ⟨h, rfl⟩
  next h =>
    refine .inr ⟨h, _, ?_, rfl⟩
    cases t with
    | joined => exact (Part.BlockWork.refl _).ldmJoin _ _
    | split => exact (Part.BlockWork.refl _).ldmSplit _

/-- From `p` to `q` the record of Charge Control has become `c`, but for the pad that the Load Manager may have told CHG of; banks,
settings, lines, Mode Control and the link but for its notices stand. -/
structure Part.ChargeWork (p : Part) (c : Chg) (q : Part) : Prop where
  params : q.params = p.params
  bnk : q.bnk = p.bnk
  sli : q.sli = p.sli
  mdc : q.mdc = p.mdc
  chg : ∃ st retry, q.chg = { c with pad := st, padRetry := retry }
  lnk : ∃ ns lost, q.lnk = { p.lnk with notices := ns, noticeLost := lost }

theorem Part.Rewired.work {p q : Part} {c : Chg} (h : p.Rewired c q) : p.ChargeWork c q := by
  obtain ⟨_, _, rfl, _⟩ := h
  exact ⟨rfl, rfl, rfl, rfl, ⟨_, _, rfl⟩, _, _, rfl⟩

/-- A tie change leaves the record of Charge Control with the new tie. -/
theorem Part.setTie_work (p : Part) (t : Tie) (x : ChargeCause) :
    p.ChargeWork { p.chg with tieRelay := t } (p.setTie t x).1 := by
  rcases p.setTie_cases t x with ⟨rfl, e⟩ | ⟨_, q, ⟨hp, hb, hs, hm, hc, _, _, hl, _⟩, e⟩ <;> rw [e]
  · exact p.rewired_self.work
  · obtain ⟨ns, lost, e, _⟩ := q.post_cases .charge ChargeSubject.tie.code
      (n8 (q.chargeState .tie) ++ n8 (chargeCauseCode .tie x) ++ q.chargeHoldOff .tie)
    rw [Part.postCharge, e]
    exact ⟨hp, hb, hs, hm, hc, ns, lost, by simp only [hl]⟩

theorem Part.ChargeWork.trans {p q r : Part} {c d : Chg} (h : p.ChargeWork c q) (k : q.ChargeWork d r) : p.ChargeWork d r := by
  obtain ⟨h1, h2, h3, h4, _, _, _, h5⟩ := h
  obtain ⟨k1, k2, k3, k4, kc, _, _, k5⟩ := k
  exact ⟨k1.trans h1, k2.trans h2, k3.trans h3, k4.trans h4, kc, _, _, by rw [k5, h5]⟩

/-- More of the blocks' work after a change of the charge outputs. -/
theorem Part.ChargeWork.work {p q r : Part} {c : Chg} (h : p.ChargeWork c q) (k : q.BlockWork r) : p.ChargeWork c r := by
  obtain ⟨hp, hb, hs, hm, ⟨_, _, hc⟩, _, _, hl⟩ := h
  obtain ⟨kp, kb, ks, km, ⟨_, _, kc⟩, _, _, kl, _⟩ := k
  exact ⟨kp.trans hp, kb.trans hb, ks.trans hs, km.trans hm, ⟨_, _, by rw [kc, hc]⟩, _, _, by rw [kl, hl]⟩

/-- The mask lets nothing but CHARGE (and STARTED) through. -/
def Pages.OnlyCharge (ps : Pages) : Prop :=
  noticeEnabled ps .charge = true ∧ ∀ k, noticeEnabled ps k = true → k = .started ∨ k = .charge

/-- A change of the tie relay is posted, where the queue holds nothing but CHARGE notices of other subjects. -/
theorem Part.setTie_notice {p : Part} {t : Tie} {x : ChargeCause} (ht : p.chg.tieRelay ≠ t) (hm : p.params.OnlyCharge)
    (hq : OwnCharge p.lnk.notices) :
    ⟨.charge, 5, n8 t.code ++ n8 (chargeCauseCode .tie x)⟩ ∈ (p.setTie t x).1.lnk.notices := by
  obtain ⟨he, _⟩ | ⟨_, q, h, e⟩ := p.setTie_cases t x
  · exact absurd he ht
  · obtain ⟨hp, _, _, _, ⟨_, _, hc⟩, ns, _, hl, hn⟩ := h
    have hlen : q.lnk.notices.length < 16 := by
      rw [hl]
      have := (hn.ownCharge hm.2 hq).length_le
      dsimp only
      omega
    have hen : noticeEnabled q.params .charge = true := by rw [hp]; exact hm.1
    have hd : q.chargeState .tie = t.code := by simp [Part.chargeState, hc]
    rw [e, Part.postCharge, Part.post, if_pos hen, hd, show q.chargeHoldOff .tie = [] from rfl, List.append_nil]
    exact mem_enqueueNotice hlen

/-! ### The calibration hold (R32) -/

/-- The record of Charge Control after the hold has been lowered. -/
def Part.loweredChg (p : Part) : Chg := { p.chg with
  calHold := false
  shoreEnable := p.mains && p.chg.coldInhibit.isNone
  solarEnable := p.chg.coldInhibit.isNone
  splitClosed := p.chg.splitClosed || p.dplus && p.chg.dplusCount == 50 && p.chg.highCount == 50 && p.chg.coldInhibit.isNone
  tieRelay := p.params.tieSetting }

/-- The lowering of a raised hold: the outputs, then the tie relay. -/
theorem Part.lowerCalHold_stages {p : Part} (h : p.chg.calHold = true) :
    ∃ q, p.Rewired { p.loweredChg with tieRelay := p.chg.tieRelay } q ∧
      p.lowerCalHold = (q.setTie p.params.tieSetting (if p.mdc.mode = .start then .start else .calHold)).1 := by
  have hs := (p.rewired_chg { p.chg with calHold := false }).trans
    (({ p with chg := { p.chg with calHold := false } } : Part).sourcesOn_rewired .calHold)
  simp only [Bool.not_false, Bool.and_true] at hs
  refine ⟨_, hs, ?_⟩
  obtain ⟨_, _, e, _⟩ := hs
  unfold Part.lowerCalHold
  rw [if_pos h]
  simp only [e]

/-- The hold lowered: sources and split by their conditions, the tie relay at its setting. -/
theorem Part.lowerCalHold_work {p : Part} (h : p.chg.calHold = true) : p.ChargeWork p.loweredChg p.lowerCalHold := by
  obtain ⟨q, hq, e⟩ := p.lowerCalHold_stages h
  rw [e]
  have hw := hq.work.trans (q.setTie_work p.params.tieSetting (if p.mdc.mode = .start then .start else .calHold))
  rwa [hq.chg] at hw

/-- The lowering of the hold posts the change of the tie relay. -/
theorem Part.lowerCalHold_notice {p : Part} (h : p.chg.calHold = true) (ht : p.chg.tieRelay ≠ p.params.tieSetting)
    (hm : p.params.OnlyCharge) (hq : OwnCharge p.lnk.notices) :
    ⟨.charge, 5, n8 p.params.tieSetting.code ++ n8 (if p.mdc.mode = .start then 2 else 1)⟩ ∈ p.lowerCalHold.lnk.notices := by
  obtain ⟨q, ⟨_, _, rfl, hn⟩, e⟩ := p.lowerCalHold_stages h
  have hc : (if p.mdc.mode = .start then 2 else 1) =
      chargeCauseCode .tie (if p.mdc.mode = .start then .start else .calHold) := by split <;> rfl
  rw [e, hc]
  exact Part.setTie_notice ht hm (hn.ownCharge hm.2 hq)

/-- The record of Charge Control under a raised hold. -/
def Part.raisedChg (p : Part) : Chg := { p.chg with
  calHold := true, shoreEnable := false, solarEnable := false, splitClosed := false, tieRelay := .split }

/-- The hold raised: sources off, the split relay OPEN, tie SPLIT. -/
theorem Part.raiseCalHold_work {p : Part} (h : p.chg.calHold = false) : p.ChargeWork p.raisedChg p.raiseCalHold := by
  have hs := (p.rewired_chg { p.chg with calHold := true }).trans
    (({ p with chg := { p.chg with calHold := true } } : Part).sourcesOff_rewired .calHold)
  simp only [Bool.not_true, Bool.and_false] at hs
  unfold Part.raiseCalHold
  rw [if_neg (by simp [h])]
  have hw := hs.work.trans ((({ p with chg := { p.chg with calHold := true } } : Part).sourcesOff .calHold).setTie_work .split .calHold)
  rwa [hs.chg] at hw

/-! ### A change of the mode (R196) -/

namespace Part.ModeWork

variable {r p q : Part}

theorem refl (p : Part) : p.ModeWork p := ⟨rfl, rfl, rfl, rfl, rfl, fun _ h => ⟨h, rfl, rfl, rfl⟩, _, _, rfl, .none⟩

theorem trans (h : r.ModeWork p) (k : p.ModeWork q) : r.ModeWork q := by
  obtain ⟨hp, hb, hm, ht, hh, hc, _, _, hl, hn⟩ := h
  obtain ⟨kp, kb, km, kt, kh, kc, _, _, kl, kn⟩ := k
  refine ⟨kp.trans hp, kb.trans hb, km.trans hm, kt.trans ht, kh.trans hh, fun h1 h2 => ?_, _, _, by rw [kl, hl], hn.trans ?_⟩
  · obtain ⟨h3, h4, h5, h6⟩ := hc h1 h2
    obtain ⟨k3, k4, k5, k6⟩ := kc (hp ▸ h1) h3
    exact ⟨k3, k4.trans h4, k5.trans h5, k6.trans h6⟩
  · rw [hp, hl] at kn
    exact kn

/-- The work of the blocks is part of a mode change. -/
theorem work (h : r.ModeWork p) (k : p.BlockWork q) : r.ModeWork q := by
  obtain ⟨kp, kb, ks, km, ⟨_, _, kc⟩, kl⟩ := k
  exact h.trans ⟨kp, kb, km, by rw [kc], by rw [kc], fun _ hi => by simp [kc, hi], kl⟩

/-- A change of the lines alone. -/
theorem setSli (h : r.ModeWork p) (x : Sli) : r.ModeWork { p with sli := x } :=
  h.trans ⟨rfl, rfl, rfl, rfl, rfl, fun _ hi => ⟨hi, rfl, rfl, rfl⟩, _, _, rfl, .none⟩

theorem setLine (h : r.ModeWork p) (s : LineId) (x : LineRec) : r.ModeWork (p.setLine s x) := h.setSli _

/-- A change of the battery temperature and its countdown alone. -/
theorem setTemp (h : r.ModeWork p) (timer : Option Nat) (temp : Option Int) :
    r.ModeWork { p with chg := { p.chg with battTimer := timer, battTemp := temp } } :=
  h.trans ⟨rfl, rfl, rfl, rfl, rfl, fun _ hi => ⟨hi, rfl, rfl, rfl⟩, _, _, rfl, .none⟩

/-- The judgement of the cold inhibit; with LEAD and no inhibit nothing changes (R34). -/
theorem inhibitJudge (h : r.ModeWork p) : r.ModeWork p.inhibitJudge := by
  refine h.trans ?_
  unfold Part.inhibitJudge; dsimp only
  split
  next => exact refl p
  next hne =>
    have hlead (hc : p.params.chemistry = .lead) (hi : p.chg.coldInhibit = none) : False := by
      simp [hc, hi, coldRule] at hne
    have hpost (x : ChargeCause) := (p.rewired_chg { p.chg with
      coldInhibit := coldRule p.params.chemistry p.chg.coldInhibit p.chg.battTemp p.params.chargeMinimum }).postCharge
      (x := .coldInhibit) (by decide) x
    split
    · obtain ⟨_, _, e, hn⟩ := (hpost _).trans (Part.sourcesOff_rewired _ .cold)
      rw [e, (hpost _).chg]
      exact ⟨rfl, rfl, rfl, rfl, rfl, fun hc hi => (hlead hc hi).elim, _, _, rfl, hn⟩
    · obtain ⟨_, _, e, hn⟩ := (hpost _).trans (Part.sourcesOn_rewired _ .cold)
      rw [e, (hpost _).chg]
      exact ⟨rfl, rfl, rfl, rfl, rfl, fun hc hi => (hlead hc hi).elim, _, _, rfl, hn⟩

theorem battTempJudge (h : r.ModeWork p) : r.ModeWork p.battTempJudge :=
  (h.setTemp p.chg.battTimer _).inhibitJudge.work (Part.BlockWork.refl _).padJudge

theorem chgModeEntry (h : r.ModeWork p) : r.ModeWork p.chgModeEntry := by
  have hq := (h.setTemp (p.staleFor .battTemp none) (p.knownTemp .battTemp)).inhibitJudge
  unfold Part.chgModeEntry; dsimp only; split
  · exact hq.work ((Part.BlockWork.refl _).setPad .idle).padJudge
  · exact hq.work (Part.BlockWork.refl _).padJudge

theorem handSupply (h : r.ModeWork p) (s : LineId) : r.ModeWork (p.handSupply s) := by
  have hb := Part.BlockWork.refl p
  unfold Part.handSupply; dsimp only; split
  · split
    · exact h.work (hb.holdTank _)
    · exact h
  · split
    · exact h.work (hb.holdTank _)
    · exact h
  · exact h.work hb.cabinJudge
  · exact h.work hb.bayJudge
  · exact h.battTempJudge
  · exact h

theorem handNodata (h : r.ModeWork p) (s : LineId) : r.ModeWork (p.handNodata s) := by
  have hb := Part.BlockWork.refl p
  unfold Part.handNodata; split
  · split
    · exact h.work (hb.holdTank _)
    · exact h
  · split
    · exact h.work (hb.holdTank _)
    · exact h
  · exact h.work hb.cabinJudge
  · exact h.work hb.bayJudge
  · exact h

theorem settleLine (h : r.ModeWork p) (s : LineId) : r.ModeWork (p.settleLine s) := (h.setLine s _).handSupply s

theorem darkenLine (h : r.ModeWork p) (s : LineId) (w : Supply) : r.ModeWork (p.darkenLine s w) := (h.setLine s _).handSupply s

/-- One event after the other at every line. -/
theorem foldl {f : Part → LineId → Part} (hf : ∀ {p}, r.ModeWork p → ∀ s, r.ModeWork (f p s)) (h : r.ModeWork p)
    (ls : List LineId) : r.ModeWork (ls.foldl f p) := by
  induction ls generalizing p with
  | nil => exact h
  | cons s ls ih => exact ih (hf h s)

theorem storageLine (h : r.ModeWork p) (s : LineId) : r.ModeWork (p.storageLine s) := by
  unfold Part.storageLine Part.openDuty; split
  · split
    · exact h.settleLine s
    · exact h
  · split
    · exact h.darkenLine s _
    · exact h

theorem resumeLine (h : r.ModeWork p) (s : LineId) : r.ModeWork (p.resumeLine s) := by
  unfold Part.resumeLine; split
  · exact h.settleLine s
  · exact h

theorem nodataAt (h : r.ModeWork p) (s : LineId) : r.ModeWork (p.nodataAt s) := by
  unfold Part.nodataAt; dsimp only; split
  · split
    · exact h.setLine s _
    · exact (h.setLine s _).handNodata s
  · exact h

theorem nodataJudge (h : r.ModeWork p) : r.ModeWork p.nodataJudge := by
  refine foldl (fun h s => ?_) h _
  split
  · exact h.nodataAt s
  · exact h

theorem sliModeEntry (h : r.ModeWork p) (before : Mode) : r.ModeWork (p.sliModeEntry before) := by
  unfold Part.sliModeEntry; dsimp only; split
  · exact (foldl (fun h s => h.storageLine s) (h.setSli _) _).nodataJudge
  · split
    · exact (foldl (fun h s => h.resumeLine s) (h.setSli _) _).nodataJudge
    · exact h.nodataJudge

end Part.ModeWork

/-- A mode change: the blocks' work in the new mode, then the resume flag and the MODE notice (R196, R199). -/
theorem Part.setMode_stages (p : Part) (after : Mode) (x : ModeCause) :
    ∃ q, ({ p with mdc := { p.mdc with mode := after } } : Part).ModeWork q ∧ p.setMode after x =
      ({ q with mdc := { q.mdc with resume := resumeAfter p.mdc.mode after q.mdc.resume } } : Part).post .mode 0
        (n8 p.mdc.mode.code ++ n8 after.code ++ n8 x.code ++ q.progressStates) := by
  refine ⟨_, ?_, rfl⟩
  refine .work ?_ (((Part.BlockWork.refl _).clmModeEntry _).motModeEntry _ _).delivered
  refine .sliModeEntry ?_ _
  refine .work ?_ ((Part.BlockWork.refl _).outModeEntry _)
  exact ((Part.ModeWork.refl _).work ((Part.BlockWork.refl _).ldmModeEntry _)).chgModeEntry

end Sys2Proof.Machine
end

section
/-! PROOFS. The calibration of the banks (R3 to R6): the sample that sums, the sample that completes a bank, what the completion of
the last bank brings about, and BANK_ZERO. -/

namespace Sys2Proof.Machine

/-! ### Masks for one kind of notice (R211) -/

/-- A part that hears one kind lets nothing else but STARTED through. -/
theorem Part.Hears.enabled {p : Part} {k : NoticeKind} (h : p.Hears k) (k' : NoticeKind) :
    noticeEnabled p.params k' = true ↔ k' = .started ∨ k' = k := by
  obtain ⟨_, _, hm⟩ := h
  unfold noticeEnabled
  rw [hm]
  cases k <;> cases k' <;> decide

/-- Under a mask that lets no CHARGE notice through, the hold is lowered without a notice. -/
theorem Part.lowerCalHold_quiet {p : Part} (h : p.chg.calHold = true) (hm : p.Hears .mode) :
    p.lowerCalHold.lnk.notices = [] := by
  have honly (k : NoticeKind) := (Part.Hears.enabled hm k).1
  obtain ⟨q, ⟨_, _, rfl, hn⟩, e⟩ := p.lowerCalHold_stages h
  have hq := hn.eq_of_mask honly
  rw [e]
  rcases Part.setTie_cases _ p.params.tieSetting (if p.mdc.mode = .start then .start else .calHold) with
    ⟨_, e'⟩ | ⟨_, q', ⟨hp, _, _, _, _, _, _, hl, hn'⟩, e'⟩ <;> rw [e']
  · exact hq.trans hm.2.1
  · have hc : noticeEnabled q'.params .charge = false := by
      rw [hp, ← Bool.not_eq_true]
      intro he
      simpa using honly _ he
    rw [Part.postCharge, Part.post, if_neg (by simp [hc]), hl]
    exact (hn'.eq_of_mask honly).trans (hq.trans hm.2.1)

/-! ### The end of an event -/

/-- What is left of an event after the work of its command: more of the blocks' work, and a transmitter that, idle, takes what waits. -/
theorem Part.finish_cases (p : Part) : ∃ q k, p.BlockWork q ∧ p.finish = { q with lnk := k } ∧
    (p.lnk.tx.isSome = true → k = q.lnk) := by
  have hq : p.BlockWork p.delivered.dryCheck := (Part.BlockWork.refl p).delivered.dryCheck
  obtain ⟨k, e⟩ := p.delivered.dryCheck.transmit_only_link
  refine ⟨p.delivered.dryCheck, k, hq, e, fun hb => ?_⟩
  obtain ⟨f, hf⟩ := Option.isSome_iff_exists.1 hb
  obtain ⟨_, _, hl, _⟩ := hq.lnk
  have hbusy := Part.transmit_of_busy (p := p.delivered.dryCheck) (f := f) (by rw [hl]; exact hf)
  rw [e] at hbusy
  exact congrArg Part.lnk hbusy

/-- The publication of a bus and the rest of the event. -/
theorem Part.published_cases (p : Part) (b : Bank) : ∃ q k, p.BlockWork q ∧ (p.publishBank b).finish = { q with lnk := k } ∧
    (p.lnk.tx.isSome = true → k = q.lnk) := by
  obtain ⟨q, k, hq, e, hk⟩ := (p.publishBank b).finish_cases
  have hp := (Part.BlockWork.refl p).publishBank b
  obtain ⟨_, _, hl, _⟩ := hp.lnk
  exact ⟨q, k, hp.trans hq, e, fun hb => hk (by rw [hl]; exact hb)⟩

theorem Part.BlockWork.bank {p q : Part} (h : p.BlockWork q) (b : Bank) : q.bank b = p.bank b := by
  cases b <;> simp only [Part.bank, h.bnk]

/-! ### The samples of a calibration (R3, R5) -/

theorem saturated_eq (c : Int) : saturated c = decide (c = -32768 ∨ c = 32767) := by
  simp [saturated, Bool.decide_or, beq_eq_decide]

theorem clampInt_eq (lo hi x : Int) (h : lo ≤ hi) : clampInt lo hi x = max lo (min hi x) := by
  unfold clampInt; split
  · omega
  · split <;> omega

/-- A sample of a calibration before its last: it sums and counts. -/
theorem BankRec.calibrated1_eq (r : BankRec) (c mv : Int) : r.calibrated1 c (clampToNat 20000 mv) = { r with
    lastVoltage := some (min 20000 mv.toNat), currentSat := decide (c = -32768 ∨ c = 32767)
    calSum := r.calSum + c, calSamples := r.calSamples + 1 } := by
  simp [BankRec.calibrated1, clampToNat, saturated_eq]

/-- The completion of a calibration: the offset is the mean, clamped. -/
theorem BankRec.counting_eq (r : BankRec) : r.counting = { r with
    offset := max (-512) (min 512 (r.calSum.tdiv 8))
    offsetSat := decide (r.calSum.tdiv 8 < -512 ∨ 512 < r.calSum.tdiv 8)
    acct := .counting, secondCount := 0, minuteCount := 0, minuteSum := 0 } := by
  simp [BankRec.counting, clampInt_eq, Bool.decide_or]

/-- The part after the sample that completes the calibration of a bank, before what the completion brings about. -/
def Part.completed (p : Part) (b : Bank) (c : Int) (mv : Nat) : Part :=
  (p.setBank b ((p.bank b).calibrated1 c mv).counting).postBank b .calibrated

theorem Part.completed_work (p : Part) (b : Bank) (c : Int) (mv : Nat) :
    (p.setBank b ((p.bank b).calibrated1 c mv).counting).BlockWork (p.completed b c mv) :=
  (Part.BlockWork.refl _).post _ trivial

/-- But for the bank and the posted notice, the completion of a bank's calibration leaves everything. -/
theorem Part.completed_eq (p : Part) (b : Bank) (c : Int) (mv : Nat) : ∃ ns lost,
    p.completed b c mv = { p.setBank b ((p.bank b).calibrated1 c mv).counting with
      lnk := { p.lnk with notices := ns, noticeLost := lost } } ∧ Posted p.params p.lnk.notices ns := by
  obtain ⟨ns, lost, e, _⟩ := (p.setBank b ((p.bank b).calibrated1 c mv).counting).post_cases .bank (bankIdx b)
    (n8 BankCause.calibrated.code ++ n16 ((p.setBank b ((p.bank b).calibrated1 c mv).counting).bankSoc b) ++
      n8 ((p.setBank b ((p.bank b).calibrated1 c mv).counting).bank b).flags)
  obtain ⟨_, _, _, _, _, _, _, hl, hn⟩ := p.completed_work b c mv
  rw [Part.completed, Part.postBank, e] at hl ⊢
  simp only [Part.setBank_lnk, Part.setBank_params] at hl hn ⊢
  have hns : ns = _ := congrArg Lnk.notices hl
  exact ⟨ns, lost, rfl, hns ▸ hn⟩

/-- A CALIBRATING sample before the 8th. -/
theorem Part.bankSampled_of_summing {p : Part} {b : Bank} (h : (p.bank b).acct = .calibrating) (hn : (p.bank b).calSamples + 1 < 8)
    (c : Int) (mv : Nat) : p.bankSampled b c mv = (p.setBank b ((p.bank b).calibrated1 c mv)).publishBank b := by
  simp [Part.bankSampled, h, Part.calibrationSample, BankRec.calibrated1, Nat.not_le.2 hn]

/-- The 8th CALIBRATING sample. -/
theorem Part.bankSampled_of_completing {p : Part} {b : Bank} (h : (p.bank b).acct = .calibrating)
    (hn : 8 ≤ (p.bank b).calSamples + 1) (c : Int) (mv : Nat) :
    p.bankSampled b c mv = ((p.completed b c mv).calibrationOver).publishBank b := by
  simp [Part.bankSampled, h, Part.calibrationSample, BankRec.calibrated1, hn, Part.completed]

/-- With the bank completed, every bank is COUNTING when the other one is. -/
theorem Part.completed_allCounting (p : Part) (b : Bank) (c : Int) (mv : Nat) :
    (p.completed b c mv).allCounting = true ↔ ∀ b', b' ≠ b → (p.bank b').acct = .counting := by
  obtain ⟨_, _, e, _⟩ := p.completed_eq b c mv
  rw [e]
  cases b <;> simp [Part.allCounting, Part.bank, Part.setBank, BankRec.counting, beq_iff_eq]
  · exact ⟨fun h b' hb => by cases b' <;> simp_all, fun h => h .B (by simp)⟩
  · exact ⟨fun h b' hb => by cases b' <;> simp_all, fun h => h .A (by simp)⟩

/-! ### What the completion brings about (R4 to R6) -/

/-- The reply of a BANK_ZERO whose banks are COUNTING again. -/
theorem Part.zeroingCheck_cases (p : Part) :
    (p.zeroingCheck = p ∧ ∀ z, p.bnk.zeroing = some z → p.zeroingDone z = false) ∨
    ∃ z, p.bnk.zeroing = some z ∧ p.zeroingDone z = true ∧
      p.zeroingCheck = ({ p with bnk := { p.bnk with zeroing := none } }).completeHead .ok (p.zeroingPayload z) := by
  unfold Part.zeroingCheck
  split
  next z h =>
    split
    next hd => exact .inr ⟨z, h, hd, rfl⟩
    next hd => exact .inl ⟨rfl, fun z' hz => by simp_all⟩
  next h => exact .inl ⟨rfl, fun z hz => by simp_all⟩

/-- A completed request changes the queue of requests and the reply slot alone. -/
theorem Part.completeHead_cases (p : Part) (st : Status) (payload : List Byte) : ∃ rq fl rp,
    p.completeHead st payload = { p with lnk := { p.lnk with requests := rq, inFlight := fl, reply := rp } } := by
  unfold Part.completeHead
  split
  · split <;> exact ⟨_, _, _, rfl⟩
  · exact ⟨_, _, _, rfl⟩

/-- The check of BANK_ZERO changes that request alone: the banks asked for, the queue of requests and the reply slot. -/
theorem Part.zeroingCheck_eq (p : Part) : ∃ z rq fl rp, p.zeroingCheck = { p with
    bnk := { p.bnk with zeroing := z }, lnk := { p.lnk with requests := rq, inFlight := fl, reply := rp } } := by
  rcases p.zeroingCheck_cases with ⟨e, _⟩ | ⟨z, _, _, e⟩ <;> rw [e]
  · exact ⟨_, _, _, _, rfl⟩
  · obtain ⟨_, _, _, e⟩ := ({ p with bnk := { p.bnk with zeroing := none } } : Part).completeHead_cases .ok (p.zeroingPayload z)
    exact ⟨_, _, _, _, e⟩

/-- The report to Mode Control that no bank is CALIBRATING, by the mode and the zero calibration (R193, R194). -/
theorem Part.bankCalibrated_cases (p : Part) :
    (p.mdc.mode ≠ .start ∧ p.bankCalibrated = p) ∨
    (p.mdc.mode = .start ∧ p.mdc.zeroDone = false ∧ p.bankCalibrated = { p with mdc := { p.mdc with bankDone := true } }) ∨
    (p.mdc.mode = .start ∧ p.mdc.zeroDone = true ∧
      p.bankCalibrated = ({ p with mdc := { p.mdc with bankDone := true } }).setMode p.modeAfterStart .startDone) := by
  unfold Part.bankCalibrated Part.startDone
  by_cases hm : p.mdc.mode = .start
  · cases hz : p.mdc.zeroDone
    · exact .inr (.inl ⟨hm, rfl, by simp [hm]⟩)
    · exact .inr (.inr ⟨hm, rfl, by simp only [hm, and_self, if_true]; rfl⟩)
  · exact .inl ⟨hm, by simp [hm]⟩

/-- What every further stage of a calibration's end keeps, a change of the mode too. -/
structure Part.EndWork (p q : Part) : Prop where
  params : q.params = p.params
  bnk : q.bnk = p.bnk
  tie : q.chg.tieRelay = p.chg.tieRelay
  hold : q.chg.calHold = p.chg.calHold
  lnk : ∃ ns lost, q.lnk = { p.lnk with notices := ns, noticeLost := lost } ∧
    ∀ d, ⟨.charge, 5, d⟩ ∈ p.lnk.notices → ⟨.charge, 5, d⟩ ∈ ns

theorem Part.ModeWork.endWork {p q : Part} (h : p.ModeWork q) : p.EndWork q := by
  obtain ⟨hp, hb, _, ht, hh, _, _, _, hl, hn⟩ := h
  exact ⟨hp, hb, ht, hh, _, _, hl, fun _ hd => hn.mem_tie hd⟩

theorem Part.BlockWork.endWork {p q : Part} (h : p.BlockWork q) : p.EndWork q := ((Part.ModeWork.refl p).work h).endWork

theorem Part.EndWork.trans {p q r : Part} (h : p.EndWork q) (k : q.EndWork r) : p.EndWork r := by
  obtain ⟨hp, hb, ht, hh, _, _, hl, hn⟩ := h
  obtain ⟨kp, kb, kt, kh, _, _, kl, kn⟩ := k
  refine ⟨kp.trans hp, kb.trans hb, kt.trans ht, kh.trans hh, _, _, by rw [kl, hl], fun d hd => kn d ?_⟩
  rw [hl]
  exact hn d hd

/-- A posting of a kind other than CHARGE keeps what a stage of a calibration's end keeps. -/
theorem Part.post_endWork (p : Part) {k : NoticeKind} (hk : k ≠ .charge) (n : Nat) (d : List Byte) : p.EndWork (p.post k n d) := by
  unfold Part.post
  split
  · exact ⟨rfl, rfl, rfl, rfl, _, _, rfl, fun _ hm => mem_enqueueNotice_of_other hm (by simp [Notice.isFor, Ne.symm hk])⟩
  · exact ⟨rfl, rfl, rfl, rfl, _, _, rfl, fun _ => id⟩

/-- A change of Mode Control's record alone. -/
theorem Part.setMdc_endWork (p : Part) (m : Mdc) : p.EndWork { p with mdc := m } :=
  ⟨rfl, rfl, rfl, rfl, _, _, rfl, fun _ => id⟩

theorem Part.setMode_endWork (p : Part) (after : Mode) (x : ModeCause) : p.EndWork (p.setMode after x) := by
  obtain ⟨q, hq, e⟩ := p.setMode_stages after x
  rw [e]
  exact (((p.setMdc_endWork _).trans hq.endWork).trans (q.setMdc_endWork _)).trans (Part.post_endWork _ (by simp) _ _)

theorem Part.bankCalibrated_endWork (p : Part) : p.EndWork p.bankCalibrated := by
  rcases p.bankCalibrated_cases with ⟨_, e⟩ | ⟨_, _, e⟩ | ⟨_, _, e⟩ <;> rw [e]
  · exact (Part.BlockWork.refl p).endWork
  · exact p.setMdc_endWork _
  · exact (p.setMdc_endWork _).trans (Part.setMode_endWork _ _ _)

/-- While another bank is CALIBRATING, a completed bank brings about nothing but the check of BANK_ZERO. -/
theorem Part.calibrationOver_of_calibrating {p : Part} (h : p.allCounting = false) : p.calibrationOver = p.zeroingCheck := by
  simp [Part.calibrationOver, h]

/-- With no bank CALIBRATING the hold is lowered, BANK_ZERO checked and Mode Control told. -/
theorem Part.calibrationOver_of_counting {p : Part} (h : p.allCounting = true) :
    p.calibrationOver = p.lowerCalHold.zeroingCheck.bankCalibrated := by
  simp [Part.calibrationOver, h]

/-- A hold that is not raised is not lowered. -/
theorem Part.lowerCalHold_of_low {p : Part} (h : p.chg.calHold = false) : p.lowerCalHold = p := by
  simp [Part.lowerCalHold, h]

/-- Lowered or not, the hold is down, and banks, settings, Mode Control and the link but for its notices stand. -/
theorem Part.lowerCalHold_cases (p : Part) : ∃ c, c.calHold = false ∧ p.ChargeWork c p.lowerCalHold := by
  cases h : p.chg.calHold
  · exact ⟨p.chg, h, by rw [Part.lowerCalHold_of_low h]; exact p.rewired_self.work⟩
  · exact ⟨_, rfl, Part.lowerCalHold_work h⟩

/-- The check of BANK_ZERO leaves settings, banks' records, charge outputs, Mode Control, the notices and the transmitter. -/
theorem Part.zeroingCheck_kept (p : Part) : p.zeroingCheck.params = p.params ∧ (∀ b, p.zeroingCheck.bank b = p.bank b) ∧
    p.zeroingCheck.chg = p.chg ∧ p.zeroingCheck.mdc = p.mdc ∧ p.zeroingCheck.lnk.notices = p.lnk.notices ∧
    p.zeroingCheck.lnk.tx = p.lnk.tx := by
  obtain ⟨_, _, _, _, e⟩ := p.zeroingCheck_eq
  rw [e]
  exact ⟨rfl, fun b => by cases b <;> rfl, rfl, rfl, rfl, rfl⟩

theorem Part.ChargeWork.bank {p q : Part} {c : Chg} (h : p.ChargeWork c q) (b : Bank) : q.bank b = p.bank b := by
  cases b <;> simp only [Part.bank, h.bnk]

theorem Part.EndWork.bank {p q : Part} (h : p.EndWork q) (b : Bank) : q.bank b = p.bank b := by
  cases b <;> simp only [Part.bank, h.bnk]

/-- What a completed calibration brings about reaches no setting and no bank. -/
theorem Part.calibrationOver_kept (p : Part) :
    p.calibrationOver.params = p.params ∧ ∀ b, p.calibrationOver.bank b = p.bank b := by
  cases h : p.allCounting
  · rw [Part.calibrationOver_of_calibrating h]
    exact ⟨p.zeroingCheck_kept.1, p.zeroingCheck_kept.2.1⟩
  · obtain ⟨_, _, hc⟩ := p.lowerCalHold_cases
    obtain ⟨hp, hb, _⟩ := p.lowerCalHold.zeroingCheck_kept
    have he := p.lowerCalHold.zeroingCheck.bankCalibrated_endWork
    rw [Part.calibrationOver_of_counting h]
    exact ⟨he.params.trans (hp.trans hc.params), fun b => (he.bank b).trans ((hb b).trans (hc.bank b))⟩

/-- The charge outputs as evaluated at the lowering of the hold (R27, R28, R30). -/
abbrev Evaluated (p q : Part) : Prop :=
  q.chg.shoreEnable = (p.mains && p.chg.coldInhibit.isNone) ∧ q.chg.solarEnable = p.chg.coldInhibit.isNone ∧
    q.chg.splitClosed =
      (p.chg.splitClosed || p.dplus && p.chg.dplusCount == 50 && p.chg.highCount == 50 && p.chg.coldInhibit.isNone)

/-- The mode after START is STORAGE with the resume flag set and D+ not active (R194). -/
theorem Part.modeAfterStart_eq (p : Part) :
    p.modeAfterStart = if p.mdc.resume = true ∧ p.dplus = false then Mode.storage else .active := by
  simp [Part.modeAfterStart]

/-- Mode Control at the end of START: the mode, and nothing else (R194; log 26). -/
theorem Part.setMode_of_start {p : Part} (hm : p.mdc.mode = .start) {after : Mode}
    (ha : after = if p.mdc.resume = true ∧ p.dplus = false then Mode.storage else .active) (x : ModeCause) :
    (p.setMode after x).mdc = { p.mdc with mode := after } := by
  have hr : resumeAfter .start after p.mdc.resume = p.mdc.resume := by
    rw [ha]
    split
    next h => simp [resumeAfter, h.1]
    next => rfl
  obtain ⟨q, hq, e⟩ := p.setMode_stages after x
  rw [e, Part.post_mdc]
  simp only [hq.mdc, hm, hr]

/-- With LEAD and no inhibit a change of the mode leaves the charge outputs (R34). -/
theorem Part.setMode_of_lead {p : Part} (hc : p.params.chemistry = .lead) (hi : p.chg.coldInhibit = none) (after : Mode)
    (x : ModeCause) : (p.setMode after x).chg.shoreEnable = p.chg.shoreEnable ∧
      (p.setMode after x).chg.solarEnable = p.chg.solarEnable ∧ (p.setMode after x).chg.splitClosed = p.chg.splitClosed := by
  obtain ⟨q, hq, e⟩ := p.setMode_stages after x
  rw [e, Part.post_chg]
  exact (hq.lead hc hi).2

/-- Under a mask for MODE alone, the end of START posts one notice into an empty queue (R199). -/
theorem Part.setMode_notice {p : Part} (hm : p.mdc.mode = .start) (hn : p.lnk.notices = [])
    (ho : ∀ k, noticeEnabled p.params k = true ↔ k = .started ∨ k = .mode) (after : Mode) (x : ModeCause) :
    (p.setMode after x).lnk.notices = [⟨.mode, 0, n8 0 ++ n8 after.code ++ n8 x.code ++ p.progressStates⟩] := by
  obtain ⟨q, ⟨hps, _, hmdc, _, _, _, _, _, hl, hp⟩, e⟩ := p.setMode_stages after x
  have he : noticeEnabled q.params .mode = true := by rw [hps]; exact (ho .mode).2 (.inr rfl)
  have hq : q.lnk.notices = [] := by rw [hl]; exact (hp.eq_of_mask fun k => (ho k).1).trans hn
  have hs : q.progressStates = p.progressStates := by simp only [Part.progressStates, hmdc]
  rw [e, Part.post, if_pos he, hm, hs]
  simp [hq, enqueueNotice]
  rfl

/-- The end of START in the event that completes the last bank (R194). -/
theorem Part.bankCalibrated_startEnds {p : Part} (hm : p.mdc.mode = .start) (hz : p.mdc.zeroDone = true) {q : Part} {k : Lnk}
    (hq : p.bankCalibrated.BlockWork q) (hk : p.Hears .mode → k = q.lnk) : StartEnds p { q with lnk := k } := by
  obtain ⟨hne, _⟩ | ⟨_, hz', _⟩ | ⟨_, _, e⟩ := p.bankCalibrated_cases
  · exact absurd hm hne
  · simp [hz] at hz'
  rw [e] at hq
  have hafter := p.modeAfterStart_eq
  generalize hr : ({ p with mdc := { p.mdc with bankDone := true } } : Part) = r at hq
  have hps : r.params = p.params := by rw [← hr]
  have hlnk : r.lnk = p.lnk := by rw [← hr]
  have hrm : r.mdc = { p.mdc with bankDone := true } := by rw [← hr]
  have hmode : r.mdc.mode = .start := by rw [hrm]; exact hm
  have hmdc : q.mdc = { p.mdc with mode := p.modeAfterStart, bankDone := true, zeroDone := true } := by
    rw [hq.mdc, Part.setMode_of_start hmode (by rw [Part.dplus, hrm]; exact hafter), hrm, ← hz]
  refine ⟨by rw [← hafter]; exact hmdc, fun hears => ?_⟩
  have ho := Part.Hears.enabled hears
  rw [← hps] at ho
  have hn := Part.setMode_notice hmode (by rw [hlnk]; exact hears.2.1) ho p.modeAfterStart .startDone
  obtain ⟨_, _, hl, hp⟩ := hq.lnk
  rw [(r.setMode_endWork _ _).params] at hp
  have hqn : q.lnk.notices = _ := (congrArg Lnk.notices hl).trans (hp.eq_of_mask fun k => (ho k).1)
  have hs : ({ q with lnk := k } : Part).progressStates = r.progressStates := by simp only [Part.progressStates, hmdc, hrm]
  rw [hs]
  dsimp only
  rw [hk hears, hqn, hn, hafter]
  rfl

/-- The end of START is said of Mode Control alone, and of a part that hears MODE. -/
theorem StartEnds.of_mdc {p p' q : Part} (h : StartEnds p' q) (hm : p'.mdc = p.mdc) (hh : p.Hears .mode → p'.Hears .mode) :
    StartEnds p q := by
  obtain ⟨h1, h2⟩ := h
  unfold StartEnds
  simp only [Part.dplus, hm] at h1 h2 ⊢
  exact ⟨h1, fun hp => h2 (hh hp)⟩

/-- The part in which the last bank has completed its calibration, with the hold lowered and BANK_ZERO checked. -/
def Part.lowered (p : Part) : Part := p.lowerCalHold.zeroingCheck

theorem Part.lowered_mdc (p : Part) : p.lowered.mdc = p.mdc := by
  obtain ⟨_, _, hc⟩ := p.lowerCalHold_cases
  exact p.lowerCalHold.zeroingCheck_kept.2.2.2.1.trans hc.mdc

theorem Part.lowered_params (p : Part) : p.lowered.params = p.params := by
  obtain ⟨_, _, hc⟩ := p.lowerCalHold_cases
  exact p.lowerCalHold.zeroingCheck_kept.1.trans hc.params

theorem Part.lowered_tx (p : Part) : p.lowered.lnk.tx = p.lnk.tx := by
  obtain ⟨_, _, hc⟩ := p.lowerCalHold_cases
  obtain ⟨_, _, e⟩ := hc.lnk
  exact p.lowerCalHold.zeroingCheck_kept.2.2.2.2.2.trans (by rw [e])

theorem Part.lowered_notices (p : Part) : p.lowered.lnk.notices = p.lowerCalHold.lnk.notices :=
  p.lowerCalHold.zeroingCheck_kept.2.2.2.2.1

theorem Part.lowered_hold (p : Part) : p.lowered.chg.calHold = false := by
  obtain ⟨_, hl, hc⟩ := p.lowerCalHold_cases
  obtain ⟨_, _, e⟩ := hc.chg
  rw [Part.lowered, p.lowerCalHold.zeroingCheck_kept.2.2.1, e]
  exact hl

theorem Part.lowered_chg {p : Part} (h : p.chg.calHold = true) :
    ∃ st retry, p.lowered.chg = { p.loweredChg with pad := st, padRetry := retry } := by
  obtain ⟨st, retry, e⟩ := (Part.lowerCalHold_work h).chg
  exact ⟨st, retry, p.lowerCalHold.zeroingCheck_kept.2.2.1.trans e⟩

theorem Part.lowered_bankCalibrated_tx (p : Part) : p.lowered.bankCalibrated.lnk.tx = p.lnk.tx := by
  obtain ⟨_, _, e, _⟩ := p.lowered.bankCalibrated_endWork.lnk
  rw [e, ← p.lowered_tx]

/-- The charge outputs of a part with the hold lowered. -/
theorem evaluated_of_lowered {p q : Part} (h : p.chg.calHold = true)
    (hs : q.chg.shoreEnable = p.lowered.chg.shoreEnable ∧ q.chg.solarEnable = p.lowered.chg.solarEnable ∧
      q.chg.splitClosed = p.lowered.chg.splitClosed) : Evaluated p q := by
  obtain ⟨_, _, e⟩ := Part.lowered_chg h
  obtain ⟨h1, h2, h3⟩ := hs
  rw [e] at h1 h2 h3
  exact ⟨h1, h2, h3⟩

theorem Part.BlockWork.sources {p q : Part} (h : p.BlockWork q) : q.chg.shoreEnable = p.chg.shoreEnable ∧
    q.chg.solarEnable = p.chg.solarEnable ∧ q.chg.splitClosed = p.chg.splitClosed := by
  obtain ⟨_, _, e⟩ := h.chg
  rw [e]
  exact ⟨rfl, rfl, rfl⟩

section LastBank

variable {p q : Part} {k : Lnk} (hh : p.chg.calHold = true) (hq : p.lowered.bankCalibrated.BlockWork q)
include hh hq

/-- The tie relay takes the tie setting (R32). -/
theorem lastBank_tie : q.chg.tieRelay = p.params.tieSetting := by
  obtain ⟨_, _, e⟩ := Part.lowered_chg hh
  rw [hq.endWork.tie, p.lowered.bankCalibrated_endWork.tie, e]
  rfl

/-- Its change is posted (R41). -/
theorem lastBank_notice (ht : p.chg.tieRelay ≠ p.params.tieSetting) (hm : p.params.OnlyCharge) (hn : OwnCharge p.lnk.notices) :
    ⟨.charge, 5, n8 p.params.tieSetting.code ++ n8 (if p.mdc.mode = .start then 2 else 1)⟩ ∈ q.lnk.notices := by
  obtain ⟨_, _, e, hkeep⟩ := (p.lowered.bankCalibrated_endWork.trans hq.endWork).lnk
  rw [e]
  refine hkeep _ ?_
  rw [p.lowered_notices]
  exact Part.lowerCalHold_notice hh ht hm hn

/-- After START, and in START with the zero calibration missing, the evaluated outputs stand. -/
theorem lastBank_of_not_over (h : p.mdc.mode ≠ .start ∨ p.mdc.zeroDone = false) :
    q.mdc = (if p.mdc.mode = .start then { p.mdc with bankDone := true } else p.mdc) ∧ Evaluated p q := by
  rcases p.lowered.bankCalibrated_cases with ⟨hm, e⟩ | ⟨hm, _, e⟩ | ⟨hm, hz, _⟩
  · rw [p.lowered_mdc] at hm
    rw [e] at hq
    exact ⟨by rw [if_neg hm, hq.mdc, p.lowered_mdc], evaluated_of_lowered hh hq.sources⟩
  · rw [p.lowered_mdc] at hm
    rw [e] at hq
    refine ⟨?_, evaluated_of_lowered hh hq.sources⟩
    rw [if_pos hm, hq.mdc, p.lowered_mdc]
  · rw [p.lowered_mdc] at hm hz
    rcases h with h | h
    · exact absurd hm h
    · simp [hz] at h

/-- In START with the zero calibration done, START ends; with LEAD and no inhibit the evaluated outputs stand. -/
theorem lastBank_of_over (hm : p.mdc.mode = .start) (hz : p.mdc.zeroDone = true) (hk : p.lnk.tx.isSome = true → k = q.lnk) :
    StartEnds p { q with lnk := k } ∧ (p.params.chemistry = .lead → p.chg.coldInhibit = none → Evaluated p q) := by
  have hears (h : p.Hears .mode) : p.lowered.Hears .mode :=
    ⟨by rw [p.lowered_tx]; exact h.1, by rw [p.lowered_notices]; exact Part.lowerCalHold_quiet hh h,
      by rw [p.lowered_params]; exact h.2.2⟩
  have hm' : p.lowered.mdc.mode = .start := by rw [p.lowered_mdc]; exact hm
  have hz' : p.lowered.mdc.zeroDone = true := by rw [p.lowered_mdc]; exact hz
  refine ⟨.of_mdc (Part.bankCalibrated_startEnds hm' hz' hq fun h => hk ?_) p.lowered_mdc hears, fun hc hi => ?_⟩
  · rw [← p.lowered_tx]
    exact h.1
  · refine evaluated_of_lowered hh ?_
    obtain ⟨_, _, echg⟩ := Part.lowered_chg hh
    rcases p.lowered.bankCalibrated_cases with ⟨hm, _⟩ | ⟨_, hz, _⟩ | ⟨_, _, e⟩
    · exact absurd hm' hm
    · simp [hz'] at hz
    · rw [e] at hq
      generalize hr : ({ p.lowered with mdc := { p.lowered.mdc with bankDone := true } } : Part) = r at hq
      have hchg : r.chg = p.lowered.chg := by rw [← hr]
      have hps : r.params = p.params := by rw [← hr]; exact p.lowered_params
      obtain ⟨h1, h2, h3⟩ := hq.sources
      obtain ⟨k1, k2, k3⟩ := Part.setMode_of_lead (p := r) (by rw [hps]; exact hc) (by rw [hchg, echg]; exact hi)
        p.lowered.modeAfterStart .startDone
      rw [hchg] at k1 k2 k3
      exact ⟨h1.trans k1, h2.trans k2, h3.trans k3⟩

end LastBank

/-! ### The obligation -/

/-- The completion of a bank's calibration leaves settings, charge outputs and Mode Control, and under a mask that BANK does not
pass the notices as well. -/
theorem Part.completed_kept (p : Part) (b : Bank) (c : Int) (mv : Nat) :
    (p.completed b c mv).params = p.params ∧ (p.completed b c mv).chg = p.chg ∧ (p.completed b c mv).mdc = p.mdc ∧
      (p.completed b c mv).sli = p.sli ∧ (p.completed b c mv).lnk.tx = p.lnk.tx ∧
      Posted p.params p.lnk.notices (p.completed b c mv).lnk.notices := by
  obtain ⟨_, _, e, hn⟩ := p.completed_eq b c mv
  rw [e]
  exact ⟨Part.setBank_params .., Part.setBank_chg .., Part.setBank_mdc .., Part.setBank_sli .., rfl, hn⟩

theorem Part.completed_bank (p : Part) (b : Bank) (c : Int) (mv : Nat) (b' : Bank) : (p.completed b c mv).bank b' =
    if b' = b then ((p.bank b).calibrated1 c mv).counting else p.bank b' := by
  rw [(p.completed_work b c mv).bank]
  split
  next h => rw [h, Part.bank_setBank]
  next h => exact Part.bank_setBank_of_ne _ _ h

/-- A part that hears MODE hears nothing of the completion. -/
theorem Part.completed_hears {p : Part} (h : p.Hears .mode) (b : Bank) (c : Int) (mv : Nat) :
    (p.completed b c mv).Hears .mode := by
  obtain ⟨hps, _, _, _, htx, hn⟩ := p.completed_kept b c mv
  exact ⟨htx ▸ h.1, (hn.eq_of_mask fun k => (Part.Hears.enabled h k).1).trans h.2.1, hps ▸ h.2.2⟩

/-- Settles O23: a sample before the 8th sums; at the 8th the stages of the completion, by whether the other bank still calibrates. -/
theorem calibrationSampleOfABank : Obligations.CalibrationSampleOfABank := by
  intro s b c mv r n hr
  have hn : n = r.calibrated1 c.toInt (clampToNat 20000 mv) := (r.calibrated1_eq _ _).symm
  refine ⟨⟨(s.part.bankSampled b c.toInt (clampToNat 20000 mv)).finish, s.pending⟩, rfl, rfl, ?_⟩
  clear_value n
  subst hn
  generalize c.toInt = c
  generalize clampToNat 20000 mv = mv
  rcases Nat.lt_or_ge (r.calSamples + 1) 8 with h8 | h8
  · rw [Part.bankSampled_of_summing hr h8]
    obtain ⟨q, k, hq, e, _⟩ := (s.part.setBank b (r.calibrated1 c mv)).published_cases b
    dsimp only
    rw [e]
    refine ⟨fun b' hb => ?_, ?_, fun _ => ⟨?_, ?_, ?_⟩, fun h => absurd h (Nat.not_le.2 h8)⟩
    · exact (hq.bank b').trans (Part.bank_setBank_of_ne _ _ hb)
    · exact hq.params.trans (Part.setBank_params ..)
    · exact (hq.bank b).trans (Part.bank_setBank ..)
    · exact hq.mdc.trans (Part.setBank_mdc ..)
    · exact hq.sli.trans (Part.setBank_sli ..)
  · rw [Part.bankSampled_of_completing hr h8]
    have hbank := s.part.completed_bank b c mv
    have hall := s.part.completed_allCounting b c mv
    have hearsMode (h : s.part.Hears .mode) := Part.completed_hears h b c mv
    obtain ⟨hps, hchg, hmdc, hsli, htx, hnot⟩ := s.part.completed_kept b c mv
    generalize s.part.completed b c mv = p at hbank hall hps hchg hmdc hsli htx hnot hearsMode
    obtain ⟨q, k, hq, e, hk⟩ := p.calibrationOver.published_cases b
    obtain ⟨hops, hobank⟩ := p.calibrationOver_kept
    dsimp only
    rw [e]
    have hend (b') : q.bank b' = p.bank b' := (hq.bank b').trans (hobank b')
    refine ⟨fun b' hb => ?_, ?_, fun h => absurd h8 (Nat.not_le.2 h), fun _ => ⟨?_, fun hothers => ?_⟩⟩
    · exact (hend b').trans (by rw [hbank, if_neg hb])
    · exact hq.params.trans (hops.trans hps)
    · refine (hend b).trans ?_
      rw [hbank, if_pos rfl, BankRec.counting_eq]
    · have hover := hall.2 hothers
      rw [Part.calibrationOver_of_counting hover] at hq hk
      change p.lowered.bankCalibrated.BlockWork q at hq
      have hwork := p.lowered.bankCalibrated_endWork.trans hq.endWork
      have hbusy (h : s.part.lnk.tx.isSome = true) : k = q.lnk := hk (p.lowered_bankCalibrated_tx.trans htx ▸ h)
      refine ⟨hwork.hold.trans p.lowered_hold, fun _ hhold => ?_⟩
      have hh : p.chg.calHold = true := by rw [hchg]; exact hhold
      have hev {x : Part} (h : Evaluated p x) : Evaluated s.part x := by
        simp only [Evaluated, Part.mains, Part.dplus, hchg, hmdc] at h ⊢
        exact h
      refine ⟨?_, fun hears ht => ?_, fun hm => ?_, fun hm hz => ?_, fun hm hz => ?_⟩
      · rw [← hps]
        show q.chg.tieRelay = _
        exact lastBank_tie hh hq
      · have hen := Part.Hears.enabled hears
        dsimp only
        rw [hbusy hears.1, ← hps, ← hmdc]
        refine lastBank_notice hh hq (by rw [hchg, hps]; exact ht) ?_ ?_
        · rw [hps]
          exact ⟨(hen _).2 (.inr rfl), fun k => (hen k).1⟩
        · exact hnot.ownCharge (fun k => (hen k).1) (by rw [hears.2.1]; exact ⟨.nil, by simp⟩)
      · obtain ⟨h1, h2⟩ := lastBank_of_not_over hh hq (.inl (by rw [hmdc]; exact hm))
        rw [hmdc, if_neg hm] at h1
        exact ⟨h1, hev h2⟩
      · obtain ⟨h1, h2⟩ := lastBank_of_not_over hh hq (.inr (by rw [hmdc]; exact hz))
        rw [hmdc, if_pos hm] at h1
        exact ⟨h1, hev h2⟩
      · obtain ⟨h1, h2⟩ := lastBank_of_over (k := k) hh hq (by rw [hmdc]; exact hm) (by rw [hmdc]; exact hz)
          (by rw [htx]; exact hbusy)
        exact ⟨h1.of_mdc hmdc hearsMode, fun hc hi => hev (h2 (by rw [hps]; exact hc) (by rw [hchg]; exact hi))⟩

end Sys2Proof.Machine
end

section
/-! PROOFS. BANK_ZERO (R6): its refusals, the calibration that it starts, and the reply that it holds until the last selected bank is
COUNTING again. -/

namespace Sys2Proof.Machine

/-! ### The request -/

theorem Part.zeroRefusal_of_away {p : Part} (h : p.mdc.mode = .active ∨ p.mdc.mode = .storage) :
    p.zeroRefusal = some .wrongMode := by
  rcases h with h | h <;> simp [Part.zeroRefusal, h]

theorem Part.zeroRefusal_of_start {p : Part} (h : p.mdc.mode = .start) : p.zeroRefusal = some .starting := by
  simp [Part.zeroRefusal, h]

/-- In SERVICE BANK_ZERO is refused for an exercise, then for a load that is ON (R6). -/
theorem Part.zeroRefusal_of_service {p : Part} (h : p.mdc.mode = .service) : p.zeroRefusal =
    if p.out.exercise.isSome then some .exerciseActive else if p.otherLoadOn then some .loadActive else none := by
  simp [Part.zeroRefusal, h]

/-- A load other than the frost valve is ON. -/
theorem Part.otherLoadOn_iff (p : Part) :
    p.otherLoadOn = true ↔ ∃ l, (p.load l).state = .on ∧ p.params.role l ≠ .frostValve := by
  simp [Part.otherLoadOn]

/-- BANK_ZERO with a refusal is answered with it, and changes nothing. -/
theorem bankZero_refused {s : State} {x : Byte} {z : Zeroing} {st : Status} (hr : s.part.Ready) (hz : zeroArg x = some z)
    (h : s.part.zeroRefusal = some st) : Replies (.bankZero x) s s.part st [] := by
  refine replies_of_refuse hr rfl ?_
  have hq : (s.part.queued (.bankZero x)).zeroRefusal = some st := h
  simp only [Part.handle, Part.bankZero, hz, hq]

/-- The selected banks have entered CALIBRATING, before the hold is raised. -/
def Part.zeroed (p : Part) (z : Zeroing) : Part :=
  let q := if z.a then p.setBank .A (p.bank .A).calibrating else p
  let q := if z.b then q.setBank .B (q.bank .B).calibrating else q
  { q with bnk := { q.bnk with zeroing := some z } }

/-- The start of BANK_ZERO reaches the records of the selected banks alone. -/
theorem Part.zeroed_eq (p : Part) (z : Zeroing) : p.zeroed z = { p with bnk :=
    ⟨if z.a then (p.bank .A).calibrating else p.bank .A, if z.b then (p.bank .B).calibrating else p.bank .B, some z⟩ } := by
  unfold Part.zeroed
  cases z.a <;> cases z.b <;> rfl

/-- A transmitter that finds no reply leaves the queue of requests. -/
theorem Part.transmit_of_noReply {p : Part} (h : p.lnk.reply = none) : p.transmit.lnk.requests = p.lnk.requests ∧
    p.transmit.lnk.inFlight = p.lnk.inFlight ∧ p.transmit.lnk.reply = none := by
  unfold Part.transmit
  split
  · exact ⟨rfl, rfl, h⟩
  · split
    · exact ⟨rfl, rfl, h⟩
    · split
      next r hr => rw [h] at hr; exact absurd hr (by simp)
      next => split <;> exact ⟨rfl, rfl, h⟩

/-- The part in the event of an accepted BANK_ZERO, whose request stays at the head, in flight. -/
theorem bankZero_taken {s : State} {x : Byte} {z : Zeroing} (hr : s.part.Ready) (hz : zeroArg x = some z)
    (h : s.part.zeroRefusal = none) (hh : s.part.chg.calHold = false) : ∃ q,
    ((s.part.queued (.bankZero x)).zeroed z).ChargeWork s.part.raisedChg q ∧
      s.part.takeRequest (.bankZero x) = { q with lnk := { q.lnk with inFlight := true } } := by
  have hq : (s.part.queued (.bankZero x)).zeroRefusal = none := h
  have hhandle : (s.part.queued (.bankZero x)).handle (.bankZero x) =
      ((s.part.queued (.bankZero x)).startZeroing z).hold := by
    simp only [Part.handle, Part.bankZero, hz, hq]
  have hw := Part.raiseCalHold_work (p := (s.part.queued (.bankZero x)).zeroed z) (by rw [Part.zeroed_eq]; exact hh)
  have hc : ((s.part.queued (.bankZero x)).zeroed z).raisedChg = s.part.raisedChg := by rw [Part.zeroed_eq]; rfl
  rw [hc] at hw
  refine ⟨_, hw.work (Part.BlockWork.refl _).delivered, ?_⟩
  rw [Part.takeRequest_of_ready hr]
  change (s.part.queued (.bankZero x)).dispatchHead (.bankZero x) = _
  simp only [Part.dispatchHead, hhandle]
  rfl

/-- An accepted BANK_ZERO: its request is held, the selected banks calibrate under the raised hold (R6, R32). -/
theorem bankZero_accepted {s : State} {x : Byte} {z : Zeroing} (hr : s.part.Ready) (hz : zeroArg x = some z)
    (h : s.part.zeroRefusal = none) (hh : s.part.chg.calHold = false) : ∃ t, exec (.bankZero x) s = .next ⟨t, s.pending⟩ ∧
      t.lnk.requests = [.bankZero x] ∧ t.lnk.inFlight = true ∧ t.lnk.reply = none ∧ t.bnk = (s.part.zeroed z).bnk ∧
      (∃ st retry, t.chg = { s.part.raisedChg with pad := st, padRetry := retry }) ∧
      t.params = s.part.params ∧ t.mdc = s.part.mdc ∧ t.sli = s.part.sli := by
  obtain ⟨q, hq, e⟩ := bankZero_taken hr hz h hh
  rw [Part.zeroed_eq] at hq ⊢
  generalize hf : ({ q with lnk := { q.lnk with inFlight := true } } : Part) = f at e
  have hw : f.BlockWork f.delivered.dryCheck := (Part.BlockWork.refl f).delivered.dryCheck
  obtain ⟨_, _, el, _⟩ := hw.lnk
  obtain ⟨_, _, eq⟩ := hq.lnk
  have hreply : f.delivered.dryCheck.lnk.reply = none := by rw [el, ← hf, eq]; exact hr.2.2.2.2
  obtain ⟨hrq, hfl, hrp⟩ := Part.transmit_of_noReply hreply
  obtain ⟨k, ek⟩ := f.delivered.dryCheck.transmit_only_link
  refine ⟨f.delivered.dryCheck.transmit, ?_, hrq.trans ?_, hfl.trans ?_, hrp, ?_⟩
  · rw [← e]; rfl
  · rw [el, ← hf, eq]
  · rw [el, ← hf]
  · rw [ek]
    dsimp only
    obtain ⟨_, _, ec⟩ := hw.chg
    obtain ⟨_, _, eqc⟩ := hq.chg
    rw [hw.bnk, ec, hw.params, hw.mdc, hw.sli, ← hf]
    exact ⟨hq.bnk, ⟨_, _, by rw [eqc]⟩, hq.params, hq.mdc, hq.sli⟩

/-! ### The held reply -/

/-- The bank is selected by a BANK_ZERO. -/
def Zeroing.selects (z : Zeroing) : Bank → Bool
  | .A => z.a
  | .B => z.b

/-- With the bank completed, every selected bank is COUNTING when no other selected bank calibrates. -/
theorem Part.completed_zeroingDone (p : Part) (b : Bank) (c : Int) (mv : Nat) (z : Zeroing) :
    (p.completed b c mv).zeroingDone z = true ↔
      ∀ b', b' ≠ b → (p.bank b').acct = .calibrating → z.selects b' = false := by
  have hne (r : BankRec) : r.acct = .counting ↔ r.acct ≠ .calibrating := by cases r.acct <;> simp
  have hself : ((p.bank b).calibrated1 c mv).counting.acct = .counting := rfl
  simp only [Part.zeroingDone, Part.completed_bank, Bool.and_eq_true, Bool.or_eq_true, Bool.not_eq_true', beq_iff_eq]
  cases b
  · simp only [if_true, hself, or_true, true_and, reduceCtorEq, if_false, hne]
    exact ⟨fun h b' hb ha => by cases b' <;> simp_all [Zeroing.selects],
      fun h => by have := h .B (by simp); simp only [Zeroing.selects] at this; tauto⟩
  · simp only [if_true, hself, or_true, and_true, reduceCtorEq, if_false, hne]
    exact ⟨fun h b' hb ha => by cases b' <;> simp_all [Zeroing.selects],
      fun h => by have := h .A (by simp); simp only [Zeroing.selects] at this; tauto⟩

/-- The completion of a bank, up to the check of BANK_ZERO and what comes after it. -/
theorem Part.calibrationOver_stages (p : Part) :
    ∃ c q, p.ChargeWork c q ∧ q.zeroingCheck.EndWork p.calibrationOver := by
  cases h : p.allCounting
  · rw [Part.calibrationOver_of_calibrating h]
    exact ⟨_, p, p.rewired_self.work, (Part.BlockWork.refl _).endWork⟩
  · obtain ⟨c, _, hc⟩ := p.lowerCalHold_cases
    rw [Part.calibrationOver_of_counting h]
    exact ⟨c, _, hc, Part.bankCalibrated_endWork _⟩

theorem Part.ChargeWork.zeroingDone {p q : Part} {c : Chg} (h : p.ChargeWork c q) (z : Zeroing) :
    q.zeroingDone z = p.zeroingDone z := by
  simp only [Part.zeroingDone, h.bank]

/-- The reply of BANK_ZERO over the selected banks. -/
theorem Part.zeroingPayload_eq (p : Part) (z : Zeroing) : p.zeroingPayload z =
    n8 (z.a.toNat + z.b.toNat) ++
      (if z.a = true then leSigned 2 (p.bank .A).offset ++ [if (p.bank .A).offsetSat = true then 0#8 else 1#8] else []) ++
      (if z.b = true then leSigned 2 (p.bank .B).offset ++ [if (p.bank .B).offsetSat = true then 0#8 else 1#8] else []) := by
  have h (v : Bool) : twoWay v = [if v = true then 0#8 else 1#8] := by cases v <;> rfl
  cases ha : z.a <;> cases hb : z.b <;> simp [Part.zeroingPayload, listField, ha, hb, h]

/-- The completion of a bank while a BANK_ZERO is in flight at the head, without an answer yet. -/
theorem Part.calibrationOver_of_zeroing {p : Part} {z : Zeroing} {r : Request} {rest : List Request}
    (hz : p.bnk.zeroing = some z) (hq : p.lnk.requests = r :: rest) (hf : p.lnk.inFlight = true) (hr : p.lnk.reply = none) :
    (p.zeroingDone z = false → p.calibrationOver.bnk.zeroing = some z ∧ p.calibrationOver.lnk.requests = r :: rest ∧
      p.calibrationOver.lnk.inFlight = true ∧ p.calibrationOver.lnk.reply = none) ∧
    (p.zeroingDone z = true → p.calibrationOver.bnk.zeroing = none ∧ p.calibrationOver.lnk.requests = rest ∧
      p.calibrationOver.lnk.inFlight = false ∧ p.calibrationOver.lnk.reply =
        some ⟨replyKind (requestKind r), .ok, p.zeroingPayload z, none, 0⟩) ∧
    p.calibrationOver.lnk.tx = p.lnk.tx := by
  obtain ⟨c, q, hc, he⟩ := p.calibrationOver_stages
  obtain ⟨_, _, eq⟩ := hc.lnk
  obtain ⟨_, _, el, _⟩ := he.lnk
  have hzq : q.bnk.zeroing = some z := by rw [hc.bnk]; exact hz
  rw [he.bnk, el]
  have hpay : q.zeroingPayload z = p.zeroingPayload z := by simp only [Part.zeroingPayload, hc.bank]
  rw [← hc.zeroingDone]
  rcases q.zeroingCheck_cases with ⟨e, hnot⟩ | ⟨z', hz', hd, e⟩
  · have hnd := hnot z hzq
    rw [e, eq]
    exact ⟨fun _ => ⟨hzq, hq, hf, hr⟩, fun h => by simp [hnd] at h, rfl⟩
  · obtain rfl : z' = z := by rw [hzq] at hz'; exact (Option.some.inj hz').symm
    have hdone : q.zeroingCheck.bnk.zeroing = none ∧ q.zeroingCheck.lnk = { q.lnk with
        requests := rest, inFlight := false,
        reply := some ⟨replyKind (requestKind r), .ok, q.zeroingPayload z', none, 0⟩ } := by
      rw [e]
      simp [Part.completeHead, Part.formReply, eq, hq, hf]
    rw [hdone.2, eq, hpay]
    exact ⟨fun h => by simp [hd] at h, fun _ => ⟨hdone.1, rfl, rfl, rfl⟩, rfl⟩

/-- The 8th sample of a bank under a BANK_ZERO in flight: the completion, and the rest of the event, which keeps its outcome. -/
theorem bankSample_of_zeroing {s : State} {b : Bank} {c : Word} {mv : Int} {x : Byte} {z : Zeroing} {rest : List Request}
    (ha : (s.part.bank b).acct = .calibrating) (hn : (s.part.bank b).calSamples = 7) (hz : s.part.bnk.zeroing = some z)
    (hq : s.part.lnk.requests = .bankZero x :: rest) (hf : s.part.lnk.inFlight = true) (hr : s.part.lnk.reply = none)
    (ht : s.part.lnk.tx.isSome = true) : ∃ t, exec (.bankSample b c mv) s = .next ⟨t, s.pending⟩ ∧
      let done := ∀ b', b' ≠ b → (s.part.bank b').acct = .calibrating → z.selects b' = false
      (¬ done → t.bnk.zeroing = some z ∧ t.lnk.requests = .bankZero x :: rest ∧ t.lnk.inFlight = true ∧ t.lnk.reply = none) ∧
      (done → t.bnk.zeroing = none ∧ t.lnk.requests = rest ∧ t.lnk.inFlight = false ∧
        t.lnk.reply = some ⟨replyKind (requestKind (.bankZero x)), .ok, t.zeroingPayload z, none, 0⟩) := by
  refine ⟨(s.part.bankSampled b c.toInt (clampToNat 20000 mv)).finish, rfl, ?_⟩
  rw [Part.bankSampled_of_completing ha (by omega)]
  have hdone := s.part.completed_zeroingDone b c.toInt (clampToNat 20000 mv) z
  obtain ⟨ns, lost, e, _⟩ := s.part.completed_eq b c.toInt (clampToNat 20000 mv)
  have hlnk := congrArg Part.lnk e
  have hzc : (s.part.completed b c.toInt (clampToNat 20000 mv)).bnk.zeroing = some z := by
    rw [e]
    cases b <;> exact hz
  generalize s.part.completed b c.toInt (clampToNat 20000 mv) = p at hdone hlnk hzc
  obtain ⟨hopen, hclosed, htx⟩ := Part.calibrationOver_of_zeroing hzc (by rw [hlnk]; exact hq) (by rw [hlnk]; exact hf)
    (by rw [hlnk]; exact hr)
  obtain ⟨hps, hbank⟩ := p.calibrationOver_kept
  generalize p.calibrationOver = o at hopen hclosed htx hbank
  obtain ⟨q, k, hw, eq, hk⟩ := o.published_cases b
  obtain ⟨_, _, el, _⟩ := hw.lnk
  have hbusy : k = q.lnk := hk (by rw [htx, hlnk]; exact ht)
  have hpay : ({ q with lnk := k } : Part).zeroingPayload z = p.zeroingPayload z := by
    rw [Part.zeroingPayload_eq, Part.zeroingPayload_eq, ← hbank, ← hbank, ← hw.bank, ← hw.bank]
    rfl
  rw [eq, hpay]
  dsimp only
  rw [hbusy, hw.bnk, el, ← hdone]
  exact ⟨fun h => hopen (by simpa using h), hclosed⟩

/-- Settles O25: the held reply by the stages of a completion, the refusals by their checks, the acceptance by the raised hold. -/
theorem bankZeroChecksThenCalibrates : Obligations.BankZeroChecksThenCalibrates := by
  refine ⟨fun s b c mv x z rest ha hn hz hq hf hr ht => ?_, fun s x z hr hz => ?_⟩
  · obtain ⟨t, e, hopen, hclosed⟩ := bankSample_of_zeroing (c := c) (mv := mv) ha hn hz hq hf hr ht
    have hsel (b' : Bank) : z.selects b' = match b' with | .A => z.a | .B => z.b := by cases b' <;> rfl
    simp only [hsel] at hopen hclosed
    rw [Part.zeroingPayload_eq] at hclosed
    exact ⟨⟨t, s.pending⟩, e, rfl, hopen, hclosed⟩
  · have hservice (hm : s.part.mdc.mode = .service) := Part.zeroRefusal_of_service hm
    have hloaded := s.part.otherLoadOn_iff
    refine ⟨fun hm => bankZero_refused hr hz (Part.zeroRefusal_of_start hm),
      fun hm => bankZero_refused hr hz (Part.zeroRefusal_of_away hm),
      fun hm hx => bankZero_refused hr hz (by rw [hservice hm, if_pos hx]),
      fun hm hx hl => bankZero_refused hr hz (by rw [hservice hm, if_neg (by simp [hx]), if_pos (hloaded.2 hl)]),
      fun hm hx hl hh => ?_⟩
    obtain ⟨t, e, hrq, hfl, hrp, hbnk, ⟨_, _, hchg⟩, hps, hmdc, hsli⟩ := bankZero_accepted hr hz
      (by rw [hservice hm, if_neg (by simp [hx]), if_neg (fun h => hl (hloaded.1 h))]) hh
    rw [Part.zeroed_eq] at hbnk
    refine ⟨⟨t, s.pending⟩, e, rfl, hrq, hfl, hrp, ?_⟩
    dsimp only [Part.bank]
    rw [hbnk, hchg]
    exact ⟨rfl, rfl, rfl, rfl, rfl, rfl, rfl, rfl, hps, hmdc, hsli⟩

end Sys2Proof.Machine
end

section
/-! PROOFS. The COUNTING sample (R17): each of its steps changes the record of its bank and posts, as a function of that record says,
and a plain sample changes no more than the record and its bus. -/

namespace Sys2Proof.Machine

/-! ### Settings that were written (R10) -/

/-- A written value is read back. -/
theorem Pages.get_set_self {ps : Pages} {page idx : Nat} (v : Word) (h : idx < (ps.getD page []).length) :
    (ps.set page idx v).get page idx = v := by
  have hp : page < List.length ps := by
    by_contra hn
    rw [List.getD_eq_default _ _ (Nat.not_lt.1 hn)] at h
    simp at h
  have hpage : (ps.set page idx v).getD page [] = (ps.getD page []).set idx v := by
    simp only [Pages.set, List.getD_eq_getElem?_getD, List.getElem?_set_self hp, Option.getD_some]
  simp only [Pages.get, hpage, List.getD_eq_getElem?_getD (l := (ps.getD page []).set idx v), List.getElem?_set_self h,
    Option.getD_some]

/-- The other values stay. -/
theorem Pages.get_set_of_ne {ps : Pages} {page idx page' idx' : Nat} (v : Word) (h : page' ≠ page ∨ idx' ≠ idx) :
    (ps.set page idx v).get page' idx' = ps.get page' idx' := by
  unfold Pages.get Pages.set
  by_cases hp : page' = page
  · subst hp
    have hi : idx ≠ idx' := Ne.symm (h.resolve_left (by simp))
    by_cases hl : page' < List.length ps
    · simp only [List.getD_eq_getElem?_getD, List.getElem?_set_self hl, Option.getD_some, List.getElem?_set_ne hi]
    · rw [List.set_eq_of_length_le (Nat.not_lt.1 hl)]
  · simp only [List.getD_eq_getElem?_getD, List.getElem?_set_ne (Ne.symm hp)]

theorem Pages.length_set (ps : Pages) (page idx : Nat) (v : Word) (page' : Nat) :
    ((ps.set page idx v).getD page' []).length = (ps.getD page' []).length := by
  unfold Pages.set
  by_cases hp : page' = page
  · subst hp
    by_cases hl : page' < List.length ps
    · simp [List.getD_eq_getElem?_getD, List.getElem?_set_self hl]
    · rw [List.set_eq_of_length_le (Nat.not_lt.1 hl)]
  · simp only [List.getD_eq_getElem?_getD, List.getElem?_set_ne (Ne.symm hp)]

/-! ### The record of a bank under a sample (R7, R8, R11 to R13, R16) -/

/-- FULL and EMPTY of a counting sample (R8). -/
def BankRec.flagged (r : BankRec) (full : Nat) (raw d : Int) : BankRec := { r with
  full := if r.content * 1000 < full * 995 then false else r.full || (decide (0 < d) && decide ((full : Int) ≤ raw))
  empty := if full * 5 < r.content * 1000 then false else r.empty || (decide (d < 0) && decide (raw ≤ 0)) }

/-- Whether a sample brings a full sync (R11). -/
def BankRec.syncs (r : BankRec) (qualifies : Bool) : Bool := qualifies && decide (600 ≤ r.fullSyncTimer + 1)

/-- The full-sync timer and the full sync (R11). -/
def BankRec.syncStepped (r : BankRec) (full : Nat) (qualifies : Bool) : BankRec := { r with
  content := if r.syncs qualifies then full else r.content
  full := r.syncs qualifies || r.full
  empty := !r.syncs qualifies && r.empty
  estimated := !r.syncs qualifies && r.estimated
  fullSyncTimer := if r.syncs qualifies then 0 else if qualifies then r.fullSyncTimer + 1 else 0 }

/-- Whether the rest time is over with a sample (R12). -/
def BankRec.rests (r : BankRec) (samples : Nat) (quiet : Bool) : Bool := quiet && decide (samples ≤ r.restTimer + 1)

/-- Whether a state of charge differs from that of an OCV lookup by more than the correction band (R13). -/
def offBand (band ocv soc : Nat) : Bool := decide (band < if soc ≤ ocv then ocv - soc else soc - ocv)

theorem offBand_iff (band ocv soc : Nat) : offBand band ocv soc = true ↔ band < max (ocv - soc) (soc - ocv) := by
  unfold offBand
  rw [decide_eq_true_iff]
  split <;> omega

/-- The rest recalibration (R13). -/
def BankRec.recalibrated (r : BankRec) (full : Nat) (ocv : Nat) (off : Bool) : BankRec := { r with
  content := if off then ocv * full / 1000 else r.content
  full := if off then fullRule (ocv * full / 1000) full r.full else r.full
  empty := if off then emptyRule (ocv * full / 1000) full r.empty else r.empty
  estimated := false
  restTimer := 0 }

theorem BankRec.recalibrated_of_off (r : BankRec) (full ocv : Nat) : r.recalibrated full ocv true =
    ({ r with estimated := false, restTimer := 0, content := ocv * full / 1000 }).reevaluated full := rfl

theorem BankRec.recalibrated_of_near (r : BankRec) (full ocv : Nat) : r.recalibrated full ocv false =
    { r with estimated := false, restTimer := 0 } := rfl

/-- The rest timer, AT_REST and the rest recalibration or its skip (R12, R13). -/
def BankRec.restStepped (r : BankRec) (full ocv band samples : Nat) (quiet synced : Bool) : BankRec :=
  if r.rests samples quiet then
    if synced then { r with restTimer := 0, atRest := true }
    else ({ r with restTimer := r.restTimer + 1, atRest := true }).recalibrated full ocv (offBand band ocv (socOf r.content full))
  else { r with restTimer := if quiet then r.restTimer + 1 else 0, atRest := quiet && r.atRest }

/-- From `p` to `q` the record of a bank has become `r`, and notices may have been posted. -/
def Part.BankWork (p : Part) (b : Bank) (r : BankRec) (q : Part) : Prop :=
  ∃ ns lost, q = { p.setBank b r with lnk := { p.lnk with notices := ns, noticeLost := lost } }

namespace Part.BankWork

variable {p q : Part} {b : Bank} {r : BankRec}

theorem self (p : Part) (b : Bank) : p.BankWork b (p.bank b) p := ⟨p.lnk.notices, p.lnk.noticeLost, by cases b <;> rfl⟩

theorem bank (h : p.BankWork b r q) : q.bank b = r := by
  obtain ⟨_, _, rfl⟩ := h
  exact p.bank_setBank b r

theorem bank_of_ne (h : p.BankWork b r q) {b' : Bank} (hb : b' ≠ b) : q.bank b' = p.bank b' := by
  obtain ⟨_, _, rfl⟩ := h
  exact p.bank_setBank_of_ne r hb

/-- Settings, the banks asked for by BANK_ZERO, lines and Mode Control stand. -/
theorem kept (h : p.BankWork b r q) :
    q.params = p.params ∧ q.bnk.zeroing = p.bnk.zeroing ∧ q.sli = p.sli ∧ q.mdc = p.mdc := by
  obtain ⟨_, _, rfl⟩ := h
  cases b <;> exact ⟨rfl, rfl, rfl, rfl⟩

theorem params (h : p.BankWork b r q) : q.params = p.params := h.kept.1

theorem setBank (h : p.BankWork b r q) (x : BankRec) : p.BankWork b x (q.setBank b x) := by
  obtain ⟨ns, lost, rfl⟩ := h
  exact ⟨ns, lost, by cases b <;> rfl⟩

theorem post (h : p.BankWork b r q) (k : NoticeKind) (n : Nat) (d : List Byte) : p.BankWork b r (q.post k n d) := by
  obtain ⟨ns, lost, e, _⟩ := q.post_cases k n d
  obtain ⟨_, _, rfl⟩ := h
  exact ⟨ns, lost, e⟩

theorem postBank (h : p.BankWork b r q) (x : BankCause) : p.BankWork b r (q.postBank b x) := h.post _ _ _

theorem setFull (h : p.BankWork b r q) (v : Bool) : p.BankWork b { r with full := v } (q.setFull b v) := by
  unfold Part.setFull
  rw [h.bank]
  split
  next e => subst e; exact h
  next => exact (h.setBank _).postBank _

theorem setEmpty (h : p.BankWork b r q) (v : Bool) : p.BankWork b { r with empty := v } (q.setEmpty b v) := by
  unfold Part.setEmpty
  rw [h.bank]
  split
  next e => subst e; exact h
  next => exact (h.setBank _).postBank _

theorem reevaluate (h : p.BankWork b r q) :
    p.BankWork b (r.reevaluated (p.params.fullContent b)) (q.reevaluate b) := by
  have hf := h.setFull (fullRule r.content (p.params.fullContent b) r.full)
  unfold Part.reevaluate
  rw [h.bank, h.params]
  dsimp only
  rw [hf.bank]
  exact hf.setEmpty _

theorem countFlags (h : p.BankWork b r q) (raw d : Int) :
    p.BankWork b (r.flagged (p.params.fullContent b) raw d) (q.countFlags b raw d) := by
  have hf := h.setFull (if r.content * 1000 < p.params.fullContent b * 995 then false
    else r.full || (decide (0 < d) && decide ((p.params.fullContent b : Int) ≤ raw)))
  unfold Part.countFlags
  rw [h.bank, h.params]
  dsimp only
  rw [hf.bank]
  exact hf.setEmpty _

theorem syncStep (h : p.BankWork b r q) (mv : Nat) (i : Int) :
    p.BankWork b (r.syncStepped (p.params.fullContent b) (p.syncQualifies b mv i)) (q.syncStep b mv i).1 ∧
      (q.syncStep b mv i).2 = r.syncs (p.syncQualifies b mv i) := by
  have hq : q.syncQualifies b mv i = p.syncQualifies b mv i := by simp only [Part.syncQualifies, h.params]
  have ht := h.setBank { r with fullSyncTimer := r.fullSyncTimer + 1 }
  unfold Part.syncStep Part.fullSync
  rw [hq, h.bank]
  dsimp only
  rw [ht.bank, ht.params]
  cases hc : p.syncQualifies b mv i
  · exact ⟨by simpa [BankRec.syncStepped, BankRec.syncs] using h.setBank { r with fullSyncTimer := 0 }, rfl⟩
  · by_cases ho : 600 ≤ r.fullSyncTimer + 1
    · simp only [if_true, BankRec.syncStepped, BankRec.syncs, ho, decide_true, Bool.and_true, Bool.true_or,
        Bool.not_true, Bool.false_and, and_true]
      exact (ht.setBank _).postBank _
    · simpa [BankRec.syncStepped, BankRec.syncs, ho] using ht

theorem restRecal (h : p.BankWork b r q) (mv : Nat) :
    p.BankWork b (r.recalibrated (p.params.fullContent b) (ocvLookup p.params.ocvTable mv)
      (offBand p.params.correctionBand (ocvLookup p.params.ocvTable mv) (socOf r.content (p.params.fullContent b))))
      (q.restRecal b mv) := by
  have hs : q.bankSoc b = socOf r.content (p.params.fullContent b) := by simp only [Part.bankSoc, h.bank, h.params]
  unfold Part.restRecal
  rw [hs, h.bank, h.params]
  cases ho : offBand p.params.correctionBand (ocvLookup p.params.ocvTable mv) (socOf r.content (p.params.fullContent b))
  · dsimp only
    rw [if_neg (of_decide_eq_false ho), BankRec.recalibrated_of_near]
    exact h.setBank _
  · dsimp only
    rw [if_pos (of_decide_eq_true ho), BankRec.recalibrated_of_off]
    exact ((h.setBank _).reevaluate).postBank _

theorem restStep (h : p.BankWork b r q) (mv : Nat) (i : Int) (synced : Bool) :
    p.BankWork b (r.restStepped (p.params.fullContent b) (ocvLookup p.params.ocvTable mv) p.params.correctionBand
      p.params.restSamples (decide (i.natAbs ≤ p.params.restCurrent)) synced) (q.restStep b mv i synced) := by
  have ht := h.setBank { r with restTimer := r.restTimer + 1 }
  have ha := ht.setBank { r with restTimer := r.restTimer + 1, atRest := true }
  unfold Part.restStep BankRec.restStepped BankRec.rests
  rw [h.bank, h.params]
  dsimp only
  rw [ht.bank, ht.params, ha.bank]
  by_cases hq : i.natAbs ≤ p.params.restCurrent
  · by_cases hr : p.params.restSamples ≤ r.restTimer + 1
    · cases synced
      · simpa [hq, hr] using ha.restRecal mv
      · simpa [hq, hr] using ha.setBank { r with restTimer := 0, atRest := true }
    · simpa [hq, hr] using ht
  · simpa [hq] using h.setBank { r with restTimer := 0, atRest := false }

end Part.BankWork


/-! ### The outcome of steps 5 and 6 (R11 to R13) -/

namespace BankRec

/-- The record after the full-sync and the rest steps. -/
def corrected (w : BankRec) (full ocv band samples : Nat) (qualifies quiet : Bool) : BankRec :=
  (w.syncStepped full qualifies).restStepped full ocv band samples quiet (w.syncs qualifies)

variable (w : BankRec) (full ocv band samples : Nat) (qualifies quiet : Bool)

theorem syncStepped_of_syncs (h : w.syncs qualifies = true) : w.syncStepped full qualifies =
    { w with content := full, full := true, empty := false, estimated := false, fullSyncTimer := 0 } := by
  simp [syncStepped, h]

theorem syncStepped_of_not (h : ¬ w.syncs qualifies = true) : w.syncStepped full qualifies =
    { w with fullSyncTimer := if qualifies then w.fullSyncTimer + 1 else 0 } := by
  simp [syncStepped, h]

theorem syncStepped_rests : (w.syncStepped full qualifies).rests samples quiet = w.rests samples quiet := rfl

/-- The two steps leave the figures of the sample and the counts. -/
theorem corrected_kept : ∃ content full' empty estimated sync rest atRest,
    w.corrected full ocv band samples qualifies quiet = { w with
      content := content, full := full', empty := empty, estimated := estimated, fullSyncTimer := sync, restTimer := rest
      atRest := atRest } := by
  unfold corrected restStepped
  split
  · split <;> exact ⟨_, _, _, _, _, _, _, rfl⟩
  · exact ⟨_, _, _, _, _, _, _, rfl⟩

theorem restStepped_fullSyncTimer (synced : Bool) :
    (w.restStepped full ocv band samples quiet synced).fullSyncTimer = w.fullSyncTimer := by
  unfold restStepped
  split
  · split <;> rfl
  · rfl

theorem corrected_fullSyncTimer (h : ¬ w.syncs qualifies = true) : (w.corrected full ocv band samples qualifies quiet).fullSyncTimer =
    if qualifies then w.fullSyncTimer + 1 else 0 := by
  unfold corrected
  rw [restStepped_fullSyncTimer, syncStepped_of_not _ _ _ h]

/-- After a full sync the content is full, whatever the rest step does. -/
theorem corrected_of_syncs (h : w.syncs qualifies = true) :
    let y := w.corrected full ocv band samples qualifies quiet
    y.content = full ∧ y.full = true ∧ y.empty = false ∧ y.estimated = false ∧ y.fullSyncTimer = 0 := by
  unfold corrected
  rw [h, syncStepped_of_syncs _ _ _ h]
  unfold restStepped
  split <;> exact ⟨rfl, rfl, rfl, rfl, rfl⟩

theorem corrected_of_rests (h : w.rests samples quiet = true) :
    let y := w.corrected full ocv band samples qualifies quiet
    y.estimated = false ∧ y.restTimer = 0 ∧ y.atRest = true := by
  unfold corrected restStepped
  rw [syncStepped_rests, if_pos h]
  split
  next hs => exact ⟨by simp [syncStepped, hs], rfl, rfl⟩
  next => exact ⟨rfl, rfl, rfl⟩

theorem corrected_of_not_rests (h : ¬ w.rests samples quiet = true) :
    let y := w.corrected full ocv band samples qualifies quiet
    y.restTimer = (if quiet then w.restTimer + 1 else 0) ∧ y.atRest = (quiet && w.atRest) := by
  unfold corrected restStepped
  rw [syncStepped_rests, if_neg h]
  exact ⟨rfl, rfl⟩

/-- Neither synced nor rested, the content and its flags stand. -/
theorem corrected_of_neither (hs : ¬ w.syncs qualifies = true) (hr : ¬ w.rests samples quiet = true) :
    let y := w.corrected full ocv band samples qualifies quiet
    y.content = w.content ∧ y.estimated = w.estimated ∧ y.full = w.full ∧ y.empty = w.empty := by
  unfold corrected restStepped
  rw [syncStepped_rests, if_neg hr, syncStepped_of_not _ _ _ hs]
  exact ⟨rfl, rfl, rfl, rfl⟩

/-- A rest time that is over without a full sync takes the content from the OCV lookup where it is off by more than the band. -/
theorem corrected_content (hs : ¬ w.syncs qualifies = true) (hr : w.rests samples quiet = true) :
    (w.corrected full ocv band samples qualifies quiet).content =
      if offBand band ocv (socOf w.content full) then ocv * full / 1000 else w.content := by
  unfold corrected restStepped
  rw [syncStepped_rests, if_pos hr, if_neg hs, syncStepped_of_not _ _ _ hs]
  rfl

/-- The full-sync step and the rest step by their conditions, as R11 to R13 state them. -/
theorem corrected_rules {qualified still : Bool} {qualifies quiet : Prop} (hqual : qualified = true ↔ qualifies)
    (hquiet : still = true ↔ quiet) :
    let y := w.corrected full ocv band samples qualified still
    let sync := qualifies ∧ 600 ≤ w.fullSyncTimer + 1
    let rested := quiet ∧ samples ≤ w.restTimer + 1
    let off := band < max (ocv - w.content * 1000 / full) (w.content * 1000 / full - ocv)
    (sync → y.content = full ∧ y.full = true ∧ y.empty = false ∧ y.estimated = false ∧ y.fullSyncTimer = 0) ∧
    (qualifies → ¬ sync → y.fullSyncTimer = w.fullSyncTimer + 1) ∧ (¬ qualifies → y.fullSyncTimer = 0) ∧
    (rested ∧ ¬ sync ∧ off → y.content = ocv * full / 1000) ∧
    (rested → y.estimated = false ∧ y.restTimer = 0 ∧ y.atRest = true) ∧
    (quiet → ¬ rested → y.restTimer = w.restTimer + 1 ∧ y.atRest = w.atRest) ∧
    (¬ quiet → y.restTimer = 0 ∧ y.atRest = false) ∧
    (¬ sync → ¬ (rested ∧ ¬ sync ∧ off) → y.content = w.content) ∧
    (¬ sync → ¬ rested → y.estimated = w.estimated ∧ y.full = w.full ∧ y.empty = w.empty) := by
  intro y sync rested off
  have hsync : w.syncs qualified = true ↔ sync := by rw [syncs, Bool.and_eq_true, hqual, decide_eq_true_iff]
  have hrested : w.rests samples still = true ↔ rested := by rw [rests, Bool.and_eq_true, hquiet, decide_eq_true_iff]
  have hoff : offBand band ocv (socOf w.content full) = true ↔ off := offBand_iff ..
  have htimer := w.corrected_fullSyncTimer full ocv band samples qualified still
  have hmoves := w.corrected_of_not_rests full ocv band samples qualified still
  have hneither := w.corrected_of_neither full ocv band samples qualified still
  have hrecal := w.corrected_content full ocv band samples qualified still
  rw [hsync] at htimer hneither hrecal
  rw [hrested] at hmoves hneither hrecal
  refine ⟨fun h => w.corrected_of_syncs full ocv band samples qualified still (hsync.2 h), fun hq hs => ?_, fun hq => ?_,
    fun ⟨hr, hs, ho⟩ => ?_, fun h => w.corrected_of_rests full ocv band samples qualified still (hrested.2 h), fun hq hr => ?_,
    fun hq => ?_, fun hs hc => ?_, fun hs hr => (hneither hs hr).2⟩
  · rw [htimer hs, if_pos (hqual.2 hq)]
  · rw [htimer fun hs => hq hs.1, if_neg (mt hqual.1 hq)]
  · rw [hrecal hs hr, if_pos (hoff.2 ho)]
  · obtain ⟨h1, h2⟩ := hmoves hr
    rw [h1, h2, if_pos (hquiet.2 hq), hquiet.2 hq]
    exact ⟨rfl, rfl⟩
  · obtain ⟨h1, h2⟩ := hmoves fun hr => hq hr.1
    rw [h1, h2, if_neg (mt hquiet.1 hq), Bool.eq_false_iff.2 (mt hquiet.1 hq)]
    exact ⟨rfl, rfl⟩
  · by_cases hr : rested
    · rw [hrecal hs hr, if_neg (mt hoff.1 fun ho => hc ⟨hr, hs, ho⟩)]
    · exact (hneither hs hr).1

/-- The counts and the time to empty (R10, R16). -/
theorem timed_eq (r : BankRec) : r.timed = { r with
    secondCount := if r.secondCount = 9 then 0 else r.secondCount + 1
    minuteCount := if 599 ≤ r.minuteCount then 0 else r.minuteCount + 1
    minuteSum := if 599 ≤ r.minuteCount then 0 else r.minuteSum
    timeToEmpty := if 599 ≤ r.minuteCount then emptyMinutes r.minuteSum r.content else r.timeToEmpty } := by
  unfold timed
  by_cases h : 599 ≤ r.minuteCount <;> simp [h]

/-- The record of a bank after steps 2 to 8 of a counting sample with a current and a charge increment (R17). -/
def counted (r : BankRec) (ps : Pages) (b : Bank) (count : Int) (mv : Nat) (i d : Int) : BankRec :=
  (((r.accumulated count mv i d (ps.fullContent b)).flagged (ps.fullContent b) (r.content + d) d).corrected
    (ps.fullContent b) (ocvLookup ps.ocvTable mv) ps.correctionBand ps.restSamples
    (decide (0 < i) && decide (ps.fullVoltage b ≤ mv) && decide (i ≤ ps.tailCurrent b))
    (decide (i.natAbs ≤ ps.restCurrent))).timed

/-- The record with the pending values of a whole second applied (R10). -/
def applied (r : BankRec) : BankRec := { r with
  pendingGain := if r.secondCount = 0 then none else r.pendingGain
  pendingEff := if r.secondCount = 0 then none else r.pendingEff }

/-- The record of a bank after a counting sample, with the gain and the efficiency of the pages applied (R17). -/
def sampled (r : BankRec) (ps : Pages) (b : Bank) (count : Int) (mv : Nat) : BankRec :=
  let i := sampleCurrent count r.offset (ps.gain b)
  r.applied.counted ps b count mv i (chargeIncrement i (ps.efficiency b))

end BankRec

/-! ### The pending values (R10) -/

/-- The pages with a pending value of the first page applied. -/
def Pages.withPending (ps : Pages) (idx : Nat) : Option Nat → Pages
  | some v => ps.set 1 idx (BitVec.ofNat 16 v)
  | none => ps

theorem Pages.withPending_self (ps : Pages) {idx : Nat} (h : idx < (ps.getD 1 []).length) (o : Option Nat) :
    (ps.withPending idx o).nat 1 idx = (o.map (· % 65536)).getD (ps.nat 1 idx) := by
  cases o with
  | none => rfl
  | some v => simp [Pages.withPending, Pages.nat, Pages.get_set_self _ h]

theorem Pages.withPending_of_ne (ps : Pages) {idx page' idx' : Nat} (h : page' ≠ 1 ∨ idx' ≠ idx) (o : Option Nat) :
    (ps.withPending idx o).get page' idx' = ps.get page' idx' := by
  cases o with
  | none => rfl
  | some v => exact Pages.get_set_of_ne _ h

theorem Pages.length_withPending (ps : Pages) (idx : Nat) (o : Option Nat) :
    ((ps.withPending idx o).getD 1 []).length = (ps.getD 1 []).length := by
  cases o with
  | none => rfl
  | some v => exact Pages.length_set ..

/-- The pages after the first step of a counting sample (R10, R17). -/
def Pages.applied (ps : Pages) (b : Bank) (r : BankRec) : Pages :=
  if r.secondCount = 0 then (ps.withPending (3 + bankIdx b) r.pendingGain).withPending (5 + bankIdx b) r.pendingEff else ps

section

variable (ps : Pages) (b : Bank) (r : BankRec)

theorem Pages.applied_of_ne {page idx : Nat} (h : page ≠ 1 ∨ (idx ≠ 3 + bankIdx b ∧ idx ≠ 5 + bankIdx b)) :
    (ps.applied b r).get page idx = ps.get page idx := by
  unfold Pages.applied
  split
  · rw [Pages.withPending_of_ne _ (h.imp_right And.right), Pages.withPending_of_ne _ (h.imp_right And.left)]
  · rfl

theorem Pages.applied_nat_of_ne {page idx : Nat} (h : page ≠ 1 ∨ (idx ≠ 3 + bankIdx b ∧ idx ≠ 5 + bankIdx b)) :
    (ps.applied b r).nat page idx = ps.nat page idx := by
  simp only [Pages.nat, ps.applied_of_ne b r h]

theorem Pages.applied_gain (h : 7 ≤ (ps.getD 1 []).length) : (ps.applied b r).gain b =
    if r.secondCount = 0 then (r.pendingGain.map (· % 65536)).getD (ps.gain b) else ps.gain b := by
  unfold Pages.applied Pages.gain
  split
  · have hne : 3 + bankIdx b ≠ 5 + bankIdx b := by omega
    have hlt : 3 + bankIdx b < (ps.getD 1 []).length := by cases b <;> simp only [bankIdx] <;> omega
    rw [Pages.nat, Pages.withPending_of_ne _ (.inr hne)]
    exact ps.withPending_self hlt _
  · rfl

theorem Pages.applied_efficiency (h : 7 ≤ (ps.getD 1 []).length) : (ps.applied b r).efficiency b =
    if r.secondCount = 0 then (r.pendingEff.map (· % 65536)).getD (ps.efficiency b) else ps.efficiency b := by
  unfold Pages.applied Pages.efficiency
  split
  · have hne : 5 + bankIdx b ≠ 3 + bankIdx b := by omega
    have hlt : 5 + bankIdx b < ((ps.withPending (3 + bankIdx b) r.pendingGain).getD 1 []).length := by
      rw [Pages.length_withPending]
      cases b <;> simp only [bankIdx] <;> omega
    rw [Pages.withPending_self _ hlt]
    simp only [Pages.nat, Pages.withPending_of_ne _ (.inr hne)]
  · rfl

/-- The settings that a counting sample reads, other than gain and efficiency, are not pending ones. -/
theorem Pages.applied_read : (ps.applied b r).fullContent b = ps.fullContent b ∧
    (ps.applied b r).fullVoltage b = ps.fullVoltage b ∧ (ps.applied b r).tailCurrent b = ps.tailCurrent b ∧
    (ps.applied b r).restCurrent = ps.restCurrent ∧ (ps.applied b r).restSamples = ps.restSamples ∧
    (ps.applied b r).correctionBand = ps.correctionBand ∧ (ps.applied b r).ocvTable = ps.ocvTable := by
  have hi : bankIdx b ≤ 1 := by cases b <;> simp [bankIdx]
  have h (idx : Nat) (hx : idx < 3 ∨ 6 < idx) : (ps.applied b r).nat 1 idx = ps.nat 1 idx :=
    ps.applied_nat_of_ne b r (.inr (by omega))
  have hchem : (ps.applied b r).chemistry = ps.chemistry := by unfold Pages.chemistry; rw [h 0 (by omega)]
  refine ⟨?_, h _ (by omega), h _ (by omega), h _ (by omega), ?_, h _ (by omega), ?_⟩
  · unfold Pages.fullContent Pages.capacity
    rw [h _ (by omega)]
  · unfold Pages.restSamples
    rw [h _ (by omega)]
  · unfold Pages.ocvTable
    rw [hchem]
    refine List.map_congr_left fun k _ => ?_
    cases ps.chemistry <;> simp only [Pages.ocvPoint] <;> rw [h _ (by omega), h _ (by omega)]

end

/-! ### The counting sample of the part (R17) -/

/-- A pending value of the first page comes into force, with its notice. -/
theorem Part.applyGain_work (p : Part) (b : Bank) :
    ({ p with params := p.params.withPending (3 + bankIdx b) (p.bank b).pendingGain } : Part).BankWork b
      { p.bank b with pendingGain := none } (p.applyGain b) := by
  unfold Part.applyGain
  split
  next v h =>
    refine Part.BankWork.post ?_ _ _ _
    refine ⟨p.lnk.notices, p.lnk.noticeLost, ?_⟩
    rw [h]
    cases b <;> rfl
  next h =>
    have e : ({ p.bank b with pendingGain := none } : BankRec) = p.bank b := by rw [← h]
    rw [e, h]
    exact .self p b

theorem Part.applyEff_work (p : Part) (b : Bank) :
    ({ p with params := p.params.withPending (5 + bankIdx b) (p.bank b).pendingEff } : Part).BankWork b
      { p.bank b with pendingEff := none } (p.applyEff b) := by
  unfold Part.applyEff
  split
  next v h =>
    refine Part.BankWork.post ?_ _ _ _
    refine ⟨p.lnk.notices, p.lnk.noticeLost, ?_⟩
    rw [h]
    cases b <;> rfl
  next h =>
    have e : ({ p.bank b with pendingEff := none } : BankRec) = p.bank b := by rw [← h]
    rw [e, h]
    exact .self p b

/-- The first step of a counting sample. -/
def Part.applied (p : Part) (b : Bank) : Part := if (p.bank b).secondCount = 0 then (p.applyGain b).applyEff b else p

theorem Part.applied_work (p : Part) (b : Bank) :
    ({ p with params := p.params.applied b (p.bank b) } : Part).BankWork b (p.bank b).applied (p.applied b) := by
  unfold Part.applied Pages.applied BankRec.applied
  split
  next h =>
    have hg := p.applyGain_work b
    have he := (p.applyGain b).applyEff_work b
    rw [hg.bank, hg.params] at he
    obtain ⟨ns, lost, e⟩ := he
    obtain ⟨_, _, eg⟩ := hg
    refine ⟨ns, lost, ?_⟩
    rw [e, eg]
    cases b <;> rfl
  next => exact .self p b

/-- Steps 2 to 8 of a counting sample with a current and a charge increment (R17). -/
def Part.counted (p : Part) (b : Bank) (count : Int) (mv : Nat) (i d : Int) : Part :=
  let r := p.bank b
  let q := (p.setBank b (r.accumulated count mv i d (p.params.fullContent b))).countFlags b (r.content + d) d
  let s := q.syncStep b mv i
  let q := s.1.restStep b mv i s.2
  q.setBank b (q.bank b).timed

theorem Part.countingSample_eq (p : Part) (b : Bank) (count : Int) (mv : Nat) : p.countingSample b count mv =
    let q := p.applied b
    let i := sampleCurrent count (q.bank b).offset (q.params.gain b)
    q.counted b count mv i (chargeIncrement i (q.params.efficiency b)) := rfl

/-- Steps 2 to 8 change the record of the bank as `BankRec.counted` says. -/
theorem Part.BankWork.counted {p q : Part} {b : Bank} {r : BankRec} (h : p.BankWork b r q) (count : Int) (mv : Nat) (i d : Int) :
    p.BankWork b (r.counted p.params b count mv i d) (q.counted b count mv i d) := by
  have hf := (h.setBank (r.accumulated count mv i d (p.params.fullContent b))).countFlags (r.content + d) d
  obtain ⟨hs, hsync⟩ := hf.syncStep mv i
  have hr := hs.restStep mv i
    (((r.accumulated count mv i d (p.params.fullContent b)).flagged (p.params.fullContent b) (r.content + d) d).syncs
      (p.syncQualifies b mv i))
  unfold Part.counted
  rw [h.bank, h.params]
  dsimp only
  rw [hsync, hr.bank]
  exact hr.setBank _

/-- A counting sample changes the record of its bank, and the two settings that were pending. -/
theorem Part.countingSample_work (p : Part) (b : Bank) (c : Int) (mv : Nat) :
    ({ p with params := p.params.applied b (p.bank b) } : Part).BankWork b
      ((p.bank b).sampled (p.params.applied b (p.bank b)) b c mv) (p.countingSample b c mv) := by
  have ha := p.applied_work b
  rw [p.countingSample_eq]
  dsimp only
  rw [ha.bank, ha.params]
  exact ha.counted c mv _ _

/-! ### The event of a sample -/

/-- Steps 1 to 4 of a sample write the figures of the sample, the content and its two flags by the rules of R8. -/
theorem BankRec.flagged_accumulated (r : BankRec) (count : Int) (mv : Nat) (i d : Int) (full : Nat) : ∃ f e,
    (r.applied.accumulated count mv i d full).flagged full (r.content + d) d = { r with
      pendingGain := if r.secondCount = 0 then none else r.pendingGain
      pendingEff := if r.secondCount = 0 then none else r.pendingEff
      lastVoltage := some mv, lastCurrent := some i, currentSat := decide (count = -32768 ∨ count = 32767)
      minuteSum := r.minuteSum + d, content := min full (r.content + d).toNat, full := f, empty := e } ∧
    (f = true ↔ full * 995 ≤ min full (r.content + d).toNat * 1000 ∧ (r.full = true ∨ 0 < d ∧ (full : Int) ≤ r.content + d)) ∧
    (e = true ↔ min full (r.content + d).toNat * 1000 ≤ full * 5 ∧ (r.empty = true ∨ d < 0 ∧ (r.content : Int) + d ≤ 0)) := by
  simp only [BankRec.flagged, BankRec.accumulated, BankRec.applied, saturated_eq, clampToNat]
  refine ⟨_, _, rfl, ?_, ?_⟩ <;> generalize min full (r.content + d).toNat = c1 <;> split <;> simp <;> omega

/-- The event of a COUNTING sample: the sample, and work that leaves its record. -/
theorem bankSample_counting {s : State} {b : Bank} (c : Word) (mv : Int) (h : (s.part.bank b).acct = .counting) :
    ∃ t, exec (.bankSample b c mv) s = .next ⟨t, s.pending⟩ ∧
      t.bank b = (s.part.bank b).sampled (s.part.params.applied b (s.part.bank b)) b c.toInt (min 20000 mv.toNat) ∧
      t.params = s.part.params.applied b (s.part.bank b) ∧ (∀ b', b' ≠ b → t.bank b' = s.part.bank b') ∧
      t.bnk.zeroing = s.part.bnk.zeroing ∧ t.sli = s.part.sli ∧ t.mdc = s.part.mdc := by
  have hs : s.part.bankSampled b c.toInt (clampToNat 20000 mv) =
      (s.part.countingSample b c.toInt (min 20000 mv.toNat)).publishBank b := by
    simp only [Part.bankSampled, h, clampToNat]
  have hw := s.part.countingSample_work b c.toInt (min 20000 mv.toNat)
  obtain ⟨hps, hz, hsli, hmdc⟩ := hw.kept
  obtain ⟨q, k, hq, e, _⟩ := (s.part.countingSample b c.toInt (min 20000 mv.toNat)).published_cases b
  refine ⟨{ q with lnk := k }, ?_, (hq.bank b).trans hw.bank, hq.params.trans hps, fun b' hb => ?_, ?_, hq.sli.trans hsli,
    hq.mdc.trans hmdc⟩
  · rw [← e, ← hs]; rfl
  · refine (hq.bank b').trans ((hw.bank_of_ne hb).trans ?_)
    cases b' <;> rfl
  · exact (congrArg Bnk.zeroing hq.bnk).trans hz

/-- The event of a COUNTING sample in the terms of its bank's record: steps 1 to 4 have written `w`, whose FULL and EMPTY are `f` and
`e`; then come the full-sync step, the rest step and the counts. -/
theorem bankSample_stages {s : State} {b : Bank} {c : Word} {mv : Int} {r : BankRec} {ps : Pages} {v full gain eff : Nat} {i d : Int}
    (hr : s.part.bank b = r) (hps : s.part.params = ps) (ha : r.acct = .counting) (hlen : 7 ≤ (ps.getD 1 []).length)
    (hv : min 20000 mv.toNat = v) (hfull : ps.fullContent b = full)
    (hgain : (if r.secondCount = 0 then (r.pendingGain.map (· % 65536)).getD (ps.gain b) else ps.gain b) = gain)
    (heff : (if r.secondCount = 0 then (r.pendingEff.map (· % 65536)).getD (ps.efficiency b) else ps.efficiency b) = eff)
    (hi : divHalfAway ((c.toInt - r.offset) * gain) 1024 = i) (hd : (if 0 < i then i * eff / 1000 else i) = d) :
    ∃ t w f e, exec (.bankSample b c mv) s = .next ⟨t, s.pending⟩ ∧
      t.bank b = (w.corrected full (ocvLookup ps.ocvTable v) ps.correctionBand ps.restSamples
        (decide (0 < i) && decide (ps.fullVoltage b ≤ v) && decide (i ≤ ps.tailCurrent b))
        (decide (i.natAbs ≤ ps.restCurrent))).timed ∧
      w = { r with
        pendingGain := if r.secondCount = 0 then none else r.pendingGain
        pendingEff := if r.secondCount = 0 then none else r.pendingEff
        lastVoltage := some v, lastCurrent := some i, currentSat := decide (c.toInt = -32768 ∨ c.toInt = 32767)
        minuteSum := r.minuteSum + d, content := min full (r.content + d).toNat, full := f, empty := e } ∧
      (f = true ↔ full * 995 ≤ min full (r.content + d).toNat * 1000 ∧ (r.full = true ∨ 0 < d ∧ (full : Int) ≤ r.content + d)) ∧
      (e = true ↔ min full (r.content + d).toNat * 1000 ≤ full * 5 ∧ (r.empty = true ∨ d < 0 ∧ (r.content : Int) + d ≤ 0)) ∧
      t.params = ps.applied b r ∧ t.params.gain b = gain ∧ t.params.efficiency b = eff ∧
      (∀ b', b' ≠ b → t.bank b' = s.part.bank b') ∧ t.bnk.zeroing = s.part.bnk.zeroing ∧ t.sli = s.part.sli ∧
      t.mdc = s.part.mdc := by
  subst hr
  obtain ⟨t, he, hbank, htps, hkept⟩ := bankSample_counting c mv ha
  rw [hps] at hbank htps
  obtain ⟨hfull', hvolt, htail, hrest, hsamples, hband, hocv⟩ := ps.applied_read b (s.part.bank b)
  rw [← ps.applied_gain b _ hlen] at hgain
  rw [← ps.applied_efficiency b _ hlen] at heff
  obtain ⟨f, e, hsample, hf, hem⟩ := (s.part.bank b).flagged_accumulated c.toInt v i d full
  refine ⟨t, _, f, e, he, ?_, hsample, hf, hem, htps, htps ▸ hgain, htps ▸ heff, hkept⟩
  have hi' : sampleCurrent c.toInt (s.part.bank b).offset gain = i := hi
  have hd' : chargeIncrement i eff = d := hd
  rw [hbank]
  unfold BankRec.sampled BankRec.counted
  rw [hgain, heff, hfull', hvolt, htail, hrest, hsamples, hband, hocv, hfull, hv]
  dsimp only
  rw [hi', hd']
  rfl

/-! ### A plain sample -/

theorem Part.setBank_setBank (p : Part) (b : Bank) (x y : BankRec) : (p.setBank b x).setBank b y = p.setBank b y := by
  cases b <;> rfl

theorem Part.setBus_setBus (p : Part) (b : BusName) (x y : BusRec) : (p.setBus b x).setBus b y = p.setBus b y := by
  cases b <;> rfl

theorem Part.setFull_of_eq {p : Part} {b : Bank} {v : Bool} (h : (p.bank b).full = v) : p.setFull b v = p := if_pos h

theorem Part.setEmpty_of_eq {p : Part} {b : Bank} {v : Bool} (h : (p.bank b).empty = v) : p.setEmpty b v = p := if_pos h

/-- A discharge that leaves more than 5 ‰ of a bank neither FULL nor EMPTY posts nothing (R8). -/
theorem Part.countFlags_of_plain {p : Part} {b : Bank} {raw d : Int} (hf : (p.bank b).full = false) (he : (p.bank b).empty = false)
    (hd : d < 0) (hc : p.params.fullContent b * 5 < (p.bank b).content * 1000) : p.countFlags b raw d = p := by
  unfold Part.countFlags
  have hpos : decide (0 < d) = false := decide_eq_false (by omega)
  dsimp only
  rw [hpos, hf, Bool.false_and, Bool.or_false, ite_self, Part.setFull_of_eq hf, if_pos hc, Part.setEmpty_of_eq he]

/-- A discharge that is above the rest current resets the full-sync timer and the rest timer (R11, R12). -/
theorem Part.counted_of_plain {p : Part} {b : Bank} {count : Int} {mv : Nat} {i : Int} (hi : i < 0)
    (hrest : p.params.restCurrent < i.natAbs) (hf : (p.bank b).full = false)
    (he : (p.bank b).empty = false) (hlow : p.params.fullContent b * 5 < ((p.bank b).content + i).toNat * 1000)
    (hcap : ((p.bank b).content + i).toNat ≤ p.params.fullContent b) (hm : (p.bank b).minuteCount < 599) :
    p.counted b count mv i i = p.setBank b { p.bank b with
      lastVoltage := some mv, lastCurrent := some i, currentSat := decide (count = -32768 ∨ count = 32767)
      content := ((p.bank b).content + i).toNat, fullSyncTimer := 0, restTimer := 0, atRest := false
      secondCount := if (p.bank b).secondCount = 9 then 0 else (p.bank b).secondCount + 1
      minuteCount := (p.bank b).minuteCount + 1, minuteSum := (p.bank b).minuteSum + i } := by
  have hx : (p.bank b).accumulated count mv i i (p.params.fullContent b) = { p.bank b with
      lastVoltage := some mv, lastCurrent := some i, currentSat := decide (count = -32768 ∨ count = 32767)
      minuteSum := (p.bank b).minuteSum + i, content := ((p.bank b).content + i).toNat } := by
    simp only [BankRec.accumulated, clampToNat, saturated_eq, min_eq_right hcap]
  have hflags := Part.countFlags_of_plain (p := p.setBank b ((p.bank b).accumulated count mv i i (p.params.fullContent b)))
    (b := b) (raw := (p.bank b).content + i) (d := i) (by rw [Part.bank_setBank, hx]; exact hf)
    (by rw [Part.bank_setBank, hx]; exact he) hi (by rw [Part.bank_setBank, hx, Part.setBank_params]; exact hlow)
  have hpos : decide (0 < i) = false := decide_eq_false (by omega)
  have hmin : ¬ 599 ≤ (p.bank b).minuteCount := by omega
  unfold Part.counted
  dsimp only
  rw [hflags, hx]
  simp only [Part.syncStep, Part.syncQualifies, hpos, Bool.false_and, Bool.false_eq_true, if_false, Part.restStep,
    Part.setBank_setBank, Part.bank_setBank, Part.setBank_params, if_neg (Nat.not_le.2 hrest), BankRec.timed, if_neg hmin]

theorem Part.floorCheck_of_empty {p : Part} {b : BusName} (h : (p.bus b).onList = []) : p.floorCheck b = p := by
  simp [Part.floorCheck, Part.victims, Part.shedAll, Part.motorCut, h]

/-- A publication of a bus without loads at or above its cut writes its values alone (R48, R49). -/
theorem Part.publish_of_plain {p : Part} {b : BusName} {soc v : Nat} (hl : (p.bus b).onList = []) (hu : (p.bus b).uvFlag = false)
    (hv : busCutOf p.params b ≤ v) : p.publish b soc (some v) =
      p.setBus b { p.bus b with soc := soc, voltage := some v, belowCut := none } := by
  have hj : (p.setBus b { p.bus b with soc := soc, voltage := some v }).undervoltageJudge b =
      p.setBus b { p.bus b with soc := soc, voltage := some v, belowCut := none } := by
    simp only [Part.undervoltageJudge, Part.bus_setBus, Part.setBus_params, if_neg (Nat.not_lt.2 hv), hu, Bool.false_and,
      Bool.false_eq_true, if_false, Part.setBus_setBus]
  unfold Part.publish
  rw [hj, Part.floorCheck_of_empty (by rw [Part.bus_setBus]; exact hl)]

/-- While the tie is SPLIT, a bank publishes its own values to its own bus (R18). -/
theorem Part.publishBank_of_split {p : Part} (h : p.chg.tieRelay = .split) (b : Bank) : p.publishBank b =
    p.publish (p.busOfBank b) (p.bankSoc b) (p.bank b).lastVoltage := by
  cases b <;> simp [Part.publishBank, Part.busOfBank, h]

theorem Part.busOfBank_setBank (p : Part) (b : Bank) (x : BankRec) (b' : Bank) :
    (p.setBank b x).busOfBank b' = p.busOfBank b' := by
  simp only [Part.busOfBank, Part.setBank_chg]

theorem Part.countingSample_of_between {p : Part} {b : Bank} (h : (p.bank b).secondCount ≠ 0) (count : Int) (mv : Nat) :
    p.countingSample b count mv =
      let i := sampleCurrent count (p.bank b).offset (p.params.gain b)
      p.counted b count mv i (chargeIncrement i (p.params.efficiency b)) := by
  have ha : p.applied b = p := if_neg h
  rw [p.countingSample_eq, ha]

/-! ### The obligation -/

/-- Settles O24: the steps of a sample by the record that they leave, condition by condition; a plain sample by its exact part. -/
theorem countingSampleDoesItsWorkInOrder : Obligations.CountingSampleDoesItsWorkInOrder := by
  refine ⟨fun s b c mv => ?_, fun s b c mv => ?_⟩
  · intro p r hr hlen v gain eff i d full c1 qualifies sync quiet rested ocv off corrected
    obtain ⟨t, w, _, _, he, hbank, hsample, hfullFlag, hemptyFlag, hps, hgain, heff, hother, hz, hsli, hmdc⟩ :=
      bankSample_stages (s := s) (b := b) (c := c) (mv := mv) (r := r) (ps := p.params) (v := v) (full := full) (gain := gain)
        (eff := eff) (i := i) (d := d) rfl rfl hr hlen rfl rfl rfl rfl rfl rfl
    clear_value full
    refine ⟨⟨t, s.pending⟩, he, rfl, ?_⟩
    intro x
    generalize hy : w.corrected full (ocvLookup p.params.ocvTable v) p.params.correctionBand p.params.restSamples
      (decide (0 < i) && decide (p.params.fullVoltage b ≤ v) && decide (i ≤ p.params.tailCurrent b))
      (decide (i.natAbs ≤ p.params.restCurrent)) = y at hbank
    have hx : x = y.timed := hbank
    obtain ⟨_, _, _, _, _, _, _, hkept⟩ := w.corrected_kept full ocv p.params.correctionBand p.params.restSamples
      (decide (0 < i) && decide (p.params.fullVoltage b ≤ v) && decide (i ≤ p.params.tailCurrent b))
      (decide (i.natAbs ≤ p.params.restCurrent))
    have hqual : (decide (0 < i) && decide (p.params.fullVoltage b ≤ v) && decide (i ≤ p.params.tailCurrent b)) = true ↔
        qualifies := by
      simp [qualifies, and_assoc]
    have hrules := w.corrected_rules full ocv p.params.correctionBand p.params.restSamples (quiet := quiet) hqual
      decide_eq_true_iff
    change w.corrected full ocv _ _ _ _ = y at hy
    rw [hy] at hkept hrules
    rw [hsample] at hkept hrules
    obtain ⟨hsync, htimer, hreset, hrecal, hrested, hrests, hmoves, hcontent, hneither⟩ := hrules
    rw [hx, BankRec.timed_eq]
    dsimp only at hcontent ⊢
    refine ⟨hgain, heff, ?_, ?_, ?_, ?_, ?_, ?_, ?_, hsync, htimer, hreset, hrecal, hrested, hrests, hmoves, hcontent,
      fun hs hr => ?_, ?_, fun hm => ?_, fun hm => ?_, hother, hz, fun page idx h => ?_, hsli, hmdc⟩
    case refine_8 =>
      obtain ⟨h1, h2, h3⟩ := hneither hs hr
      rw [h1, h2, h3]
      exact ⟨rfl, hfullFlag, hemptyFlag⟩
    case refine_10 =>
      rw [hkept]
      simp only [if_neg (show ¬ 599 ≤ r.minuteCount by omega), and_self]
    case refine_11 =>
      rw [hkept]
      simp only [if_pos (show 599 ≤ r.minuteCount by omega), true_and]
      rfl
    case refine_12 => exact (congrArg (Pages.get · page idx) hps).trans (p.params.applied_of_ne b r h)
    case refine_3 => rw [hkept]; exact hr
    all_goals rw [hkept]
  · intro p r v i full bus ha hs hm ho ht hi hrest _ hf he hlow hcap hlist huv hcut
    have hbus : p.busOfBank b = bus := by
      simp only [Part.busOfBank, ht]
      cases b <;> rfl
    have hd : chargeIncrement i (p.params.efficiency b) = i := if_neg (by omega)
    have hcount := Part.counted_of_plain (p := p) (count := c.toInt) (mv := v) hi hrest hf he hlow hcap hm
    have hsample : p.bankSampled b c.toInt (clampToNat 20000 mv) = (p.counted b c.toInt v i i).publishBank b := by
      simp only [Part.bankSampled, show (p.bank b).acct = .counting from ha]
      rw [Part.countingSample_of_between hs]
      dsimp only
      rw [show sampleCurrent c.toInt (p.bank b).offset (p.params.gain b) = i from rfl, hd]
      rfl
    refine leadsTo_of_event (f := (·.bankSampled b c.toInt (clampToNat 20000 mv))) rfl ?_ ?_
    · change p.bankSampled b c.toInt (clampToNat 20000 mv) = _
      rw [hsample, hcount, Part.publishBank_of_split (by rw [Part.setBank_chg]; exact ht), Part.bank_setBank, Part.bankSoc,
        Part.bank_setBank, Part.setBank_params, Part.busOfBank_setBank, hbus, Part.publish_of_plain, Part.setBank_bus_read]
      · rfl
      · rw [Part.setBank_bus_read]; exact hlist
      · rw [Part.setBank_bus_read]; exact huv
      · rw [Part.setBank_params]; exact hcut
    · rw [Part.setBus_outbox, Part.setBank_outbox]
      exact ho

end Sys2Proof.Machine
end

section
/-! PROOFS. The starter samples (R29 to R31, R190): the split relay opens at 100 low samples, and closes when every condition of R30
holds. -/

namespace Sys2Proof.Machine

/-- The conditions under which the split relay closes, but for its being OPEN (R30). -/
def Part.SplitCloses (p : Part) : Prop :=
  p.dplus = true ∧ p.chg.dplusCount = 50 ∧ p.chg.highCount = 50 ∧ p.chg.coldInhibit = none ∧ p.chg.calHold = false

theorem Part.evalSplitClose_of_closes {p : Part} (ho : p.chg.splitClosed = false) (h : p.SplitCloses) :
    p.evalSplitClose = ({ p with chg := { p.chg with splitClosed := true } }).postCharge .split .closed := by
  obtain ⟨hd, hdc, hh, hi, hc⟩ := h
  unfold Part.evalSplitClose
  rw [if_pos (by simp [ho, hd, hdc, hh, hi, hc])]

theorem Part.evalSplitClose_of_closed {p : Part} (h : p.chg.splitClosed = true) : p.evalSplitClose = p := by
  unfold Part.evalSplitClose
  rw [if_neg (by simp [h])]

theorem Part.evalSplitClose_of_not {p : Part} (h : ¬ p.SplitCloses) : p.evalSplitClose = p := by
  refine if_neg fun hc => h ?_
  simp only [Bool.and_eq_true, Bool.not_eq_true', beq_iff_eq, Option.isNone_iff_eq_none] at hc
  obtain ⟨⟨⟨⟨⟨_, hd⟩, hdc⟩, hh⟩, hi⟩, hcal⟩ := hc
  exact ⟨hd, hdc, hh, hi, hcal⟩

theorem Part.openSplit_of_open {p : Part} (h : p.chg.splitClosed = false) (x : ChargeCause) : p.openSplit x = p :=
  if_neg (by simp [h])

theorem Part.openSplit_of_closed {p : Part} (h : p.chg.splitClosed = true) (x : ChargeCause) :
    p.openSplit x = ({ p with chg := { p.chg with splitClosed := false } }).postCharge .split x := if_pos h

/-- The part with the voltage and the three counts of a starter sample (R29, R190). -/
def Part.starterCounted (p : Part) (mv : Nat) : Part :=
  { p with mdc := { p.mdc with starterVoltage := some mv }, chg := p.chg.counted mv p.dplus }

theorem Part.starterSampled_eq (p : Part) (mv : Nat) : p.starterSampled mv =
    (if (p.starterCounted mv).chg.lowCount = 100 then (p.starterCounted mv).openSplit .starterLow
      else p.starterCounted mv).evalSplitClose := rfl

/-- A low sample clears the high count, so that the relay which it opens does not close again. -/
theorem Part.highCount_of_lowCount {p : Part} {mv : Nat} (h : (p.starterCounted mv).chg.lowCount = 100) :
    (p.starterCounted mv).chg.highCount ≠ 50 := by
  simp only [Part.starterCounted, Chg.counted] at h ⊢
  split at h
  · rw [if_neg (by omega)]; decide
  · simp at h

/-- An OPEN relay is left by the low count. -/
theorem Part.starterSampled_of_open {p : Part} (mv : Nat) (h : p.chg.splitClosed = false) :
    p.starterSampled mv = (p.starterCounted mv).evalSplitClose := by
  rw [p.starterSampled_eq]
  split
  · rw [Part.openSplit_of_open (p := p.starterCounted mv) h]
  · rfl

/-- A CLOSED relay opens at 100 low samples and stays open. -/
theorem Part.starterSampled_of_low {p : Part} {mv : Nat} (h : p.chg.splitClosed = true)
    (hl : (p.starterCounted mv).chg.lowCount = 100) : p.starterSampled mv =
      ({ p.starterCounted mv with chg := { (p.starterCounted mv).chg with splitClosed := false } }).postCharge .split
        .starterLow := by
  rw [p.starterSampled_eq, if_pos hl, Part.openSplit_of_closed (p := p.starterCounted mv) h]
  refine Part.evalSplitClose_of_not fun ⟨_, _, hh, _⟩ => Part.highCount_of_lowCount hl ?_
  rwa [Part.postCharge, Part.post_chg] at hh

/-- A CLOSED relay stays closed below 100 low samples. -/
theorem Part.starterSampled_of_closed {p : Part} {mv : Nat} (h : p.chg.splitClosed = true)
    (hl : (p.starterCounted mv).chg.lowCount ≠ 100) : p.starterSampled mv = p.starterCounted mv := by
  rw [p.starterSampled_eq, if_neg hl]
  exact Part.evalSplitClose_of_closed h

/-- Settles O27: an open and a closed relay, by the count that moves each. -/
theorem starterSampleCountsAndSwitches : Obligations.StarterSampleCountsAndSwitches := by
  intro s mv ho p v high low dplus q closes
  have sampled {r : Part} (h : p.starterSampled v = r) (hr : r.outbox = []) : LeadsTo (.starterSample mv) s r :=
    leadsTo_of_event (f := (·.starterSampled v)) rfl h hr
  have posted (c : Chg) (x : ChargeCause) : (({ q with chg := c } : Part).postCharge .split x).outbox = [] := by
    rw [Part.postCharge, Part.post_outbox]
    exact ho
  refine ⟨fun h hl => ?_, fun h hl => ?_, fun h hc => ?_, fun h hc => ?_⟩
  · exact sampled (Part.starterSampled_of_closed h hl) ho
  · exact sampled (Part.starterSampled_of_low h hl) (posted _ _)
  · exact sampled ((Part.starterSampled_of_open v h).trans (Part.evalSplitClose_of_not (p := q) hc)) ho
  · exact sampled ((Part.starterSampled_of_open v h).trans (Part.evalSplitClose_of_closes (p := q) h hc)) (posted _ _)

end Sys2Proof.Machine
end

section
/-! PROOFS. The battery temperature and its staleness, the cold inhibit that follows it (R33, R34), and the retry of the battery pad's
demand (R35, R36). -/

namespace Sys2Proof.Machine

/-! ### The staleness of the battery temperature (R33) -/

/-- The value of the battery temperature's line, if it has one, has reached the limit in force (R33). -/
def Part.BattStale (p : Part) : Prop := ∀ a, p.ageOf .battTemp = some a → p.staleLimit ≤ a

theorem Part.staleFor_of_stale {p : Part} (h : p.BattStale) : p.staleFor .battTemp none = none := by
  unfold Part.staleFor staleTimer
  split
  next a ha => rw [if_neg (Nat.not_lt.2 (h a ha))]; rfl
  next => rfl

theorem Part.staleFor_of_young {p : Part} {r : LineRole} {a : Nat} (ha : p.ageOf r = some a) (hl : a < p.staleLimit)
    (timer : Option Nat) : p.staleFor r timer = some (p.staleLimit - a) := by
  simp [Part.staleFor, staleTimer, ha, hl]

/-- A stale value is not known. -/
theorem Part.knownTemp_of_stale {p : Part} (h : p.BattStale) : p.knownTemp .battTemp = none := by
  unfold Part.BattStale Part.ageOf at h
  unfold Part.knownTemp
  split
  next => rfl
  next n hn =>
    rw [hn] at h
    split
    next t a _ ha => exact if_neg fun ⟨_, hl⟩ => Nat.not_lt.2 (h a ha) hl
    next => rfl

/-- The part with a battery temperature and its countdown. -/
def Part.withTemp (p : Part) (timer : Option Nat) (temp : Option Int) : Part :=
  { p with chg := { p.chg with battTimer := timer, battTemp := temp } }

/-- The expiry at a stale value: the temperature is unknown, which the inhibit and the pad then follow. -/
theorem Part.battTempExpired_of_stale {p : Part} (ht : p.chg.battTimer.isSome = true) (h : p.BattStale) :
    p.battTempExpired = (p.withTemp none none).inhibitJudge.padJudge := by
  have hk : ({ p with chg := { p.chg with battTimer := none } } : Part).knownTemp .battTemp = none := Part.knownTemp_of_stale h
  unfold Part.battTempExpired
  rw [if_pos ht, Part.battTempRejudge, Part.staleFor_of_stale h, Part.battTempJudge, hk]
  rfl

/-- The expiry at a younger value counts down what is left (log 41). -/
theorem Part.battTempExpired_of_young {p : Part} {a : Nat} (ht : p.chg.battTimer.isSome = true)
    (ha : p.ageOf .battTemp = some a) (hl : a < p.staleLimit) : p.battTempExpired =
      (p.withTemp (some (p.staleLimit - a)) (p.knownTemp .battTemp)).inhibitJudge.padJudge := by
  unfold Part.battTempExpired
  rw [if_pos ht, Part.battTempRejudge, Part.staleFor_of_young ha hl]
  rfl

/-! ### The cold inhibit (R34) -/

theorem Part.inhibitJudge_of_same {p : Part}
    (h : coldRule p.params.chemistry p.chg.coldInhibit p.chg.battTemp p.params.chargeMinimum = p.chg.coldInhibit) :
    p.inhibitJudge = p := if_pos h

theorem Part.inhibitJudge_of_lead {p : Part} (hc : p.params.chemistry = .lead) (hi : p.chg.coldInhibit = none) :
    p.inhibitJudge = p := Part.inhibitJudge_of_same (by simp [coldRule, hc, hi])

theorem Part.inhibitJudge_of_unknown {p : Part} (hc : p.params.chemistry = .lithium) (ht : p.chg.battTemp = none)
    (hi : p.chg.coldInhibit = some .unknown) : p.inhibitJudge = p :=
  Part.inhibitJudge_of_same (by simp [coldRule, hc, ht, hi])

/-- With LITHIUM an unknown temperature sets the inhibit, cause UNKNOWN, and takes the sources off. -/
theorem Part.inhibitJudge_to_unknown {p : Part} (hc : p.params.chemistry = .lithium) (ht : p.chg.battTemp = none)
    (hi : p.chg.coldInhibit ≠ some .unknown) : p.inhibitJudge =
      (({ p with chg := { p.chg with coldInhibit := some .unknown } }).postCharge .coldInhibit .unknown).sourcesOff .cold := by
  have hr : coldRule p.params.chemistry p.chg.coldInhibit p.chg.battTemp p.params.chargeMinimum = some .unknown := by
    simp [coldRule, hc, ht]
  unfold Part.inhibitJudge
  rw [hr, if_neg hi.symm]
  rfl

/-- Sources that stand off already are left by an inhibit. -/
theorem Part.sourcesOff_of_off {p : Part} (hi : p.chg.coldInhibit.isSome = true) (h1 : p.chg.shoreEnable = false)
    (h2 : p.chg.solarEnable = false) (h3 : p.chg.splitClosed = false) (x : ChargeCause) : p.sourcesOff x = p := by
  have hn : p.chg.coldInhibit.isNone = false := by simpa using hi
  have hshore : p.evalShore x = p := if_pos (by simp [hn, h1])
  have hsolar : p.evalSolar x = p := if_pos (by simp [hn, h2])
  rw [Part.sourcesOff, hshore, hsolar, Part.openSplit_of_open h3]

/-! ### The judgement of the pad (R35) -/

/-- The pad's conditions, as R35 lists them. -/
theorem Part.padConditions_iff (p : Part) : p.padConditions = true ↔ p.params.chemistry = .lithium ∧
    (p.chg.battTemp.any fun t => decide (t < p.params.chargeMinimum + 6)) = true ∧ (p.mains = true ∨ p.dplus = true) ∧
    (p.mdc.mode = .active ∨ p.mdc.mode = .storage) := by
  unfold Part.padConditions Pages.warmPoint
  cases p.chg.battTemp <;> simp [and_assoc]

/-- The pad's demand is not standing, nor waiting for a retry. -/
def PadState.Rests (st : PadState) : Prop := st = .idle ∨ st = .noPad ∨ st = .faulted

/-- With the conditions failed, a pad at rest stays at rest. -/
theorem Part.padJudge_of_rests {p : Part} (hr : p.chg.pad.Rests) (h : p.padConditions ≠ true) : p.padJudge = p := by
  unfold Part.padJudge
  split
  next => rfl
  next =>
    rw [if_neg h]
    rcases hr with e | e | e <;> simp only [e]

theorem Part.padConditions_of_lead {p : Part} (h : p.params.chemistry = .lead) : p.padConditions ≠ true := fun hc => by
  simp [h, p.padConditions_iff] at hc

theorem Part.padConditions_of_unknown {p : Part} (h : p.chg.battTemp = none) : p.padConditions ≠ true := fun hc => by
  simp [h, p.padConditions_iff] at hc

/-! ### The retry of the pad's demand (R36) -/

theorem Part.padRetried_of_held {p : Part} {l : LoadId} (ht : p.chg.padRetry.isSome = true)
    (hl : p.params.loadWith .battPad = some l) (h : p.padConditions = true) : p.padRetried = p.demandPad l := by
  unfold Part.padRetried
  rw [if_pos ht, hl]
  exact if_pos h

theorem Part.padRetried_of_failed {p : Part} {l : LoadId} (ht : p.chg.padRetry.isSome = true)
    (hl : p.params.loadWith .battPad = some l) (h : p.padConditions ≠ true) : p.padRetried = p.dropPad l := by
  unfold Part.padRetried
  rw [if_pos ht, hl]
  exact if_neg h

theorem Part.wantedOff_of_not {p : Part} {l : LoadId} (h : (p.load l).wanted = false) : p.wantedOff l = p :=
  if_neg (by simp [h])

/-- The pad leaves REFUSED for a state that has no retry, with its notice. -/
theorem Part.setPad_of_refused {p : Part} {code : Status} (h : p.chg.pad = .refused code) {st : PadState}
    (hs : st.refusal = none) : p.setPad st = ({ p with chg := { p.chg with pad := st, padRetry := none } }).postPad := by
  unfold Part.setPad
  cases st with
  | refused c => simp [PadState.refusal] at hs
  | noPad | idle | running | waiting | faulted => rw [if_neg (by simp [h])]

/-- A pad that is refused again with its code loads the retry anew. -/
theorem Part.setPad_refused_again {p : Part} {code : Status} (h : p.chg.pad = .refused code) :
    p.setPad (.refused code) = { p with chg := { p.chg with padRetry := some 10000 } } := by
  unfold Part.setPad
  rw [if_pos h.symm]
  show ({ p with chg := { p.chg with pad := .refused code, padRetry := some 10000 } } : Part) = _
  rw [← h]

/-! ### The answers to a demand (R55, R56) -/

section

variable {p : Part} {l : LoadId} {m : Option Nat} (hm : p.modeRefusal l (m.getD (p.effClass l)) = none)
include hm

theorem Part.demand_of_faulted (h : (p.load l).state = .faulted) : p.demand l m = (p, .faulted) := by
  simp only [Part.demand, Part.demandRefusal, hm, h]

theorem Part.demand_of_shed (h : (p.load l).state = .shed) : p.demand l m = (p, .shed) := by
  simp only [Part.demand, Part.demandRefusal, hm, h]

theorem Part.demand_of_low (h : (p.load l).state = .off)
    (hc : p.chargeRefusal (p.busOf l) (m.getD (p.effClass l)) = true) : p.demand l m = (p, .lowCharge) := by
  simp only [Part.demand, Part.demandRefusal, hm, h, Part.makeRoom, hc, if_true, reduceCtorEq, if_false]

end

/-- With room for the need nothing is shed. -/
theorem Part.victimsToFit_of_room (p : Part) {limit need : Nat} (h : need ≤ limit) (ls : List LoadId) :
    p.victimsToFit limit need ls = some [] := by
  cases ls <;> exact if_pos h

/-- A demand that finds charge and room is admitted with nothing shed. -/
theorem Part.demand_of_admits {p : Part} {l : LoadId} (h : p.Admits l) : p.demand l none = (p.admitLoad l none, .ok) := by
  obtain ⟨hs, hm, hc, hr⟩ := h
  simp only [Part.demand, Part.demandRefusal, Option.getD_none, hm, hs, Part.makeRoom, hc, Bool.false_eq_true, if_false,
    p.victimsToFit_of_room hr, Part.shedAll, List.foldl_nil, if_true]

/-- An output that is not TRIPPED is ordered on without a report. -/
theorem Part.orderOn_outbox {p : Part} {c : LoadId} (h : (p.chan c).switching ≠ .tripped) : (p.orderOn c).outbox = p.outbox := by
  rcases p.orderOn_cases c with ⟨o, e, _⟩ | ⟨ht, _⟩
  · rw [e]
  · exact absurd ht h

theorem Part.admitLoad_outbox {p : Part} {l : LoadId} (h : (p.chan l).switching ≠ .tripped) (m : Option Nat) :
    (p.admitLoad l m).outbox = p.outbox := by
  have hturn : (p.turnOn l m).outbox = p.outbox := by
    unfold Part.turnOn
    dsimp only
    generalize hq : Part.setBus _ _ _ = q
    have hchan : q.chan l = p.chan l := by rw [← hq, Part.setBus_chan_read, Part.setLoad_chan_read]
    have hout : q.outbox = p.outbox := by rw [← hq, Part.setBus_outbox, Part.setLoad_outbox]
    rcases q.ldmOn_cases l with e | e <;> rw [e]
    · exact hout
    · rw [Part.orderOn_outbox (by rw [hchan]; exact h), hout]
  rw [Part.admitLoad, Part.postLoad, Part.post_outbox, hturn]

theorem Part.admitLoad_chg {p : Part} (l : LoadId) (m : Option Nat) : (p.admitLoad l m).chg = p.chg := by
  have hon (q : Part) : (q.ldmOn l).chg = q.chg := by
    rcases q.ldmOn_cases l with e | e <;> rw [e]
    rcases q.orderOn_cases l with ⟨o, e, _⟩ | ⟨_, e⟩ <;> rw [e]
    exact Part.report_chg ..
  rw [Part.admitLoad, Part.postLoad, Part.post_chg, Part.turnOn, hon, Part.setBus_chg, Part.setLoad_chg]

/-! ### The obligation -/

/-- The record of Charge Control when a stale temperature has set the inhibit of a LITHIUM bank. -/
def Chg.inhibited (c : Chg) : Chg :=
  { c with
    battTimer := none, battTemp := none, coldInhibit := some .unknown
    shoreEnable := false, solarEnable := false, splitClosed := false }

theorem Part.inhibitJudge_rewired {p : Part} (hc : p.params.chemistry = .lithium) (hi : p.chg.coldInhibit ≠ some .unknown) :
    p.Rewired p.chg.inhibited (p.withTemp none none).inhibitJudge := by
  rw [Part.inhibitJudge_to_unknown (p := p.withTemp none none) hc rfl hi]
  have hpost := (p.rewired_chg { p.chg with battTimer := none, battTemp := none, coldInhibit := some .unknown }).postCharge
    (x := .coldInhibit) (by decide) .unknown
  have hoff := hpost.trans (Part.sourcesOff_rewired _ .cold)
  rw [hpost.chg] at hoff
  simp only [Option.isNone_some, Bool.and_false, Bool.false_and] at hoff
  exact hoff

/-- The inhibit set at a stale temperature stands at the end of the event. -/
theorem battTempStale_inhibits {s : State} (ht : s.part.chg.battTimer.isSome = true) (h : s.part.BattStale)
    (hc : s.part.params.chemistry = .lithium) (hi : s.part.chg.coldInhibit ≠ some .unknown) :
    ∃ q, s.part.ChargeWork s.part.chg.inhibited q ∧ ∃ k, exec .battTempStale s = .next ⟨{ q with lnk := k }, s.pending⟩ := by
  have hexec : exec .battTempStale s = .next ⟨s.part.battTempExpired.finish, s.pending⟩ := rfl
  obtain ⟨q, k, hq, e, _⟩ := s.part.battTempExpired.finish_cases
  rw [Part.battTempExpired_of_stale ht h] at hq
  exact ⟨q, ((Part.inhibitJudge_rewired hc hi).work.work (Part.BlockWork.refl _).padJudge).work hq, k, by rw [hexec, e]⟩

/-- Settles O28: the expiry by the age of the value and the chemistry; the retry by the conditions and the answer to the demand. -/
theorem batteryTemperatureAndPadFollow : Obligations.BatteryTemperatureAndPadFollow := by
  refine ⟨fun s ho ht => ?_, fun s l code ho ht hp hl _ => ?_⟩
  · intro p limit stale rests q
    have expired {r : Part} (h : p.battTempExpired = r) (hr : r.outbox = []) : LeadsTo .battTempStale s r :=
      leadsTo_of_event (f := Part.battTempExpired) rfl h hr
    have unknown (r : Part) (h : r.chg.battTemp = none) (hr : r.chg.pad.Rests) : r.padJudge = r :=
      Part.padJudge_of_rests hr (Part.padConditions_of_unknown h)
    refine ⟨fun hs hr hc hi => ?_, fun hs hr hc hi => ?_, fun a ha hl hr hc hi => ?_, fun hs hr hc hi h1 h2 h3 => ?_,
      fun hs hc hi => ?_⟩
    · refine expired ?_ ho
      rw [Part.battTempExpired_of_stale ht hs, Part.inhibitJudge_of_unknown (p := p.withTemp none none) hc rfl hi]
      exact unknown (p.withTemp none none) rfl hr
    · refine expired ?_ ho
      rw [Part.battTempExpired_of_stale ht hs, Part.inhibitJudge_of_lead (p := p.withTemp none none) hc hi]
      exact unknown (p.withTemp none none) rfl hr
    · refine expired ?_ ho
      rw [Part.battTempExpired_of_young ht ha hl,
        Part.inhibitJudge_of_lead (p := p.withTemp (some (p.staleLimit - a)) (p.knownTemp .battTemp)) hc hi]
      exact Part.padJudge_of_rests (p := p.withTemp _ _) hr (Part.padConditions_of_lead hc)
    · have hpost := Part.post_chg ({ q with chg := { q.chg with coldInhibit := some .unknown } } : Part)
        .charge ChargeSubject.coldInhibit.code
      refine expired ?_ ((Part.post_outbox ..).trans ho)
      rw [Part.battTempExpired_of_stale ht hs,
        Part.inhibitJudge_to_unknown (p := p.withTemp none none) hc rfl (by rw [Part.withTemp, hi]; simp), Part.sourcesOff_of_off]
      · exact unknown _ (congrArg Chg.battTemp (hpost _)) (by rw [Part.postCharge, Part.post_chg]; exact hr)
      all_goals rw [Part.postCharge, Part.post_chg]
      · rfl
      · exact h1
      · exact h2
      · exact h3
    · obtain ⟨r, ⟨hps, hb, hsli, hm, ⟨_, _, e⟩, _⟩, k, he⟩ := battTempStale_inhibits ht hs hc hi
      refine ⟨_, he, rfl, ?_⟩
      dsimp only
      rw [e]
      exact ⟨rfl, rfl, rfl, rfl, rfl, rfl, hb, hps, hm, hsli⟩
  · intro p holds take
    have retried {r : Part} (h : p.padRetried = r) (hr : r.outbox = []) : LeadsTo .padRetryExpiry s r :=
      leadsTo_of_event (f := Part.padRetried) rfl h hr
    have taken (r : Part) (st : PadState) (h : r.outbox = []) : (take r st).outbox = [] :=
      (Part.post_outbox ..).trans h
    have held (h : holds) : p.padRetried = p.demandPad l := Part.padRetried_of_held ht hl (p.padConditions_iff.2 h)
    refine ⟨fun hn hw => ?_, fun h hs hm => ?_, fun h hs hm => ?_, fun h ha hc => ?_, fun h hs hm hc he => ?_⟩
    · refine retried ?_ (taken p _ ho)
      rw [Part.padRetried_of_failed ht hl (mt p.padConditions_iff.1 hn), Part.dropPad, Part.wantedOff_of_not hw]
      exact Part.setPad_of_refused hp rfl
    · refine retried ?_ (taken p _ ho)
      rw [held h, Part.demandPad, Part.demand_of_faulted hm hs]
      exact Part.setPad_of_refused hp rfl
    · refine retried ?_ (taken p _ ho)
      rw [held h, Part.demandPad, Part.demand_of_shed hm hs]
      exact Part.setPad_of_refused hp rfl
    · refine retried ?_ (taken _ _ ((Part.admitLoad_outbox hc none).trans ho))
      rw [held h, Part.demandPad, Part.demand_of_admits ha]
      exact Part.setPad_of_refused (by rw [Part.admitLoad_chg]; exact hp) rfl
    · refine retried ?_ ho
      subst he
      rw [held h, Part.demandPad, Part.demand_of_low (m := none) hm hs hc]
      exact Part.setPad_refused_again hp

end Sys2Proof.Machine
end

section
/-! PROOFS. Shedding (R50 to R54, R59 to R62): the order of the victims, what the shedding of loads leaves of lists, stacks and load
records, and the checks that a re-formed bus record goes through, for a bus on which no class-2 motor stands. -/

namespace Sys2Proof.Machine

/-! ### Lists of which some members are taken -/

theorem filter_notMem_append {α : Type} [DecidableEq α] (ls ts us : List α) :
    ls.filter (fun l => decide (l ∉ ts ++ us)) = (ls.filter fun l => decide (l ∉ ts)).filter fun l => decide (l ∉ us) := by
  simp only [List.filter_filter, List.mem_append, not_or, Bool.decide_and, Bool.and_comm]

/-- A list without repetition splits into what is taken from it and the rest. -/
theorem filter_notMem_append_perm {α : Type} [DecidableEq α] {ls ts : List α} (hn : ls.Nodup) (ht : ts.Nodup) (hs : ts ⊆ ls) :
    (ls.filter (fun l => decide (l ∉ ts)) ++ ts).Perm ls := by
  refine (List.perm_ext_iff_of_nodup (List.nodup_append'.2 ⟨hn.filter _, ht, fun l h => ?_⟩) hn).2 fun l => ?_
  · simpa using (List.mem_filter.1 h).2
  · rw [List.mem_append, List.mem_filter, decide_eq_true_iff]
    exact ⟨fun h => h.elim And.left (@hs l), fun h => (em (l ∈ ts)).symm.imp (⟨h, ·⟩) id⟩

/-! ### Settings that a load and its bus follow -/

/-- The settings agree but for page 2, that of Charge Control. -/
def Pages.SameLoads (ps qs : Pages) : Prop := ∀ page idx, page ≠ 2 → qs.get page idx = ps.get page idx

theorem Pages.SameLoads.of_eq {ps qs : Pages} (h : qs = ps) : ps.SameLoads qs := fun _ _ _ => by rw [h]

theorem Pages.sameLoads_set (ps : Pages) (idx : Nat) (v : Word) : ps.SameLoads (ps.set 2 idx v) :=
  fun _ _ h => Pages.get_set_of_ne v (.inl h)

section

variable {ps qs : Pages} (h : ps.SameLoads qs)
include h

theorem Pages.SameLoads.nat {page : Nat} (idx : Nat) (hp : page ≠ 2) : qs.nat page idx = ps.nat page idx := by
  simp only [Pages.nat, h page idx hp]

theorem Pages.SameLoads.role (l : LoadId) : qs.role l = ps.role l := by
  simp only [Pages.role, h.nat _ (show 3 ≠ 2 by decide)]

theorem Pages.SameLoads.loadClass (l : LoadId) : qs.loadClass l = ps.loadClass l := h.nat _ (show 3 ≠ 2 by decide)

theorem Pages.SameLoads.nominal (l : LoadId) : qs.nominal l = ps.nominal l := h.nat _ (show 3 ≠ 2 by decide)

theorem Pages.SameLoads.homeBank (l : LoadId) : qs.homeBank l = ps.homeBank l := by
  simp only [Pages.homeBank, h.nat _ (show 3 ≠ 2 by decide)]

theorem Pages.SameLoads.fullContent (b : Bank) : qs.fullContent b = ps.fullContent b := by
  simp only [Pages.fullContent, Pages.capacity, h.nat _ (show 1 ≠ 2 by decide)]

theorem Pages.SameLoads.busLimitOf (b : BusName) : busLimitOf qs b = busLimitOf ps b := by
  cases b <;> simp only [Machine.busLimitOf, Pages.busLimit, h.nat _ (show 4 ≠ 2 by decide)]

theorem Pages.SameLoads.busWarnOf (b : BusName) : busWarnOf qs b = busWarnOf ps b := by
  cases b <;> simp only [Machine.busWarnOf, Pages.warnLevel, h.nat _ (show 4 ≠ 2 by decide)]

theorem Pages.SameLoads.busFloorOf (b : BusName) (cls : Nat) : busFloorOf qs b cls = busFloorOf ps b cls := by
  simp only [Machine.busFloorOf, Pages.busFloor, h.nat _ (show 4 ≠ 2 by decide)]

end

/-! ### Loads whose records and settings agree (R44, R47) -/

section

variable {p q : Part} {l : LoadId} (hps : p.params.SameLoads q.params) (hl : q.load l = p.load l)
include hps hl

theorem Part.effClass_congr : q.effClass l = p.effClass l := by
  simp only [Part.effClass, hps.role, hps.loadClass, hl]

theorem Part.sheddable_congr : q.sheddable l = p.sheddable l := by
  simp only [Part.sheddable, hps.role, Part.effClass_congr hps hl]

theorem Part.committed_congr : q.committed l = p.committed l := by
  simp only [Part.committed, Part.committedAt, Part.baseDrawAt, hps.nominal, hl]

end

/-- What the loads of a list commit. -/
def Part.draw (p : Part) (ls : List LoadId) : Nat := (ls.map p.committed).sum

theorem Part.draw_congr {p q : Part} {ls : List LoadId} (hps : p.params.SameLoads q.params)
    (hl : ∀ l ∈ ls, q.load l = p.load l) : q.draw ls = p.draw ls :=
  congrArg _ (List.map_congr_left fun l h => Part.committed_congr hps (hl l h))

/-! ### The order of the victims (R53) -/

/-- The sheddable loads of a list, class 4 first, the later one on the list first within a class. -/
def Part.victimOrder (p : Part) (ls : List LoadId) : List LoadId :=
  [4, 3, 2].flatMap fun c => ls.reverse.filter fun l => p.sheddable l && p.effClass l == c

theorem Part.mem_victimOrder {p : Part} {ls : List LoadId} {l : LoadId} :
    l ∈ p.victimOrder ls ↔ l ∈ ls ∧ p.sheddable l = true ∧ p.effClass l ≤ 4 := by
  have hs (h : p.sheddable l = true) : 2 ≤ p.effClass l := by
    simp only [Part.sheddable, Bool.and_eq_true, decide_eq_true_eq] at h
    exact h.1.1
  simp only [Part.victimOrder, List.mem_flatMap, List.mem_filter, List.mem_reverse, Bool.and_eq_true, beq_iff_eq,
    List.mem_cons, List.not_mem_nil, or_false, exists_eq_or_imp, exists_eq_left]
  constructor
  · rintro (⟨h1, h2, h3⟩ | ⟨h1, h2, h3⟩ | ⟨h1, h2, h3⟩) <;> exact ⟨h1, h2, by omega⟩
  · rintro ⟨h1, h2, h3⟩
    have := hs h2
    obtain h | h | h : p.effClass l = 4 ∨ p.effClass l = 3 ∨ p.effClass l = 2 := by omega
    · exact .inl ⟨h1, h2, h⟩
    · exact .inr (.inl ⟨h1, h2, h⟩)
    · exact .inr (.inr ⟨h1, h2, h⟩)

theorem Part.victimOrder_subset (p : Part) (ls : List LoadId) : p.victimOrder ls ⊆ ls :=
  fun _ h => (Part.mem_victimOrder.1 h).1

theorem Part.victimOrder_nodup (p : Part) {ls : List LoadId} (h : ls.Nodup) : (p.victimOrder ls).Nodup := by
  refine List.nodup_flatMap.2 ⟨fun c _ => (List.nodup_reverse.2 h).filter _, ?_⟩
  refine List.Pairwise.imp (R := (· ≠ ·)) (fun {c d} hcd l hc hd => hcd ?_) (by decide)
  simp only [List.mem_filter, Bool.and_eq_true, beq_iff_eq] at hc hd
  exact hc.2.2.symm.trans hd.2.2

theorem Part.victimOrder_congr {p q : Part} {ls : List LoadId} (hps : p.params.SameLoads q.params)
    (hl : ∀ l ∈ ls, q.load l = p.load l) : q.victimOrder ls = p.victimOrder ls := by
  unfold Part.victimOrder
  congr 1
  funext c
  refine List.filter_congr fun l h => ?_
  have hl := hl l (List.mem_reverse.1 h)
  rw [Part.sheddable_congr hps hl, Part.effClass_congr hps hl]

/-- The victims that a rule names by their class, in their order. -/
theorem Part.victims_eq (p : Part) (b : BusName) (ok : Nat → Bool) :
    p.victims b ok = p.victimOrder ((p.bus b).onList.filter fun l => ok (p.effClass l)) := by
  simp only [Part.victims, Part.victimOrder, List.flatMap_cons, List.flatMap_nil, List.append_nil, List.append_assoc,
    ← List.filter_reverse, List.filter_filter, Bool.and_comm, Bool.and_left_comm]

theorem Part.victims_all (p : Part) (b : BusName) : p.victims b (fun _ => true) = p.victimOrder (p.bus b).onList := by
  rw [p.victims_eq, List.filter_eq_self.2 fun _ _ => rfl]

/-! ### What the owners leave alone when a load is shed (R58) -/

/-- The Load Manager's record, the settings, the reports that wait and the time, as one tuple. -/
def Part.books (p : Part) := (p.ldm, p.params, p.outbox, p.uptime)

theorem Part.post_books (p : Part) (k : NoticeKind) (n : Nat) (d : List Byte) : (p.post k n d).books = p.books := by
  simp only [Part.books, Part.post_ldm, Part.post_params, Part.post_outbox, Part.post_uptime]

theorem Part.orderOff_books (p : Part) (c : LoadId) : (p.orderOff c).books = p.books := by
  obtain ⟨_, e, _⟩ := p.orderOff_cases c
  rw [e]
  rfl

theorem Part.setPresent_books (p : Part) (c : LightId) (level : Nat) : (p.setPresent c level).books = p.books := by
  obtain ⟨_, e, _⟩ := p.setPresent_cases c level
  rw [e]
  rfl

theorem Part.endFade_books (p : Part) (c : LightId) : (p.endFade c).books = p.books := by
  unfold Part.endFade Part.lightOff
  dsimp only
  split
  · split
    · rfl
    · exact Part.orderOff_books ..
  · rfl

/-- A fade to dark orders nothing on. -/
theorem Part.startFade_books (p : Part) (c : LightId) (time : Nat) : (p.startFade c 0 time).books = p.books := by
  unfold Part.startFade
  simp only [Nat.lt_irrefl, if_false]
  split
  · exact (Part.endFade_books ..).trans (Part.setPresent_books ..)
  · rfl

theorem Part.setPad_books (p : Part) (st : PadState) : (p.setPad st).books = p.books := by
  unfold Part.setPad
  dsimp only
  split
  · rfl
  · exact Part.post_books ..

theorem Part.setHeater_books (p : Part) (h : HeaterState) : (p.setHeater h).books = p.books := by
  unfold Part.setHeater
  dsimp only
  split
  · rfl
  · exact Part.post_books ..

/-- No owner answers the report of a shedding with a report or an order on. -/
theorem Part.tellOwner_shed_books (p : Part) (l : LoadId) (c : ShedCause) : (p.tellOwner l (.shed c)).books = p.books := by
  unfold Part.tellOwner
  split
  · exact p.startFade_books ..
  · split
    · rfl
    · split
      · rfl
      · exact p.setHeater_books _
      · rfl
      · show (p.padReport (.shed c)).books = p.books
        unfold Part.padReport
        split
        · rfl
        · exact p.setPad_books _
      · rfl

theorem Part.ldmOff_books (p : Part) (l : LoadId) : (p.ldmOff l).books = p.books := by
  rcases p.ldmOff_cases l with e | e <;> rw [e]
  exact p.orderOff_books l

/-! ### The shedding of loads (R51 to R54) -/

/-- From `p` to `q` the loads of the entries `es` have been shed on the bus `b`, in their order: they have left the on-list for the
stack. The other buses, the other loads and the reports that wait stand; the depth mark may have been judged. -/
structure Part.ShedWork (p : Part) (b : BusName) (es : List ShedEntry) (q : Part) : Prop where
  bus : ∃ mark, q.bus b = { p.bus b with
    onList := (p.bus b).onList.filter fun l => decide (l ∉ es.map (·.load))
    stack := (p.bus b).stack ++ es
    depthMark := mark }
  otherBus : ∀ b', b' ≠ b → q.bus b' = p.bus b'
  shed : ∀ l ∈ es.map (·.load), (q.load l).state = .shed
  otherLoad : ∀ l, l ∉ es.map (·.load) → q.load l = p.load l
  params : q.params = p.params
  outbox : q.outbox = p.outbox
  uptime : q.uptime = p.uptime

namespace Part.ShedWork

variable {p q r : Part} {b : BusName} {es fs : List ShedEntry}

theorem trans (h : p.ShedWork b es q) (k : q.ShedWork b fs r) : p.ShedWork b (es ++ fs) r := by
  obtain ⟨⟨_, hb⟩, ho, hs, hl, hp, hx, ht⟩ := h
  obtain ⟨⟨mark, kb⟩, ko, ks, kl, kp, kx, kt⟩ := k
  refine ⟨⟨mark, ?_⟩, fun b' h' => (ko b' h').trans (ho b' h'), fun l h' => ?_, fun l h' => ?_, kp.trans hp, kx.trans hx,
    kt.trans ht⟩
  · rw [kb, hb, List.map_append, filter_notMem_append, ← List.append_assoc]
  · rw [List.map_append, List.mem_append] at h'
    by_cases hf : l ∈ fs.map (·.load)
    · exact ks l hf
    · rw [kl l hf]
      exact hs l (h'.resolve_right hf)
  · rw [List.map_append, List.mem_append, not_or] at h'
    exact (kl l h'.2).trans (hl l h'.1)

/-- Work that leaves the Load Manager, the settings, the reports and the time sheds nothing. -/
theorem of_books (h : q.books = p.books) (b : BusName) : p.ShedWork b [] q := by
  simp only [Part.books, Prod.mk.injEq] at h
  obtain ⟨hl, hp, hx, ht⟩ := h
  have hbus (b' : BusName) : q.bus b' = p.bus b' := by cases b' <;> simp only [Part.bus, hl]
  refine ⟨⟨(p.bus b).depthMark, ?_⟩, fun b' _ => hbus b', by simp, fun l _ => ?_, hp, hx, ht⟩
  · rw [hbus]
    simp
  · simp only [Part.load, hl]

theorem refl (p : Part) (b : BusName) : p.ShedWork b [] p := of_books rfl b

/-- A new depth mark sheds nothing. -/
theorem setMark (p : Part) (b : BusName) (mark : Bool) : p.ShedWork b [] (p.setBus b { p.bus b with depthMark := mark }) :=
  ⟨⟨mark, by simp⟩, fun _ h => Part.bus_setBus_of_ne _ _ h, by simp, fun _ _ => Part.setBus_load_read .., Part.setBus_params ..,
    Part.setBus_outbox .., Part.setBus_uptime ..⟩

end Part.ShedWork

theorem Part.depthJudge_work (p : Part) (b : BusName) : p.ShedWork b [] (p.depthJudge b) := by
  rcases p.depthJudge_cases b with ⟨e, _⟩ | ⟨e, _⟩ | ⟨e, _⟩ <;> rw [e]
  · exact .refl p b
  · exact (Part.ShedWork.setMark p b true).trans (.of_books (Part.post_books ..) b)
  · exact .setMark p b false

/-- After the judgement the depth mark goes by the warning level (R52). -/
theorem Part.depthJudge_bus (p : Part) (b : BusName) :
    (p.depthJudge b).bus b = { p.bus b with depthMark := decide (busWarnOf p.params b ≤ (p.bus b).stack.length) } := by
  by_cases h : busWarnOf p.params b ≤ (p.bus b).stack.length
  · rw [decide_eq_true h]
    rcases p.depthJudge_cases b with ⟨e, hm⟩ | ⟨e, _⟩ | ⟨_, hlt⟩
    · rw [e, ← hm]
    · rw [e, Part.postDepth, Part.post_bus_read, Part.bus_setBus]
    · omega
  · rw [decide_eq_false h]
    rcases p.depthJudge_cases b with ⟨e, hm⟩ | ⟨_, hle, _⟩ | ⟨e, _⟩
    · rw [Part.depthJudge, if_neg h, Part.bus_setBus]
    · exact absurd hle h
    · rw [e, Part.bus_setBus]

/-- The stack entries of loads that are shed at one time for one cause (R51). -/
def shedEntries (c : ShedCause) (t : Word32) (ls : List LoadId) : List ShedEntry := ls.map fun l => ⟨l, c, t⟩

@[simp] theorem shedEntries_loads (c : ShedCause) (t : Word32) (ls : List LoadId) : (shedEntries c t ls).map (·.load) = ls := by
  simp [shedEntries, Function.comp_def]

theorem Part.shed_work (p : Part) (b : BusName) (c : ShedCause) (l : LoadId) :
    p.ShedWork b (shedEntries c p.uptime [l]) (p.shed b c l) := by
  generalize hq : ((p.leaveList b l).setLoadState l .shed).setBus b { ((p.leaveList b l).setLoadState l .shed).bus b with
    stack := (((p.leaveList b l).setLoadState l .shed).bus b).stack ++ [⟨l, c, p.uptime⟩] } = q
  have hmoved : p.ShedWork b (shedEntries c p.uptime [l]) q := by
    subst hq
    simp only [Part.leaveList, Part.setLoadState]
    refine ⟨⟨(p.bus b).depthMark, ?_⟩, fun b' h => ?_, fun m h => ?_, fun m h => ?_, ?_, ?_, ?_⟩
    · simp [shedEntries, bne, beq_eq_decide]
    · rw [Part.bus_setBus_of_ne _ _ h, Part.setLoad_bus_read, Part.bus_setBus_of_ne _ _ h]
    · rw [shedEntries_loads, List.mem_singleton] at h
      rw [h, Part.setBus_load_read, Part.load_setLoad]
    · rw [shedEntries_loads, List.mem_singleton] at h
      rw [Part.setBus_load_read, Part.load_setLoad_of_ne _ _ h, Part.setBus_load_read]
    all_goals simp
  have htold : (((q.ldmOff l).tellOwner l (.shed c)).postLoad l (.shed c)).books = q.books :=
    (Part.post_books ..).trans ((Part.tellOwner_shed_books ..).trans (q.ldmOff_books l))
  have hend := (hmoved.trans (.of_books htold b)).trans (Part.depthJudge_work _ b)
  simp only [List.append_nil] at hend
  rw [← hq] at hend
  have hup : ((p.leaveList b l).setLoadState l .shed).uptime = p.uptime := by
    simp only [Part.leaveList, Part.setLoadState, Part.setLoad_uptime, Part.setBus_uptime]
  unfold Part.shed
  dsimp only
  rw [hup]
  exact hend

theorem Part.shedAll_work (p : Part) (b : BusName) (c : ShedCause) (ls : List LoadId) :
    p.ShedWork b (shedEntries c p.uptime ls) (p.shedAll b c ls) := by
  induction ls generalizing p with
  | nil => exact .refl p b
  | cons l ls ih =>
    have h := p.shed_work b c l
    have k := ih (p.shed b c l)
    rw [h.uptime] at k
    exact h.trans k

/-- The shedding for an overload stops at the first load after which the committed sum is at or below the limit (R59). -/
theorem Part.shedToFit_stages (p : Part) (b : BusName) (ls : List LoadId) : ∃ k ≤ ls.length,
    p.shedToFit b ls = p.shedAll b .overload (ls.take k) ∧
    (∀ j, j < k → busLimitOf p.params b < (p.shedAll b .overload (ls.take j)).committedSum b) ∧
    ((p.shedAll b .overload (ls.take k)).committedSum b ≤ busLimitOf p.params b ∨ k = ls.length) := by
  induction ls generalizing p with
  | nil => exact ⟨0, by simp, rfl, by simp, .inr rfl⟩
  | cons l ls ih =>
    by_cases h : p.committedSum b ≤ busLimitOf p.params b
    · exact ⟨0, by simp, if_pos h, by simp, .inl h⟩
    · obtain ⟨k, hk, e, hover, hend⟩ := ih (p.shed b .overload l)
      rw [(p.shed_work b .overload l).params] at hover hend
      refine ⟨k + 1, by simpa using hk, (if_neg h).trans e, fun j hj => ?_, hend.imp id (by simp)⟩
      cases j with
      | zero => exact Nat.not_le.1 h
      | succ j => exact hover j (by omega)

/-! ### The committed sum of a bus of which some loads are shed (R47) -/

/-- The committed sum falls by what the loads shed have drawn. -/
theorem Part.shedAll_committedSum {p : Part} {b : BusName} (c : ShedCause) {ls : List LoadId}
    (hn : (p.bus b).onList.Nodup) (hl : ls.Nodup) (hs : ls ⊆ (p.bus b).onList) :
    (p.shedAll b c ls).committedSum b = p.draw (p.bus b).onList - p.draw ls := by
  have h := p.shedAll_work b c ls
  obtain ⟨_, hb⟩ := h.bus
  have hother := h.otherLoad
  rw [shedEntries_loads] at hb hother
  have hsum : p.draw ((p.bus b).onList.filter fun l => decide (l ∉ ls)) + p.draw ls = p.draw (p.bus b).onList := by
    rw [Part.draw, Part.draw, ← List.sum_append, ← List.map_append]
    exact ((filter_notMem_append_perm hn hl hs).map p.committed).sum_eq
  have hleft : (p.shedAll b c ls).committedSum b = p.draw ((p.bus b).onList.filter fun l => decide (l ∉ ls)) := by
    rw [Part.committedSum, hb]
    exact Part.draw_congr (.of_eq h.params) fun l hl => hother l (of_decide_eq_true (List.mem_filter.1 hl).2)
  omega

/-! ### A bus without a class-2 motor (R62) -/

/-- No class-2 motor stands on the bus. -/
def Part.NoMotor (p : Part) (b : BusName) : Prop := ∀ l ∈ (p.bus b).onList, (p.load l).motorClass ≠ some 2

theorem Part.NoMotor.motorCut {p : Part} {b : BusName} (h : p.NoMotor b) (extra : Nat) : p.motorCut b extra = p := by
  have hf : ((p.bus b).onList.find? fun l => (p.load l).motorClass == some 2) = none :=
    List.find?_eq_none.2 fun l hl => by simpa using h l hl
  rw [Part.motorCut, hf]

theorem Part.ShedWork.noMotor {p q : Part} {b : BusName} {es : List ShedEntry} (h : p.ShedWork b es q) (hm : p.NoMotor b) :
    q.NoMotor b := by
  obtain ⟨_, hb⟩ := h.bus
  intro l hl
  rw [hb, List.mem_filter, decide_eq_true_iff] at hl
  rw [h.otherLoad l hl.2]
  exact hm l hl.1

/-! ### The checks of a re-formed bus record (R66 to R68) -/

/-- The loads that undervoltage or the charge floors take (R60, R61), for a bus record. -/
def Part.lowVictims (p : Part) (b : BusName) (r : BusRec) : List LoadId :=
  if r.uvFlag = true then p.victimOrder r.onList
  else p.victimOrder (r.onList.filter fun l => decide (r.soc < busFloorOf p.params b (p.effClass l)))

/-- Why they are shed. -/
def lowCause (r : BusRec) : ShedCause := if r.uvFlag = true then .undervoltage else .chargeFloor

theorem Part.mem_lowVictims {p : Part} {b : BusName} {r : BusRec} {l : LoadId} (h : l ∈ p.lowVictims b r) : l ∈ r.onList := by
  unfold Part.lowVictims at h
  split at h
  · exact p.victimOrder_subset _ h
  · exact List.mem_of_mem_filter (p.victimOrder_subset _ h)

theorem Part.lowVictims_nodup (p : Part) (b : BusName) {r : BusRec} (h : r.onList.Nodup) : (p.lowVictims b r).Nodup := by
  unfold Part.lowVictims
  split
  · exact p.victimOrder_nodup h
  · exact p.victimOrder_nodup (h.filter _)

/-- After an undervoltage shedding no victim of a charge floor is left. -/
theorem Part.ShedWork.no_victims {p q : Part} {b : BusName} {c : ShedCause} {t : Word32} (ok : Nat → Bool)
    (h : p.ShedWork b (shedEntries c t (p.victimOrder (p.bus b).onList)) q) : q.victims b ok = [] := by
  obtain ⟨_, hb⟩ := h.bus
  rw [q.victims_eq, List.eq_nil_iff_forall_not_mem]
  intro l hl
  obtain ⟨hmem, hs, hcls⟩ := Part.mem_victimOrder.1 hl
  rw [List.mem_filter, hb, List.mem_filter, decide_eq_true_iff] at hmem
  obtain ⟨⟨hon, hnot⟩, _⟩ := hmem
  have hload := h.otherLoad l hnot
  rw [shedEntries_loads] at hnot
  rw [Part.sheddable_congr (.of_eq h.params) hload] at hs
  rw [Part.effClass_congr (.of_eq h.params) hload] at hcls
  exact hnot (Part.mem_victimOrder.2 ⟨hon, hs, hcls⟩)

/-- The checks before the overload check: undervoltage shedding with the flag set, else the charge floors. -/
theorem Part.lowChecks_work {p : Part} {b : BusName} (hm : p.NoMotor b) :
    p.ShedWork b (shedEntries (lowCause (p.bus b)) p.uptime (p.lowVictims b (p.bus b)))
      ((if (p.bus b).uvFlag then p.undervoltageShed b else p).floorCheck b) := by
  unfold Part.lowVictims lowCause
  split
  next =>
    have hw := p.shedAll_work b .undervoltage (p.victimOrder (p.bus b).onList)
    have hshed : p.undervoltageShed b = p.shedAll b .undervoltage (p.victimOrder (p.bus b).onList) := by
      rw [Part.undervoltageShed, p.victims_all, (hw.noMotor hm).motorCut]
    have hnil (q : Part) (c : ShedCause) : q.shedAll b c [] = q := rfl
    rw [hshed, Part.floorCheck, hw.no_victims, hnil, (hw.noMotor hm).motorCut]
    exact hw
  next =>
    have hw := p.shedAll_work b .chargeFloor
      (p.victimOrder ((p.bus b).onList.filter fun l => decide ((p.bus b).soc < busFloorOf p.params b (p.effClass l))))
    rw [Part.floorCheck, p.victims_eq, (hw.noMotor hm).motorCut]
    exact hw

/-- The loads of a bus record that the low checks leave. -/
def Part.afterLow (p : Part) (b : BusName) (r : BusRec) : List LoadId := r.onList.filter fun l => decide (l ∉ p.lowVictims b r)

/-- What the three checks of the bus `b` do from `q` to `e`, told of the part `p`: the low victims are shed, then of the loads that
are left the first `k` of their order, as few as bring the committed sum to the limit, or all of them. -/
structure Part.CheckWork (p q : Part) (b : BusName) (k : Nat) (e : Part) : Prop where
  le : k ≤ (p.victimOrder (p.afterLow b (q.bus b))).length
  work : q.ShedWork b
    (shedEntries (lowCause (q.bus b)) p.uptime (p.lowVictims b (q.bus b)) ++
      shedEntries .overload p.uptime ((p.victimOrder (p.afterLow b (q.bus b))).take k)) e
  tight : ∀ j, j < k → busLimitOf p.params b <
    p.draw (p.afterLow b (q.bus b)) - p.draw ((p.victimOrder (p.afterLow b (q.bus b))).take j)
  fits : p.draw (p.afterLow b (q.bus b)) - p.draw ((p.victimOrder (p.afterLow b (q.bus b))).take k) ≤ busLimitOf p.params b ∨
    k = (p.victimOrder (p.afterLow b (q.bus b))).length

/-- The overload check on a part `q` in which the low victims have been shed (R59). -/
theorem Part.ShedWork.overloadCheck {p q : Part} {b : BusName} (hn : (p.bus b).onList.Nodup) (hm : p.NoMotor b)
    (h : p.ShedWork b (shedEntries (lowCause (p.bus b)) p.uptime (p.lowVictims b (p.bus b))) q) :
    ∃ k, p.CheckWork p b k (q.overloadCheck b) := by
  obtain ⟨_, hb⟩ := h.bus
  have hleft : (q.bus b).onList = p.afterLow b (p.bus b) := by
    rw [hb, shedEntries_loads]
    rfl
  have hload : ∀ l ∈ p.afterLow b (p.bus b), q.load l = p.load l := fun l hl => h.otherLoad l (by
    rw [shedEntries_loads]
    exact of_decide_eq_true (List.mem_filter.1 hl).2)
  have hnodup : (p.afterLow b (p.bus b)).Nodup := hn.filter _
  have horder : q.victims b (fun _ => true) = p.victimOrder (p.afterLow b (p.bus b)) := by
    rw [q.victims_all, hleft]
    exact Part.victimOrder_congr (.of_eq h.params) hload
  have hsum (j : Nat) : (q.shedAll b .overload ((p.victimOrder (p.afterLow b (p.bus b))).take j)).committedSum b =
      p.draw (p.afterLow b (p.bus b)) - p.draw ((p.victimOrder (p.afterLow b (p.bus b))).take j) := by
    have hsub : (p.victimOrder (p.afterLow b (p.bus b))).take j ⊆ p.afterLow b (p.bus b) :=
      fun l hl => p.victimOrder_subset _ (List.mem_of_mem_take hl)
    rw [Part.shedAll_committedSum _ (hleft ▸ hnodup) (p.victimOrder_nodup hnodup).take (hleft ▸ hsub), hleft,
      Part.draw_congr (.of_eq h.params) hload, Part.draw_congr (.of_eq h.params) fun l hl => hload l (hsub hl)]
  obtain ⟨k, hk, hfit, hover, hend⟩ := q.shedToFit_stages b (p.victimOrder (p.afterLow b (p.bus b)))
  have hw := q.shedAll_work b .overload ((p.victimOrder (p.afterLow b (p.bus b))).take k)
  simp only [hsum, h.params] at hover hend
  refine ⟨k, hk, ?_, hover, hend⟩
  rw [Part.overloadCheck, horder, hfit, (hw.noMotor (h.noMotor hm)).motorCut]
  rw [h.uptime] at hw
  exact h.trans hw

theorem Part.threeChecks_work {p : Part} {b : BusName} (hn : (p.bus b).onList.Nodup) (hm : p.NoMotor b) :
    ∃ k, p.CheckWork p b k (p.threeChecks b) := (Part.lowChecks_work hm).overloadCheck hn hm

/-- The loads of the two sheddings stand on the list, each once. -/
theorem Part.checkVictims_on_list (p : Part) (b : BusName) {r : BusRec} (hn : r.onList.Nodup) (k : Nat) :
    (p.lowVictims b r ++ (p.victimOrder (p.afterLow b r)).take k).Nodup ∧
      p.lowVictims b r ++ (p.victimOrder (p.afterLow b r)).take k ⊆ r.onList := by
  have hfreed : (p.victimOrder (p.afterLow b r)).take k ⊆ p.afterLow b r :=
    fun l h => p.victimOrder_subset _ (List.mem_of_mem_take h)
  constructor
  · refine List.nodup_append'.2 ⟨p.lowVictims_nodup b hn, (p.victimOrder_nodup (hn.filter _)).take, fun l h1 h2 => ?_⟩
    exact of_decide_eq_true (List.mem_filter.1 (hfreed h2)).2 h1
  · exact List.append_subset.2 ⟨fun l h => p.mem_lowVictims h, fun l h => List.mem_of_mem_filter (hfreed h)⟩

/-- The three checks of a bus shed loads of its list, and no others. -/
theorem Part.threeChecks_sheds {p : Part} {b : BusName} (hn : (p.bus b).onList.Nodup) (hm : p.NoMotor b) :
    ∃ es, p.ShedWork b es (p.threeChecks b) ∧ es.map (·.load) ⊆ (p.bus b).onList := by
  obtain ⟨k, h⟩ := Part.threeChecks_work hn hm
  refine ⟨_, h.work, ?_⟩
  rw [List.map_append, shedEntries_loads, shedEntries_loads]
  exact (p.checkVictims_on_list b hn k).2

/-! ### A re-formed bus record after its checks -/

/-- The parts agree on the loads of a list, on the settings that loads and buses follow, and on the time. -/
structure Part.SameOn (p : Part) (ls : List LoadId) (q : Part) : Prop where
  params : p.params.SameLoads q.params
  uptime : q.uptime = p.uptime
  load : ∀ l ∈ ls, q.load l = p.load l

theorem Part.SameOn.lowVictims {p q : Part} {b : BusName} {r : BusRec} (h : p.SameOn r.onList q) :
    q.lowVictims b r = p.lowVictims b r := by
  have hlow : (r.onList.filter fun l => decide (r.soc < busFloorOf q.params b (q.effClass l))) =
      r.onList.filter fun l => decide (r.soc < busFloorOf p.params b (p.effClass l)) :=
    List.filter_congr fun l hl => by rw [h.params.busFloorOf, Part.effClass_congr h.params (h.load l hl)]
  unfold Part.lowVictims
  rw [hlow, Part.victimOrder_congr h.params h.load,
    Part.victimOrder_congr h.params fun l hl => h.load l (List.mem_of_mem_filter hl)]

/-- The three checks, told of the part `p` from before the tie change. -/
theorem Part.SameOn.checkWork {p q e : Part} {b : BusName} {k : Nat} (hs : p.SameOn (q.bus b).onList q)
    (h : q.CheckWork q b k e) : p.CheckWork q b k e := by
  obtain ⟨hle, hw, hover, hfits⟩ := h
  have hafter : q.afterLow b (q.bus b) = p.afterLow b (q.bus b) := by
    rw [Part.afterLow, hs.lowVictims]
    rfl
  have hload : ∀ l ∈ p.afterLow b (q.bus b), q.load l = p.load l := fun l hl => hs.load l (List.mem_of_mem_filter hl)
  have horder := Part.victimOrder_congr hs.params hload
  have htake (j : Nat) : q.draw ((p.victimOrder (p.afterLow b (q.bus b))).take j) =
      p.draw ((p.victimOrder (p.afterLow b (q.bus b))).take j) :=
    Part.draw_congr hs.params fun l hl => hload l (p.victimOrder_subset _ (List.mem_of_mem_take hl))
  rw [hafter, horder] at hle hw hover hfits
  simp only [htake, Part.draw_congr hs.params hload, hs.params.busLimitOf] at hover hfits
  rw [hs.lowVictims, hs.uptime] at hw
  exact ⟨hle, hw, hover, hfits⟩

/-- A re-formed record after its checks, told of the part `p` from before the change: the part `f` at the end shows the record with
its depth mark judged, and the loads of the record as the checks leave them (R67, R68). -/
theorem Part.SameOn.tieChecked {p q f : Part} {b : BusName} (hs : p.SameOn (q.bus b).onList q)
    (hn : (q.bus b).onList.Nodup) (hm : q.NoMotor b) (hf : f.bus b = ((q.threeChecks b).depthJudge b).bus b)
    (hl : ∀ l ∈ (q.bus b).onList, f.load l = (q.threeChecks b).load l) :
    TieChecked p f b (q.bus b) ((q.bus b).onList.length - ((q.threeChecks b).bus b).onList.length) := by
  obtain ⟨k, hk⟩ := Part.threeChecks_work hn hm
  obtain ⟨hle, hw, hover, hfits⟩ := hs.checkWork hk
  obtain ⟨hnodup, hsub⟩ := p.checkVictims_on_list b hn k
  obtain ⟨_, hb⟩ := hw.bus
  have hshed := hw.shed
  have hother := hw.otherLoad
  simp only [List.map_append, shedEntries_loads] at hb hshed hother
  have hlen := (filter_notMem_append_perm hn hnodup hsub).length_eq
  rw [List.length_append, List.length_append, List.length_take, min_eq_left hle] at hlen
  have hcount : (q.bus b).onList.length - ((q.threeChecks b).bus b).onList.length = (p.lowVictims b (q.bus b)).length + k := by
    rw [hb]
    dsimp only
    omega
  have hbus := hf.trans (Part.depthJudge_bus _ b)
  rw [hb, hw.params, hs.params.busWarnOf, filter_notMem_append, ← List.append_assoc] at hbus
  refine ⟨k, hle, hover, hfits, hcount, hbus, fun l h => ?_, fun l h hno => ?_⟩
  · rw [hl l (hsub h)]
    exact hshed l h
  · rw [hl l h, hother l hno, hs.load l h]

end Sys2Proof.Machine
end

section
/-! PROOFS. TIE_SET and the change of the tie relay (R37, R38, R67, R68): the merging of the on-lists, the records that a join and a
split form, and the request. -/

namespace Sys2Proof.Machine

/-! ### The merging of two on-lists (R67) -/

/-- The uptime at which a load was admitted, as a number. -/
def Part.admitted (p : Part) (l : LoadId) : Nat := (p.load l).admittedAt.toNat

/-- The entries of B that are older than the first of A go first, then that one, then the merging of the rest. -/
theorem Part.mergeLists_cons (p : Part) (a : LoadId) (as bs : List LoadId) : p.mergeLists (a :: as) bs =
    (bs.takeWhile fun b => decide (p.admitted b < p.admitted a)) ++
      a :: p.mergeLists as (bs.dropWhile fun b => decide (p.admitted b < p.admitted a)) := by
  have hdrop (f : LoadId → Bool) : bs.drop (bs.takeWhile f).length = bs.dropWhile f := by
    conv_lhs => enter [2]; rw [← List.takeWhile_append_dropWhile (p := f) (l := bs)]
    exact List.drop_left
  rw [Part.mergeLists, hdrop]
  rfl

theorem Part.mergeLists_congr {p q : Part} (h : ∀ l, q.load l = p.load l) (as bs : List LoadId) :
    q.mergeLists as bs = p.mergeLists as bs := by
  have ht : q.admitted = p.admitted := funext fun l => by rw [Part.admitted, h, Part.admitted]
  induction as generalizing bs with
  | nil => rfl
  | cons a as ih => simp only [Part.mergeLists_cons, ht, ih]

theorem Part.mergeLists_perm (p : Part) (as bs : List LoadId) : (p.mergeLists as bs).Perm (as ++ bs) := by
  induction as generalizing bs with
  | nil => exact .refl bs
  | cons a as ih =>
    rw [p.mergeLists_cons]
    refine List.perm_middle.trans (.cons a ?_)
    conv_rhs => rw [← List.takeWhile_append_dropWhile (p := fun b => decide (p.admitted b < p.admitted a)) (l := bs)]
    exact ((ih _).append_left _).trans (List.perm_append_comm_assoc ..)

theorem Part.sublist_mergeLists_left (p : Part) (as bs : List LoadId) : as.Sublist (p.mergeLists as bs) := by
  induction as generalizing bs with
  | nil => exact List.nil_sublist _
  | cons a as ih =>
    rw [p.mergeLists_cons]
    exact ((ih _).cons_cons a).trans (List.sublist_append_right ..)

theorem Part.sublist_mergeLists_right (p : Part) (as bs : List LoadId) : bs.Sublist (p.mergeLists as bs) := by
  induction as generalizing bs with
  | nil => exact .refl bs
  | cons a as ih =>
    rw [p.mergeLists_cons]
    conv_lhs => rw [← List.takeWhile_append_dropWhile (p := fun b => decide (p.admitted b < p.admitted a)) (l := bs)]
    exact (List.Sublist.refl _).append ((ih _).cons a)

/-- What is left of an ascending list after its members below a bound is at or above the bound. -/
theorem le_of_mem_dropWhile {α : Type} {t : α → Nat} {n : Nat} {xs : List α} (h : xs.Pairwise fun x y => t x ≤ t y) {y : α}
    (hy : y ∈ xs.dropWhile fun x => decide (t x < n)) : n ≤ t y := by
  induction xs with
  | nil => simp at hy
  | cons x xs ih =>
    obtain ⟨hx, hxs⟩ := List.pairwise_cons.1 h
    by_cases hlt : t x < n
    · rw [List.dropWhile_cons_of_pos (by simpa using hlt)] at hy
      exact ih hxs hy
    · rw [List.dropWhile_cons_of_neg (by simpa using hlt)] at hy
      rcases List.mem_cons.1 hy with rfl | hy
      · exact Nat.not_lt.1 hlt
      · exact (Nat.not_lt.1 hlt).trans (hx y hy)

/-- Two ascending lists merge into an ascending one, in which of two entries of the same time the former is of A or the latter of B. -/
theorem Part.mergeLists_ascends (p : Part) {as bs : List LoadId} (A B : LoadId → Prop) (ha : ∀ x ∈ as, A x) (hb : ∀ x ∈ bs, B x)
    (has : as.Pairwise fun x y => p.admitted x ≤ p.admitted y) (hbs : bs.Pairwise fun x y => p.admitted x ≤ p.admitted y) :
    (p.mergeLists as bs).Pairwise fun x y =>
      p.admitted x ≤ p.admitted y ∧ (p.admitted x = p.admitted y → A x ∨ B y) := by
  induction as generalizing bs with
  | nil => exact hbs.imp_of_mem fun _ hy hle => ⟨hle, fun _ => .inr (hb _ hy)⟩
  | cons a as ih =>
    obtain ⟨hfirst, hrest⟩ := List.pairwise_cons.1 has
    have hyounger : ∀ y ∈ bs.dropWhile (fun b => decide (p.admitted b < p.admitted a)), y ∈ bs :=
      fun y hy => (List.dropWhile_sublist _).subset hy
    have hafter : ∀ y ∈ p.mergeLists as (bs.dropWhile fun b => decide (p.admitted b < p.admitted a)),
        p.admitted a ≤ p.admitted y := fun y hy => by
      rcases List.mem_append.1 ((p.mergeLists_perm _ _).mem_iff.1 hy) with h | h
      · exact hfirst y h
      · exact le_of_mem_dropWhile hbs h
    rw [p.mergeLists_cons, List.pairwise_append, List.pairwise_cons]
    refine ⟨?_, ⟨fun y hy => ⟨hafter y hy, fun _ => .inl (ha a (by simp))⟩, ?_⟩, fun x hx y hy => ?_⟩
    · exact (hbs.sublist (List.takeWhile_sublist _)).imp_of_mem
        fun _ hy hle => ⟨hle, fun _ => .inr (hb _ ((List.takeWhile_sublist _).subset hy))⟩
    · exact ih (fun x hx => ha x (by simp [hx])) (fun y hy => hb y (hyounger y hy)) hrest
        (hbs.sublist (List.dropWhile_sublist _))
    · have hlt : p.admitted x < p.admitted a := by simpa using List.mem_takeWhile_imp hx
      rcases List.mem_cons.1 hy with rfl | hy
      · exact ⟨hlt.le, fun e => absurd e hlt.ne⟩
      · have := hlt.trans_le (hafter y hy)
        exact ⟨this.le, fun e => absurd e this.ne⟩

/-! ### Checks that find nothing -/

theorem Part.threeChecks_of_empty {p : Part} {b : BusName} (h : (p.bus b).onList = []) : p.threeChecks b = p := by
  have hm (extra : Nat) : p.motorCut b extra = p := Part.NoMotor.motorCut (by simp [Part.NoMotor, h]) extra
  have hv (ok : Nat → Bool) : p.victims b ok = [] := by simp [Part.victims, h]
  have hu : p.undervoltageShed b = p := by rw [Part.undervoltageShed, hv, Part.shedAll, List.foldl_nil, hm]
  have ho : p.overloadCheck b = p := by rw [Part.overloadCheck, hv, Part.shedToFit, hm]
  rw [Part.threeChecks, hu, ite_self, Part.floorCheck_of_empty h, ho]

theorem Part.setBus_bus (p : Part) (b : BusName) : p.setBus b (p.bus b) = p := by cases b <;> rfl

/-- A clear mark over an empty stack stays clear, but at a warning level of 0. -/
theorem Part.depthJudge_of_empty {p : Part} {b : BusName} (hs : (p.bus b).stack = []) (hm : (p.bus b).depthMark = false)
    (hw : 0 < busWarnOf p.params b) : p.depthJudge b = p := by
  rw [Part.depthJudge, if_neg (by rw [hs]; exact Nat.not_le.2 hw), ← hm]
  exact p.setBus_bus b

/-! ### The records of a join and of a split (R67, R68) -/

/-- The part with a new tie state and its bus records. -/
def Part.withBuses (p : Part) (t : Tie) (a b j : BusRec) : Part :=
  { p with chg := { p.chg with tieRelay := t }, ldm := { p.ldm with busA := a, busB := b, busJ := j } }

theorem Part.withBuses_load (p : Part) (t : Tie) (a b j : BusRec) (l : LoadId) : (p.withBuses t a b j).load l = p.load l := rfl

/-- The record of the joined bus after a join. -/
def Part.joinRecord (p : Part) : BusRec :=
  { BusRec.reset with
    soc := p.joinedSoc, voltage := p.joinedVoltage, uvFlag := p.ldm.busA.uvFlag || p.ldm.busB.uvFlag
    onList := p.mergeLists p.ldm.busA.onList p.ldm.busB.onList, stack := p.ldm.busA.stack ++ p.ldm.busB.stack }

/-- The part with the joined record, before its checks. -/
def Part.joinFormed (p : Part) : Part := p.withBuses .joined BusRec.reset BusRec.reset p.joinRecord

/-- The record of a bank's bus after a split. -/
def Part.splitRecord (p : Part) (b : Bank) : BusRec :=
  { BusRec.reset with
    soc := p.bankSoc b, voltage := (p.bank b).lastVoltage, uvFlag := p.ldm.busJ.uvFlag
    onList := p.ldm.busJ.onList.filter fun l => p.params.homeBank l == b
    stack := p.ldm.busJ.stack.filter fun e => p.params.homeBank e.load == b }

/-- The part with the records of A and B, before their checks. -/
def Part.splitFormed (p : Part) : Part := p.withBuses .split (p.splitRecord .A) (p.splitRecord .B) BusRec.reset

theorem Part.setTie_of_same {p : Part} {t : Tie} (h : p.chg.tieRelay = t) (x : ChargeCause) : p.setTie t x = (p, 0) := if_pos h

/-- A join: the formed record goes through its checks, its depth mark is judged, and the change is posted. -/
theorem Part.setTie_joined {p : Part} (h : p.chg.tieRelay = .split) (x : ChargeCause) : p.setTie .joined x =
    (((p.joinFormed.threeChecks .joined).depthJudge .joined).postCharge .tie x,
      (p.joinFormed.bus .joined).onList.length - ((p.joinFormed.threeChecks .joined).bus .joined).onList.length) := by
  have hm : ({ p with chg := { p.chg with tieRelay := .joined } } : Part).mergeLists = p.mergeLists :=
    funext₂ (Part.mergeLists_congr fun _ => rfl)
  unfold Part.setTie Part.ldmJoin Part.tieChecks
  rw [if_neg (by rw [h]; decide)]
  dsimp only
  rw [hm]
  rfl

/-- A split: the checks of A, then those of B, and the two depth marks. -/
theorem Part.setTie_split {p a b e : Part} (h : p.chg.tieRelay = .joined) (ha : p.splitFormed.threeChecks .A = a)
    (hb : a.threeChecks .B = b) (he : (b.depthJudge .A).depthJudge .B = e) (x : ChargeCause) : p.setTie .split x =
      (e.postCharge .tie x,
        (p.splitFormed.bus .A).onList.length - (a.bus .A).onList.length + ((a.bus .B).onList.length - (b.bus .B).onList.length)) := by
  subst ha hb he
  have hsoc (b : Bank) : ({ p with chg := { p.chg with tieRelay := .split } } : Part).bankSoc b = p.bankSoc b := rfl
  have hbank (b : Bank) : ({ p with chg := { p.chg with tieRelay := .split } } : Part).bank b = p.bank b := rfl
  unfold Part.setTie Part.ldmSplit Part.tieChecks Part.splitFormed Part.splitRecord Part.withBuses
  rw [if_neg (by rw [h]; decide)]
  simp only [hsoc, hbank, BusRec.reset]

/-! ### The setting (R39) -/

theorem set_getD_self {α : Type} (xs : List α) (i : Nat) (d : α) : xs.set i (xs.getD i d) = xs := by
  rcases Nat.lt_or_ge i xs.length with h | h
  · rw [List.getD_eq_getElem _ _ h, List.set_getElem_self]
  · exact List.set_eq_of_length_le h

theorem Pages.set_get_self (ps : Pages) (page idx : Nat) : ps.set page idx (ps.get page idx) = ps := by
  rw [Pages.set, Pages.get, set_getD_self, set_getD_self]

/-- A written setting, and SETTINGS_UNSAVED where it changed. -/
theorem Part.writeSetting_eq (p : Part) (page idx : Nat) (v : Word) : p.writeSetting page idx v = { p with
    params := p.params.set page idx v
    lnk := { p.lnk with unsaved := p.lnk.unsaved || p.params.get page idx != v } } := by
  unfold Part.writeSetting
  split
  next h =>
    subst h
    rw [Pages.set_get_self, bne_self_eq_false, Bool.or_false]
  next h =>
    rw [(bne_iff_ne.2 h : (p.params.get page idx != v) = true), Bool.or_true]
    rfl

/-! ### The checks of the re-formed records -/

/-- Two parts that agree but for the settings of page 2 and the link, as before and after a tie setting is written. -/
structure Part.TieAgrees (p q : Part) : Prop where
  params : p.params.SameLoads q.params
  bnk : q.bnk = p.bnk
  ldm : q.ldm = p.ldm
  uptime : q.uptime = p.uptime

section

variable {p q : Part} (h : p.TieAgrees q)
include h

theorem Part.TieAgrees.bank (b : Bank) : q.bank b = p.bank b := by
  cases b <;> simp only [Part.bank, h.bnk]

theorem Part.TieAgrees.load (l : LoadId) : q.load l = p.load l := by
  simp only [Part.load, h.ldm]

theorem Part.TieAgrees.joinRecord : q.joinRecord = p.joinRecord := by
  simp only [Part.joinRecord, Part.joinedSoc, Part.joinedVoltage, h.bank, h.params.fullContent, h.ldm,
    Part.mergeLists_congr h.load]

theorem Part.TieAgrees.splitRecord (b : Bank) : q.splitRecord b = p.splitRecord b := by
  simp only [Part.splitRecord, Part.bankSoc, h.bank, h.params.fullContent, h.params.homeBank, h.ldm]

end

theorem Part.depthJudge_load (p : Part) (b : BusName) (l : LoadId) : (p.depthJudge b).load l = p.load l :=
  (p.depthJudge_work b).otherLoad l (by simp)

/-- What a part shows of a record after its checks is in its Load Manager. -/
theorem TieChecked.of_ldm {p q q' : Part} {b : BusName} {r : BusRec} {n : Nat} (h : TieChecked p q b r n) (e : q'.ldm = q.ldm) :
    TieChecked p q' b r n := by
  have hbus (b : BusName) : q'.bus b = q.bus b := by cases b <;> simp only [Part.bus, e]
  have hload (l : LoadId) : q'.load l = q.load l := by simp only [Part.load, e]
  simpa only [TieChecked, hbus, hload] using h

/-- A join over lists without a class-2 motor (R67): A and B are cleared, and the joined record goes through its checks. -/
theorem Part.TieAgrees.join {p q : Part} (h : p.TieAgrees q) (ht : q.chg.tieRelay = .split)
    (hn : (p.ldm.busA.onList ++ p.ldm.busB.onList).Nodup)
    (hm : ∀ l ∈ p.ldm.busA.onList ++ p.ldm.busB.onList, (p.load l).motorClass ≠ some 2) (x : ChargeCause) :
    let r := q.setTie .joined x
    r.1.outbox = q.outbox ∧ r.1.ldm.busA = BusRec.reset ∧ r.1.ldm.busB = BusRec.reset ∧
      TieChecked p r.1 .joined p.joinRecord r.2 := by
  rw [Part.setTie_joined ht]
  have hbus : q.joinFormed.bus .joined = p.joinRecord := h.joinRecord
  have hload (l : LoadId) : q.joinFormed.load l = p.load l := (Part.withBuses_load ..).trans (h.load l)
  have hperm := p.mergeLists_perm p.ldm.busA.onList p.ldm.busB.onList
  have hnodup : (q.joinFormed.bus .joined).onList.Nodup := by
    rw [hbus]
    exact hperm.nodup_iff.2 hn
  have hmotor : q.joinFormed.NoMotor .joined := fun l hl => by
    rw [hbus] at hl
    rw [hload]
    exact hm l (hperm.mem_iff.1 hl)
  have hsame : p.SameOn (q.joinFormed.bus .joined).onList q.joinFormed := ⟨h.params, h.uptime, fun l _ => hload l⟩
  obtain ⟨es, hw, _⟩ := Part.threeChecks_sheds hnodup hmotor
  have hend := hw.trans (Part.depthJudge_work _ .joined)
  have hchecked := hsame.tieChecked hnodup hmotor rfl fun l _ => Part.depthJudge_load _ .joined l
  rw [hbus] at hchecked ⊢
  refine ⟨(Part.post_outbox ..).trans hend.outbox, ?_, ?_, hchecked.of_ldm (Part.post_ldm ..)⟩
  · exact (Part.post_bus_read _ _ _ _ .A).trans (hend.otherBus .A (by decide))
  · exact (Part.post_bus_read _ _ _ _ .B).trans (hend.otherBus .B (by decide))

/-- The loads of one bank's bus are not on the other's. -/
theorem Part.splitRecord_disjoint (p : Part) {l : LoadId} (ha : l ∈ (p.splitRecord .A).onList) :
    l ∉ (p.splitRecord .B).onList := by
  simp only [Part.splitRecord, List.mem_filter, beq_iff_eq, not_and] at ha ⊢
  intro _
  rw [ha.2]
  decide

/-- The depth marks of A and B are judged each for itself. -/
theorem Part.depthJudge_both {p q : Part} (h : (p.depthJudge .A).depthJudge .B = q) :
    q.bus .A = (p.depthJudge .A).bus .A ∧ q.bus .B = (p.depthJudge .B).bus .B ∧ q.bus .joined = p.bus .joined ∧
      q.outbox = p.outbox ∧ ∀ l, q.load l = p.load l := by
  subst h
  have hA := p.depthJudge_work .A
  have hB := (p.depthJudge .A).depthJudge_work .B
  refine ⟨hB.otherBus .A (by decide), ?_, ?_, hB.outbox.trans hA.outbox, fun l => ?_⟩
  · rw [Part.depthJudge_bus, Part.depthJudge_bus, hA.otherBus .B (by decide), hA.params]
  · exact (hB.otherBus .joined (by decide)).trans (hA.otherBus .joined (by decide))
  · exact (Part.depthJudge_load ..).trans (Part.depthJudge_load ..)

/-- The checks of A and then of B on a part `f` with two records that share no load: each record is checked as if it were alone. -/
theorem Part.checks_of_disjoint {p f a b e : Part} (hs : ∀ ls, p.SameOn ls f) (hn : ∀ b, (f.bus b).onList.Nodup)
    (hm : ∀ b, f.NoMotor b) (hd : ∀ l ∈ (f.bus .A).onList, l ∉ (f.bus .B).onList) (ha : f.threeChecks .A = a)
    (hb : a.threeChecks .B = b) (he : (b.depthJudge .A).depthJudge .B = e) :
    e.outbox = f.outbox ∧ e.bus .joined = f.bus .joined ∧
      TieChecked p e .A (f.bus .A) ((f.bus .A).onList.length - (a.bus .A).onList.length) ∧
      TieChecked p e .B (f.bus .B) ((a.bus .B).onList.length - (b.bus .B).onList.length) := by
  obtain ⟨es, hwA, hes⟩ := Part.threeChecks_sheds (hn .A) (hm .A)
  rw [ha] at hwA
  have haB : a.bus .B = f.bus .B := hwA.otherBus .B (by decide)
  have hloadB : ∀ l ∈ (a.bus .B).onList, a.load l = f.load l := fun l hl =>
    hwA.otherLoad l fun hc => hd l (hes hc) (haB ▸ hl)
  have hnB : (a.bus .B).onList.Nodup := haB ▸ hn .B
  have hmB : a.NoMotor .B := fun l hl => hloadB l hl ▸ hm .B l (haB ▸ hl)
  obtain ⟨fs, hwB, hfs⟩ := Part.threeChecks_sheds hnB hmB
  rw [hb] at hwB
  have hloadA : ∀ l ∈ (f.bus .A).onList, b.load l = a.load l := fun l hl =>
    hwB.otherLoad l fun hc => hd l hl (haB ▸ hfs hc)
  obtain ⟨heA, heB, heJ, hout, hload⟩ := Part.depthJudge_both he
  have hbA : (b.depthJudge .A).bus .A = (a.depthJudge .A).bus .A := by
    rw [Part.depthJudge_bus, Part.depthJudge_bus, hwB.otherBus .A (by decide), hwB.params]
  have hsameB : p.SameOn (a.bus .B).onList a := ⟨hwA.params ▸ (hs []).params, hwA.uptime.trans (hs []).uptime,
    fun l hl => (hloadB l hl).trans ((hs [l]).load l (by simp))⟩
  have hcA := (hs _).tieChecked (f := e) (hn .A) (hm .A) (by rw [ha, heA, hbA]) fun l hl => by rw [ha, hload, hloadA l hl]
  have hcB := hsameB.tieChecked (f := e) hnB hmB (by rw [hb, heB]) fun l _ => by rw [hb, hload]
  rw [ha] at hcA
  rw [hb, haB] at hcB
  refine ⟨hout.trans (hwB.outbox.trans hwA.outbox), ?_, hcA, haB ▸ hcB⟩
  rw [heJ, hwB.otherBus _ (by decide), hwA.otherBus _ (by decide)]

/-- A split over a list without a class-2 motor (R68): the joined record is cleared, and the records of A and B go through their
checks. -/
theorem Part.TieAgrees.split {p q : Part} (h : p.TieAgrees q) (ht : q.chg.tieRelay = .joined)
    (hn : p.ldm.busJ.onList.Nodup) (hm : ∀ l ∈ p.ldm.busJ.onList, (p.load l).motorClass ≠ some 2) (x : ChargeCause) :
    (q.setTie .split x).1.outbox = q.outbox ∧ (q.setTie .split x).1.ldm.busJ = BusRec.reset ∧
      ∃ n m, (q.setTie .split x).2 = n + m ∧
        TieChecked p (q.setTie .split x).1 .A (p.splitRecord .A) n ∧
        TieChecked p (q.setTie .split x).1 .B (p.splitRecord .B) m := by
  obtain ⟨a, ha⟩ : ∃ a, q.splitFormed.threeChecks .A = a := ⟨_, rfl⟩
  obtain ⟨b, hb⟩ : ∃ b, a.threeChecks .B = b := ⟨_, rfl⟩
  obtain ⟨e, he⟩ : ∃ e, (b.depthJudge .A).depthJudge .B = e := ⟨_, rfl⟩
  rw [Part.setTie_split ht ha hb he]
  have hA : q.splitFormed.bus .A = p.splitRecord .A := h.splitRecord .A
  have hB : q.splitFormed.bus .B = p.splitRecord .B := h.splitRecord .B
  have hJ : q.splitFormed.bus .joined = BusRec.reset := rfl
  have hload (l : LoadId) : q.splitFormed.load l = p.load l := (Part.withBuses_load ..).trans (h.load l)
  have hx : q.splitFormed.outbox = q.outbox := rfl
  have hlist (b : BusName) : (q.splitFormed.bus b).onList.Sublist p.ldm.busJ.onList := by
    cases b with
    | A => rw [hA]; exact List.filter_sublist
    | B => rw [hB]; exact List.filter_sublist
    | joined => exact List.nil_sublist _
  have hmotor (b : BusName) : q.splitFormed.NoMotor b := fun l hl => by
    rw [hload]
    exact hm l ((hlist b).subset hl)
  have hdisjoint : ∀ l ∈ (q.splitFormed.bus .A).onList, l ∉ (q.splitFormed.bus .B).onList := by
    rw [hA, hB]
    exact fun l => p.splitRecord_disjoint
  have hsame (ls : List LoadId) : p.SameOn ls q.splitFormed := ⟨h.params, h.uptime, fun l _ => hload l⟩
  obtain ⟨ho, hj, hcA, hcB⟩ := Part.checks_of_disjoint hsame (fun b => hn.sublist (hlist b)) hmotor hdisjoint ha hb he
  rw [hA] at hcA ⊢
  rw [hB] at hcB
  refine ⟨(Part.post_outbox ..).trans (ho.trans hx), ?_, _, _, rfl, hcA.of_ldm (Part.post_ldm ..), hcB.of_ldm (Part.post_ldm ..)⟩
  exact (Part.post_bus_read _ _ _ _ .joined).trans (hj.trans hJ)

end Sys2Proof.Machine
end

section
/-! PROOFS. TIE_SET (R38): its refusals, the setting that it writes, and its reply over the changes of the tie relay. -/

namespace Sys2Proof.Machine

/-! ### The checks (R38) -/

theorem Part.tieRefusal_of_start {p : Part} (h : p.mdc.mode = .start) : p.tieRefusal = some .starting := by
  simp [Part.tieRefusal, h]

theorem Part.tieRefusal_of_away {p : Part} (h : p.mdc.mode = .storage ∨ p.mdc.mode = .service) :
    p.tieRefusal = some .interlock := by
  rcases h with h | h <;> simp [Part.tieRefusal, h]

theorem Part.tieRefusal_of_moving {p : Part} (hm : p.mdc.mode = .active) (h : p.parked = false ∨ p.mot.active.isSome = true) :
    p.tieRefusal = some .interlock := by
  rcases h with h | h <;> simp [Part.tieRefusal, hm, h]

theorem Part.tieRefusal_of_parked {p : Part} (hm : p.mdc.mode = .active) (hp : p.parked = true) (ha : p.mot.active = none) :
    p.tieRefusal = none := by
  simp [Part.tieRefusal, hm, hp, ha]

/-- TIE_SET with a refusal is answered with it, and changes nothing. -/
theorem tieSet_refused {s : State} {st : Status} (hr : s.part.Ready) (h : s.part.tieRefusal = some st) (x : Byte)
    (hx : x.toNat ≤ 1) : Replies (.tieSet x) s s.part st [] := by
  obtain ⟨t, ht⟩ := tieArg_of_le hx
  refine replies_of_refuse hr rfl ?_
  have hq : (s.part.queued (.tieSet x)).tieRefusal = some st := h
  simp only [Part.handle, Part.tieSet, ht, hq]

/-! ### The setting and the request in the queue -/

/-- The part with the tie setting written. -/
def Part.tieWritten (p : Part) (t : Tie) : Part := { p with
  params := p.params.set 2 0 (tieWord t)
  lnk := { p.lnk with unsaved := p.lnk.unsaved || p.params.get 2 0 != tieWord t } }

theorem Part.tieWritten_agrees (p : Part) (t : Tie) : p.TieAgrees (p.tieWritten t) :=
  ⟨Pages.sameLoads_set _ _ _, rfl, rfl, rfl⟩

theorem Part.TieAgrees.queued {p q : Part} (h : p.TieAgrees q) (r : Request) : p.TieAgrees (q.queued r) :=
  ⟨h.params, h.bnk, h.ldm, h.uptime⟩

theorem Part.TieAgrees.refl (p : Part) : p.TieAgrees p := ⟨.of_eq rfl, rfl, rfl, rfl⟩

/-- A part whose queue held the request alone, once it has left. -/
theorem Part.queued_left {p : Part} {r : Request} (h : p.lnk.requests = []) :
    ({ p.queued r with lnk := { (p.queued r).lnk with requests := [] } } : Part) = p := by
  rw [← h]

/-- A notice is posted past the queue of requests. -/
theorem Part.queued_post (p : Part) (r : Request) (k : NoticeKind) (n : Nat) (d : List Byte) :
    (p.queued r).post k n d = (p.post k n d).queued r := by
  unfold Part.post
  split <;> rfl

theorem Part.queued_postCharge (p : Part) (r : Request) (x : ChargeSubject) (y : ChargeCause) :
    (p.queued r).postCharge x y = (p.postCharge x y).queued r := Part.queued_post ..

theorem Part.post_requests (p : Part) (k : NoticeKind) (n : Nat) (d : List Byte) :
    (p.post k n d).lnk.requests = p.lnk.requests := by
  unfold Part.post
  split <;> rfl

/-- An accepted TIE_SET: what the change of the relay makes of the part with the setting written, and the reply that counts. -/
theorem tieSet_replies {s : State} {x : Byte} {t : Tie} {e : Part} {n : Nat} (hr : s.part.Ready) (ht : tieArg x = some t)
    (hn : s.part.tieRefusal = none) (he : ((s.part.tieWritten t).queued (.tieSet x)).setTie t .request = (e, n))
    (ho : e.outbox = []) :
    Replies (.tieSet x) s { e with lnk := { e.lnk with requests := [] } } .ok (n8 t.code ++ n8 n) := by
  obtain ⟨_, _, _, _, ⟨_, _, hc⟩, _, _, hl⟩ := ((s.part.tieWritten t).queued (.tieSet x)).setTie_work t .request
  rw [he] at hc hl
  have hq : (s.part.queued (.tieSet x)).tieRefusal = none := hn
  have hw : (s.part.queued (.tieSet x)).writeSetting 2 0 (tieWord t) = (s.part.tieWritten t).queued (.tieSet x) :=
    Part.writeSetting_eq ..
  have hh : (s.part.queued (.tieSet x)).handle (.tieSet x) =
      ⟨e, some (.ok, fun q => n8 q.chg.tieRelay.code ++ n8 n)⟩ := by
    simp only [Part.handle, Part.tieSet, ht, hq, hw, he]
    rfl
  have h := replies_of_handle (i := .tieSet x) hr rfl hh ho (by rw [hl]) (by rw [hl]; exact hr.2.2.2.1)
  have htie : e.chg.tieRelay = t := by rw [hc]
  rwa [htie] at h

/-- An accepted TIE_SET whose change of the relay is known whole. -/
theorem tieSet_replies_whole {s : State} {x : Byte} {t : Tie} {q : Part} (hr : s.part.Ready) (ht : tieArg x = some t)
    (hn : s.part.tieRefusal = none)
    (he : ((s.part.tieWritten t).queued (.tieSet x)).setTie t .request = (q.queued (.tieSet x), 0))
    (ho : q.outbox = []) (hq : q.lnk.requests = []) : Replies (.tieSet x) s q .ok (n8 t.code ++ n8 0) := by
  have h := tieSet_replies hr ht hn he ho
  rwa [Part.queued_left hq] at h

/-! ### Empty lists and stacks -/

/-- A join of empty lists and stacks sheds nothing (R67). -/
theorem Part.setTie_joined_of_empty {p : Part} (ht : p.chg.tieRelay = .split) (hl : p.joinRecord.onList = [])
    (hs : p.joinRecord.stack = []) (hw : 0 < busWarnOf p.params .joined) (x : ChargeCause) :
    p.setTie .joined x = (p.joinFormed.postCharge .tie x, 0) := by
  have hc : p.joinFormed.threeChecks .joined = p.joinFormed := Part.threeChecks_of_empty hl
  have hj : p.joinFormed.depthJudge .joined = p.joinFormed := Part.depthJudge_of_empty hs rfl hw
  rw [Part.setTie_joined ht, hc, hj, Nat.sub_self]

/-- A split of an empty list and stack sheds nothing (R68). -/
theorem Part.setTie_split_of_empty {p : Part} (ht : p.chg.tieRelay = .joined) (hl : ∀ b, (p.splitRecord b).onList = [])
    (hs : ∀ b, (p.splitRecord b).stack = []) (hwA : 0 < busWarnOf p.params .A) (hwB : 0 < busWarnOf p.params .B)
    (x : ChargeCause) : p.setTie .split x = (p.splitFormed.postCharge .tie x, 0) := by
  have hA : p.splitFormed.threeChecks .A = p.splitFormed := Part.threeChecks_of_empty (hl .A)
  have hB : p.splitFormed.threeChecks .B = p.splitFormed := Part.threeChecks_of_empty (hl .B)
  have hjA : p.splitFormed.depthJudge .A = p.splitFormed := Part.depthJudge_of_empty (hs .A) rfl hwA
  have hjB : p.splitFormed.depthJudge .B = p.splitFormed := Part.depthJudge_of_empty (hs .B) rfl hwB
  rw [Part.setTie_split ht hA hB (by rw [hjA, hjB]), Nat.sub_self, Nat.sub_self]

theorem Part.queued_joinFormed (p : Part) (r : Request) : (p.queued r).joinFormed = p.joinFormed.queued r := by
  unfold Part.joinFormed
  rw [((Part.TieAgrees.refl p).queued r).joinRecord]
  rfl

theorem Part.queued_splitFormed (p : Part) (r : Request) : (p.queued r).splitFormed = p.splitFormed.queued r := by
  unfold Part.splitFormed
  rw [((Part.TieAgrees.refl p).queued r).splitRecord, ((Part.TieAgrees.refl p).queued r).splitRecord]
  rfl

/-! ### The answers of an accepted TIE_SET (R37, R38) -/

section

variable {s : State} {x : Byte} (hr : s.part.Ready) (hn : s.part.tieRefusal = none)
include hr hn

/-- The relay stands as the setting has it. -/
theorem tieSet_same {t : Tie} (hx : tieArg x = some t) (ht : s.part.chg.tieRelay = t) :
    Replies (.tieSet x) s (s.part.tieWritten t) .ok (n8 t.code ++ n8 0) :=
  tieSet_replies_whole hr hx hn (Part.setTie_of_same (p := (s.part.tieWritten t).queued (.tieSet x)) ht .request) hr.1 hr.2.2.1

/-- A join of empty lists and stacks. -/
theorem tieSet_joins_empty (hx : tieArg x = some .joined) (ht : s.part.chg.tieRelay = .split)
    (hl : s.part.joinRecord.onList = []) (hs : s.part.joinRecord.stack = []) (hw : 0 < busWarnOf s.part.params .joined) :
    Replies (.tieSet x) s ((s.part.tieWritten .joined).joinFormed.postCharge .tie .request) .ok [1#8, 0#8] := by
  have h := (s.part.tieWritten_agrees .joined).queued (.tieSet x)
  have he := Part.setTie_joined_of_empty (p := (s.part.tieWritten .joined).queued (.tieSet x)) ht
    (by rw [h.joinRecord, hl]) (by rw [h.joinRecord, hs]) (by rw [h.params.busWarnOf]; exact hw) .request
  rw [Part.queued_joinFormed, Part.queued_postCharge] at he
  exact tieSet_replies_whole (t := .joined) hr hx hn he ((Part.post_outbox ..).trans hr.1) ((Part.post_requests ..).trans hr.2.2.1)

/-- A split of an empty list and stack. -/
theorem tieSet_splits_empty (hx : tieArg x = some .split) (ht : s.part.chg.tieRelay = .joined)
    (hl : ∀ b, (s.part.splitRecord b).onList = []) (hs : ∀ b, (s.part.splitRecord b).stack = [])
    (hwA : 0 < busWarnOf s.part.params .A) (hwB : 0 < busWarnOf s.part.params .B) :
    Replies (.tieSet x) s ((s.part.tieWritten .split).splitFormed.postCharge .tie .request) .ok [0#8, 0#8] := by
  have h := (s.part.tieWritten_agrees .split).queued (.tieSet x)
  have he := Part.setTie_split_of_empty (p := (s.part.tieWritten .split).queued (.tieSet x)) ht
    (fun b => by rw [h.splitRecord, hl]) (fun b => by rw [h.splitRecord, hs])
    (by rw [h.params.busWarnOf]; exact hwA) (by rw [h.params.busWarnOf]; exact hwB) .request
  rw [Part.queued_splitFormed, Part.queued_postCharge] at he
  exact tieSet_replies_whole (t := .split) hr hx hn he ((Part.post_outbox ..).trans hr.1) ((Part.post_requests ..).trans hr.2.2.1)

/-- A join over lists without a class-2 motor. -/
theorem tieSet_joins (hx : tieArg x = some .joined) (ht : s.part.chg.tieRelay = .split)
    (hnd : (s.part.ldm.busA.onList ++ s.part.ldm.busB.onList).Nodup)
    (hm : ∀ l ∈ s.part.ldm.busA.onList ++ s.part.ldm.busB.onList, (s.part.load l).motorClass ≠ some 2) :
    ∃ q n, Replies (.tieSet x) s q .ok ([1#8] ++ n8 n) ∧ q.chg.tieRelay = .joined ∧
      q.params = (s.part.tieWritten .joined).params ∧ q.bnk = s.part.bnk ∧ q.ldm.busA = BusRec.reset ∧
      q.ldm.busB = BusRec.reset ∧ TieChecked s.part q .joined s.part.joinRecord n := by
  have h := (s.part.tieWritten_agrees .joined).queued (.tieSet x)
  obtain ⟨ho, hA, hB, hc⟩ := h.join ht hnd hm .request
  have hw := ((s.part.tieWritten .joined).queued (.tieSet x)).setTie_work .joined .request
  generalize hr' : ((s.part.tieWritten .joined).queued (.tieSet x)).setTie .joined .request = r at ho hA hB hc hw
  obtain ⟨e, n⟩ := r
  obtain ⟨hps, hb, _, _, ⟨_, _, hchg⟩, _⟩ := hw
  have hrep := tieSet_replies hr hx hn hr' (show e.outbox = [] from ho.trans hr.1)
  have hc' := TieChecked.of_ldm (q' := { e with lnk := { e.lnk with requests := [] } }) hc rfl
  have htie := congrArg Chg.tieRelay hchg
  exact ⟨{ e with lnk := { e.lnk with requests := [] } }, n, hrep, htie, hps, hb, hA, hB, hc'⟩

/-- A split over a list without a class-2 motor. -/
theorem tieSet_splits (hx : tieArg x = some .split) (ht : s.part.chg.tieRelay = .joined)
    (hnd : s.part.ldm.busJ.onList.Nodup) (hm : ∀ l ∈ s.part.ldm.busJ.onList, (s.part.load l).motorClass ≠ some 2) :
    ∃ q n m, Replies (.tieSet x) s q .ok ([0#8] ++ n8 (n + m)) ∧ q.chg.tieRelay = .split ∧
      q.params = (s.part.tieWritten .split).params ∧ q.bnk = s.part.bnk ∧ q.ldm.busJ = BusRec.reset ∧
      TieChecked s.part q .A (s.part.splitRecord .A) n ∧ TieChecked s.part q .B (s.part.splitRecord .B) m := by
  have h := (s.part.tieWritten_agrees .split).queued (.tieSet x)
  obtain ⟨ho, hJ, n, m, hcount, hA, hB⟩ := h.split ht hnd hm .request
  have hw := ((s.part.tieWritten .split).queued (.tieSet x)).setTie_work .split .request
  generalize hr' : ((s.part.tieWritten .split).queued (.tieSet x)).setTie .split .request = r at ho hJ hcount hA hB hw
  obtain ⟨e, k⟩ := r
  obtain rfl : k = n + m := hcount
  obtain ⟨hps, hb, _, _, ⟨_, _, hchg⟩, _⟩ := hw
  have hrep := tieSet_replies hr hx hn hr' (show e.outbox = [] from ho.trans hr.1)
  have hA' := TieChecked.of_ldm (q' := { e with lnk := { e.lnk with requests := [] } }) hA rfl
  have hB' := TieChecked.of_ldm (q' := { e with lnk := { e.lnk with requests := [] } }) hB rfl
  have htie := congrArg Chg.tieRelay hchg
  exact ⟨{ e with lnk := { e.lnk with requests := [] } }, n, m, hrep, htie, hps, hb, hJ, hA', hB'⟩

end

/-! ### The obligation -/

/-- Settles O29: the merging by its lemmas; the request by its checks, the tie relay, and whether the lists are empty. -/
theorem tieSetJoinsAndSplits : Obligations.TieSetJoinsAndSplits := by
  refine ⟨fun p as bs => ?_, fun s hr => ?_⟩
  · exact ⟨p.mergeLists_perm as bs, p.sublist_mergeLists_left as bs, p.sublist_mergeLists_right as bs,
      p.mergeLists_ascends (· ∈ as) (· ∈ bs) (fun _ => id) fun _ => id⟩
  · intro p set empty refused
    refine ⟨fun hm => tieSet_refused hr (Part.tieRefusal_of_start hm), fun hm => tieSet_refused hr (Part.tieRefusal_of_away hm),
      fun hm h => tieSet_refused hr (Part.tieRefusal_of_moving hm h), fun hm hp ha => ?_⟩
    have hn : p.tieRefusal = none := Part.tieRefusal_of_parked hm hp ha
    refine ⟨fun ht => ?_, fun ht => ?_, fun ht hA hB hw => ?_, fun ht hnd hmo => ?_, fun ht hnd hmo => ?_, fun ht hJ hwA hwB => ?_⟩
    · exact tieSet_same (t := .joined) hr hn rfl ht
    · exact tieSet_same (t := .split) hr hn rfl ht
    · have hrec : (p.tieWritten .joined).joinRecord = { BusRec.reset with
          soc := p.joinedSoc, voltage := p.joinedVoltage, uvFlag := p.ldm.busA.uvFlag || p.ldm.busB.uvFlag } := by
        rw [(p.tieWritten_agrees .joined).joinRecord, Part.joinRecord, hA.1, hA.2, hB.1, hB.2]
        rfl
      have h := tieSet_joins_empty (x := 1) hr hn rfl ht (by rw [Part.joinRecord, hA.1, hB.1]; rfl)
        (by rw [Part.joinRecord, hA.2, hB.2]; rfl) hw
      rw [Part.joinFormed, hrec] at h
      exact h
    · exact tieSet_joins hr hn rfl ht hnd hmo
    · exact tieSet_splits hr hn rfl ht hnd hmo
    · have hrec (b : Bank) : (p.tieWritten .split).splitRecord b = { BusRec.reset with
          soc := p.bankSoc b, voltage := (p.bank b).lastVoltage, uvFlag := p.ldm.busJ.uvFlag } := by
        rw [(p.tieWritten_agrees .split).splitRecord, Part.splitRecord, hJ.1, hJ.2]
        rfl
      have h := tieSet_splits_empty (x := 0) hr hn rfl ht (fun b => by rw [Part.splitRecord, hJ.1]; rfl)
        (fun b => by rw [Part.splitRecord, hJ.2]; rfl) hwA hwB
      rw [Part.splitFormed, hrec, hrec] at h
      exact h

end Sys2Proof.Machine
end

section
/-! PROOFS. The victim order (R53): class by class, the latest of the on-list first, taken from the front until a need fits (R56) or the
committed sum is at the limit (R59). -/

namespace Sys2Proof.Machine

/-! ### The order (R53) -/

/-- The victims of one class are the sheddable loads of that class, the latest of the list first. -/
theorem Part.victimOrder_of_class (p : Part) (ls : List LoadId) {cls : Nat} (h : cls ≤ 4) :
    ((p.victimOrder ls).filter fun l => p.effClass l == cls) =
      ls.reverse.filter fun l => p.sheddable l && p.effClass l == cls := by
  have hpart (c : Nat) : ((ls.reverse.filter fun l => p.sheddable l && p.effClass l == c).filter fun l => p.effClass l == cls) =
      if c = cls then ls.reverse.filter fun l => p.sheddable l && p.effClass l == cls else [] := by
    rw [List.filter_filter]
    split
    next e =>
      subst e
      exact List.filter_congr fun l _ => by cases p.effClass l == c <;> simp
    next hne =>
      refine List.filter_eq_nil_iff.2 fun l _ => ?_
      simp only [Bool.and_eq_true, beq_iff_eq]
      exact fun ⟨h1, _, h2⟩ => hne (h2.symm.trans h1)
  simp only [Part.victimOrder, List.flatMap_cons, List.flatMap_nil, List.append_nil, List.filter_append, hpart]
  by_cases hlow : cls < 2
  · rw [if_neg (by omega), if_neg (by omega), if_neg (by omega)]
    refine (List.filter_eq_nil_iff.2 fun l _ => ?_).symm
    simp only [Part.sheddable, Bool.and_eq_true, decide_eq_true_eq, beq_iff_eq]
    omega
  · obtain rfl | rfl | rfl : cls = 4 ∨ cls = 3 ∨ cls = 2 := by omega
    all_goals simp

/-- What holds of a higher class before a lower one, and of a later load before an earlier one of its class, holds along the order. -/
theorem Part.victimOrder_pairwise {p : Part} {ls : List LoadId} {R : LoadId → LoadId → Prop}
    (hcls : ∀ x y, p.effClass y < p.effClass x → R x y)
    (hsame : ls.Pairwise fun x y => p.effClass x = p.effClass y → R y x) : (p.victimOrder ls).Pairwise R := by
  refine List.pairwise_flatMap.2 ⟨fun c _ => ?_, ?_⟩
  · refine List.pairwise_filter.2 ((List.pairwise_reverse.2 hsame).imp fun {x y} h hx hy => h ?_)
    simp only [Bool.and_eq_true, beq_iff_eq] at hx hy
    exact hy.2.trans hx.2.symm
  · refine List.Pairwise.imp (R := (· > ·)) (fun {c d} hcd x hx y hy => hcls x y ?_) (by decide)
    simp only [List.mem_filter, Bool.and_eq_true, beq_iff_eq] at hx hy
    omega

/-! ### Taken from the front (R56) -/

theorem Part.draw_cons (p : Part) (l : LoadId) (ls : List LoadId) : p.draw (l :: ls) = p.committed l + p.draw ls := by
  simp [Part.draw]

/-- The fewest victims from the front with whose draws a need fits the limit. -/
structure Part.FewestToFit (p : Part) (limit need : Nat) (ls : List LoadId) (k : Nat) : Prop where
  le : k ≤ ls.length
  tight : ∀ j, j < k → limit < need - p.draw (ls.take j)
  fits : need - p.draw (ls.take k) ≤ limit

/-- Either the fewest victims that fit the need are found, or all of them do not fit it. -/
theorem Part.victimsToFit_cases (p : Part) (limit need : Nat) (ls : List LoadId) :
    (∃ k, p.victimsToFit limit need ls = some (ls.take k) ∧ p.FewestToFit limit need ls k) ∨
    (p.victimsToFit limit need ls = none ∧ limit < need - p.draw ls) := by
  induction ls generalizing need with
  | nil =>
    by_cases h : need ≤ limit
    · exact .inl ⟨0, if_pos h, le_rfl, by simp, by simpa [Part.draw] using h⟩
    · exact .inr ⟨if_neg h, by simpa [Part.draw] using h⟩
  | cons l ls ih =>
    by_cases h : need ≤ limit
    · exact .inl ⟨0, if_pos h, by simp, by simp, by simpa [Part.draw] using h⟩
    · have hrec : p.victimsToFit limit need (l :: ls) = (p.victimsToFit limit (need - p.committed l) ls).map (l :: ·) := if_neg h
      rcases ih (need - p.committed l) with ⟨k, e, hle, htight, hfits⟩ | ⟨e, hlow⟩
      · refine .inl ⟨k + 1, by rw [hrec, e]; rfl, by simpa using hle, fun j hj => ?_, ?_⟩
        · cases j with
          | zero => simpa [Part.draw] using h
          | succ j =>
            rw [List.take_succ_cons, Part.draw_cons, ← Nat.sub_sub]
            exact htight j (by omega)
        · rw [List.take_succ_cons, Part.draw_cons, ← Nat.sub_sub]
          exact hfits
      · refine .inr ⟨by rw [hrec, e]; rfl, ?_⟩
        rw [Part.draw_cons, ← Nat.sub_sub]
        exact hlow

theorem Part.draw_take_le (p : Part) (ls : List LoadId) (k : Nat) : p.draw (ls.take k) ≤ p.draw ls := by
  conv_rhs => rw [← List.take_append_drop k ls]
  rw [Part.draw, Part.draw, List.map_append, List.sum_append]
  exact Nat.le_add_right _ _

/-- None are found where all do not fit, and only there. -/
theorem Part.victimsToFit_eq_none (p : Part) (limit need : Nat) (ls : List LoadId) :
    p.victimsToFit limit need ls = none ↔ limit < need - p.draw ls := by
  rcases p.victimsToFit_cases limit need ls with ⟨k, e, _, _, hfits⟩ | ⟨e, hlow⟩
  · rw [e]
    have := p.draw_take_le ls k
    simp only [reduceCtorEq, false_iff]
    omega
  · simp only [e, hlow]

/-! ### The obligation -/

/-- Settles O31: the order by its classes, the fewest to fit by the recursion, the sheddings by what each leaves. -/
theorem victimsByClassThenLatest : Obligations.VictimsByClassThenLatest := by
  refine ⟨fun p b ok => ?_, fun p limit need ls => ⟨fun taken h => ?_, ?_⟩, fun p b ls => p.shedToFit_stages b ls,
    fun p b cause ls _ _ => ?_⟩
  · rw [p.victims_eq]
    refine ⟨fun l => ?_, ?_, fun cls h => ?_, fun ht => ?_⟩
    · rw [Part.mem_victimOrder, List.mem_filter]
      tauto
    · exact Part.victimOrder_pairwise (fun _ _ h => h.le) (List.pairwise_of_forall fun _ _ h => h.le)
    · rw [p.victimOrder_of_class _ h, ← List.filter_reverse, List.filter_filter]
      exact List.filter_congr fun l _ => by simp only [Bool.and_comm, Bool.and_left_comm]
    · exact Part.victimOrder_pairwise (fun _ _ h e => absurd e h.ne') ((ht.filter _).imp fun h _ _ => h)
  · rcases p.victimsToFit_cases limit need ls with ⟨k, e, hle, htight, hfits⟩ | ⟨e, _⟩
    · exact ⟨k, Option.some.inj (h.symm.trans e), hle, hfits, htight⟩
    · simp [e] at h
  · show _ ↔ limit < need - p.draw (ls.take ls.length)
    rw [p.victimsToFit_eq_none, List.take_length]
  · intro q
    obtain ⟨⟨_, hb⟩, hother, hshed, hload, _⟩ := p.shedAll_work b cause ls
    rw [shedEntries_loads] at hb hshed hload
    exact ⟨congrArg BusRec.onList hb, congrArg BusRec.stack hb, hshed, hload, hother⟩

end Sys2Proof.Machine
end

section
/-! PROOFS. What the orders to an output, the work of the owners, and the lists and stacks of a bus leave as it was, and what they make
of their own records. -/

namespace Sys2Proof.Machine

/-! ### Orders to an output (R78) -/

theorem Part.arbiter_channels (p : Part) : p.arbiter.out.channels = p.out.channels := by
  unfold Part.arbiter Part.grantSweep Part.grant
  (repeat' split) <;> rfl

theorem Part.postCheck_chan (p : Part) (c m : LoadId) : (p.postCheck c).chan m = p.chan m := by
  unfold Part.postCheck
  split
  · rfl
  · simp only [Part.chan, Part.arbiter_channels]

theorem Part.setSwitching_chan_of_ne (p : Part) {c m : LoadId} (w : Switching) (h : m ≠ c) :
    (p.setSwitching c w).chan m = p.chan m := Part.chan_setChan_of_ne _ _ h

theorem Part.setSwitching_chan (p : Part) (c : LoadId) (w : Switching) :
    (p.setSwitching c w).chan c = { p.chan c with switching := w } := Part.chan_setChan ..

theorem Part.orderOn_of_off {p : Part} {c : LoadId} (h : (p.chan c).switching = .off) : p.orderOn c =
    ((p.setSwitching c .on).setChan c (((p.setSwitching c .on).chan c).switchedOn c)).postCheck c := by
  simp only [Part.orderOn, h]

theorem Part.orderOn_chan_of_ne (p : Part) {c m : LoadId} (h : m ≠ c) : (p.orderOn c).chan m = p.chan m := by
  cases hs : (p.chan c).switching with
  | off => rw [Part.orderOn_of_off hs, Part.postCheck_chan, Part.chan_setChan_of_ne _ _ h, p.setSwitching_chan_of_ne _ h]
  | on => simp only [Part.orderOn, hs]
  | tripped => simp only [Part.orderOn, hs, Part.report_chan_read]

/-- An output that is not TRIPPED is ON after an on order. -/
theorem Part.orderOn_switching {p : Part} {c : LoadId} (h : (p.chan c).switching ≠ .tripped) :
    ((p.orderOn c).chan c).switching = .on := by
  cases hs : (p.chan c).switching with
  | off =>
    have hsw (r : Channel) : (r.switchedOn c).switching = r.switching := by
      unfold Channel.switchedOn
      split <;> rfl
    rw [Part.orderOn_of_off hs, Part.postCheck_chan, Part.chan_setChan, hsw, Part.setSwitching_chan]
  | on => simp only [Part.orderOn, hs]
  | tripped => exact absurd hs h

theorem Part.orderOff_chan_of_ne (p : Part) {c m : LoadId} (h : m ≠ c) : (p.orderOff c).chan m = p.chan m := by
  unfold Part.orderOff
  split
  · exact (Part.chan_setChan_of_ne _ _ h).trans (p.setSwitching_chan_of_ne _ h)
  · rfl

theorem Part.arbiter_of_out {p q : Part} (h : q.out = p.out) : q.arbiter = { q with out := p.arbiter.out } := by
  obtain ⟨_, _, _, _, _, _, out, _, _, _, _, _, _, _, _⟩ := p
  obtain ⟨_, _, _, _, _, _, _, _, _, _, _, _, _, _, _⟩ := q
  cases h
  unfold Part.arbiter Part.grantSweep
  dsimp only
  split
  · rfl
  · split
    · split <;> rfl
    · cases out.trackingSlot with
      | some c => rfl
      | none =>
        cases out.spotQueue with
        | cons e rest => rfl
        | nil =>
          dsimp only
          split <;> rfl

theorem Part.postCheck_of_out {p q : Part} (h : q.out = p.out) (c : LoadId) :
    q.postCheck c = { q with out := (p.postCheck c).out } := by
  unfold Part.postCheck
  rw [h]
  split
  · rw [← h]
  · exact Part.arbiter_of_out rfl

/-- An on order of an output that is not TRIPPED depends on the Output Monitor only, and changes nothing else. -/
theorem Part.orderOn_of_out {p q : Part} {c : LoadId} (ho : q.out = p.out) (h : (p.chan c).switching ≠ .tripped) :
    q.orderOn c = { q with out := (p.orderOn c).out } := by
  have hc : q.chan c = p.chan c := by simp only [Part.chan, ho]
  have hsw : (q.setSwitching c .on).out = (p.setSwitching c .on).out := by
    simp only [Part.setSwitching, Part.setChan, hc, ho]
  cases hs : (p.chan c).switching with
  | off =>
    rw [Part.orderOn_of_off hs, Part.orderOn_of_off (hc ▸ hs),
      Part.postCheck_of_out (p := (p.setSwitching c .on).setChan c (((p.setSwitching c .on).chan c).switchedOn c))]
    · rfl
    · simp only [Part.setChan, Part.chan, hsw]
  | on => simp only [Part.orderOn, hs, hc, ← ho]
  | tripped => exact absurd hs h

theorem Part.orderOff_of_out {p q : Part} (ho : q.out = p.out) (c : LoadId) :
    q.orderOff c = { q with out := (p.orderOff c).out } := by
  unfold Part.orderOff Part.setSwitching Part.setChan Part.chan
  rw [ho]
  cases (p.out.channels[c]).switching with
  | on => rfl
  | off | tripped => exact congrArg (fun o => ({ q with out := o } : Part)) ho

theorem Part.orderOff_outbox (p : Part) (c : LoadId) : (p.orderOff c).outbox = p.outbox := by
  obtain ⟨_, e, _⟩ := p.orderOff_cases c
  rw [e]

/-! ### The switch outputs under the work of the owners (R58) -/

theorem lightLoad_ne {m : LoadId} (h : m.val < 12) (c : LightId) : m ≠ lightLoad c := by
  rintro rfl
  exact absurd h (by simp [lightLoad])

section

variable {m : LoadId} (hm : m.val < 12)
include hm

theorem Part.setPresent_chan (p : Part) (c : LightId) (level : Nat) : (p.setPresent c level).chan m = p.chan m := by
  unfold Part.setPresent
  dsimp only
  split
  · rfl
  · exact Part.chan_setChan_of_ne _ _ (lightLoad_ne hm c)

theorem Part.lightOn_chan (p : Part) (c : LightId) : (p.lightOn c).chan m = p.chan m := by
  unfold Part.lightOn
  split
  · rfl
  · exact p.orderOn_chan_of_ne (lightLoad_ne hm c)

theorem Part.lightOff_chan (p : Part) (c : LightId) : (p.lightOff c).chan m = p.chan m := by
  unfold Part.lightOff
  split
  · rfl
  · exact p.orderOff_chan_of_ne (lightLoad_ne hm c)

theorem Part.endFade_chan (p : Part) (c : LightId) : (p.endFade c).chan m = p.chan m := by
  unfold Part.endFade
  dsimp only
  split
  · exact Part.lightOff_chan hm _ c
  · rfl

theorem Part.startFade_chan (p : Part) (c : LightId) (fadeEnd time : Nat) :
    (p.startFade c fadeEnd time).chan m = p.chan m := by
  have hon : (if 0 < fadeEnd then (p.setLight c { p.light c with fadeEnd := fadeEnd }).lightOn c
      else p.setLight c { p.light c with fadeEnd := fadeEnd }).chan m = p.chan m := by
    split
    · exact Part.lightOn_chan hm _ c
    · rfl
  unfold Part.startFade
  dsimp only
  generalize (if 0 < fadeEnd then _ else _ : Part) = q at hon
  split
  · rw [Part.endFade_chan hm, Part.setPresent_chan hm, hon]
  · rw [Part.setLight_chan_read, hon]

theorem Part.darken_chan (p : Part) (c : LightId) : (p.darken c).chan m = p.chan m := by
  rw [Part.darken, Part.setLight_chan_read, Part.setPresent_chan hm]

theorem Part.lightReport_chan (p : Part) (c : LightId) (x : OwnerReport) : (p.lightReport c x).chan m = p.chan m := by
  cases x with
  | restored | shed => exact Part.startFade_chan hm ..
  | off => exact (Part.lightOff_chan hm _ c).trans (Part.darken_chan hm p c)
  | faulted | exercised => exact Part.darken_chan hm p c
  | released => exact Part.chan_setChan_of_ne _ _ (lightLoad_ne hm c)
  | cut | cleared => rfl

end

theorem Part.setPad_out (p : Part) (st : PadState) : (p.setPad st).out = p.out := by
  unfold Part.setPad
  dsimp only
  split
  · rfl
  · exact Part.post_out ..

theorem Part.setHeater_out (p : Part) (h : HeaterState) : (p.setHeater h).out = p.out := by
  unfold Part.setHeater
  dsimp only
  split
  · rfl
  · exact Part.post_out ..

theorem Part.heaterEnded_out (p : Part) : p.heaterEnded.out = p.out := by
  unfold Part.heaterEnded
  split <;> rfl

theorem Part.heaterReport_out (p : Part) (x : OwnerReport) : (p.heaterReport x).out = p.out := by
  cases x with
  | restored | shed | cleared => exact Part.setHeater_out ..
  | off | faulted => exact (Part.setHeater_out ..).trans p.heaterEnded_out
  | cut | exercised | released => rfl

theorem Part.padReport_out (p : Part) (x : OwnerReport) : (p.padReport x).out = p.out := by
  unfold Part.padReport
  split
  · rfl
  · cases x with
    | off =>
      dsimp only
      split
      · exact p.setPad_out _
      · exact p.setPad_out _
      · rfl
    | restored | shed | faulted => exact p.setPad_out _
    | cleared | cut | exercised | released => rfl

/-- No owner orders a switch output when it hears of its load. -/
theorem Part.tellOwner_chan (p : Part) {m : LoadId} (hm : m.val < 12) (l : LoadId) (x : OwnerReport) :
    (p.tellOwner l x).chan m = p.chan m := by
  unfold Part.tellOwner
  split
  · exact Part.lightReport_chan hm ..
  · split
    · cases x <;> rfl
    · split
      · cases x <;> rfl
      · simp only [Part.chan, Part.heaterReport_out]
      · cases x <;> rfl
      · simp only [Part.chan, Part.padReport_out]
      · rfl

theorem Part.ldmOff_chan_of_ne (p : Part) {c m : LoadId} (h : m ≠ c) : (p.ldmOff c).chan m = p.chan m := by
  rcases p.ldmOff_cases c with e | e <;> rw [e]
  exact p.orderOff_chan_of_ne h

theorem Part.depthJudge_chan (p : Part) (b : BusName) (m : LoadId) : (p.depthJudge b).chan m = p.chan m := by
  rcases p.depthJudge_cases b with ⟨e, _⟩ | ⟨e, _⟩ | ⟨e, _⟩ <;> rw [e]
  · rw [Part.postDepth, Part.post_chan_read, Part.setBus_chan_read]
  · exact Part.setBus_chan_read ..

/-- The shedding of a load switches its own output only, and those of the lights. -/
theorem Part.shed_chan (p : Part) (b : BusName) (cause : ShedCause) {l m : LoadId} (hm : m.val < 12) (h : m ≠ l) :
    (p.shed b cause l).chan m = p.chan m := by
  unfold Part.shed
  dsimp only
  rw [Part.depthJudge_chan, Part.postLoad, Part.post_chan_read, Part.tellOwner_chan _ hm, Part.ldmOff_chan_of_ne _ h,
    Part.setBus_chan_read, Part.setLoadState, Part.setLoad_chan_read, Part.leaveList, Part.setBus_chan_read]

theorem Part.shedAll_chan (p : Part) (b : BusName) (cause : ShedCause) {ls : List LoadId} {m : LoadId} (hm : m.val < 12)
    (h : m ∉ ls) : (p.shedAll b cause ls).chan m = p.chan m := by
  induction ls generalizing p with
  | nil => rfl
  | cons l ls ih =>
    rw [List.mem_cons, not_or] at h
    exact (ih (p.shed b cause l) h.2).trans (p.shed_chan b cause hm h.1)

/-! ### Lists, stacks and the records of loads (R50, R51) -/

theorem filter_bne_eq {α : Type} [DecidableEq α] (ls : List α) (x : α) :
    ls.filter (· != x) = ls.filter fun y => decide (y ≠ x) := by
  simp only [bne, beq_eq_decide, ne_eq, decide_not]

theorem Part.busOf_congr {p q : Part} (hps : q.params = p.params) (ht : q.chg.tieRelay = p.chg.tieRelay) (l : LoadId) :
    q.busOf l = p.busOf l := by
  simp only [Part.busOf, Part.busOfBank, hps, ht]

theorem Part.leaveList_ne (p : Part) (b : BusName) (l : LoadId) :
    p.leaveList b l = p.setBus b { p.bus b with onList := (p.bus b).onList.filter (· ≠ l) } := by
  rw [Part.leaveList, filter_bne_eq]

theorem Part.setLoad_setBus (p : Part) (l : LoadId) (x : LoadRec) (b : BusName) (y : BusRec) :
    (p.setBus b y).setLoad l x = (p.setLoad l x).setBus b y := by
  cases b <;> rfl

/-- A stack that a load leaves, with its mark judged, where that posts nothing (R51, R52). -/
theorem Part.leaveStack_quiet {p : Part} {b : BusName} {l : LoadId} {stack : List ShedEntry} {deep : Bool}
    (hs : (p.bus b).stack.filter (·.load != l) = stack) (hd : decide (busWarnOf p.params b ≤ stack.length) = deep)
    (hm : deep = true → (p.bus b).depthMark = true) :
    p.leaveStack b l = p.setBus b { p.bus b with stack := stack, depthMark := deep } := by
  unfold Part.leaveStack Part.depthJudge
  simp only [Part.bus_setBus, Part.setBus_params, hs]
  cases deep with
  | true => rw [if_pos (of_decide_eq_true hd), if_pos (hm rfl), ← hm rfl]
  | false => rw [if_neg (of_decide_eq_false hd), Part.setBus_setBus]

theorem LoadRec.wanted_of_on {r : LoadRec} (h : r.state = .on) : r.wanted = true := by rw [LoadRec.wanted, h]; rfl

theorem LoadRec.wanted_of_shed {r : LoadRec} (h : r.state = .shed) : r.wanted = true := by rw [LoadRec.wanted, h]; rfl

theorem LoadRec.wanted_of_off {r : LoadRec} (h : r.state = .off) : r.wanted = false := by rw [LoadRec.wanted, h]; rfl

theorem Part.leave_of_on {p : Part} {l : LoadId} (h : (p.load l).state = .on) : p.leave l = p.leaveList (p.busOf l) l := by
  simp only [Part.leave, h]

theorem Part.leave_of_shed {p : Part} {l : LoadId} (h : (p.load l).state = .shed) : p.leave l = p.leaveStack (p.busOf l) l := by
  simp only [Part.leave, h]

theorem Part.leave_load (p : Part) (l m : LoadId) : (p.leave l).load m = p.load m := by
  unfold Part.leave
  split
  · exact Part.setBus_load_read ..
  · exact (Part.depthJudge_load ..).trans (Part.setBus_load_read ..)
  · rfl

/-- What a wanted-off makes of a load that is no light (R64). -/
theorem Part.wantedOff_of_wanted {p : Part} {l : LoadId} (h : (p.load l).wanted = true) (hl : isLightChannel l = false) :
    p.wantedOff l =
      (((p.leave l).setLoad l { p.load l with state := .off, motorClass := none }).orderOff l).postLoad l .off := by
  rw [Part.wantedOff, if_pos h, Part.setLoadState, Part.leave_load, Part.ldmOff, hl]
  rfl

end Sys2Proof.Machine
end

section
/-! PROOFS. LOAD_SET (R70): the answers to a demand in the order of R55 and R56, the admission with and without victims, and the
wanted-off (R64). -/

namespace Sys2Proof.Machine

/-! ### Admission (R55, R56) -/

/-- The record of a load that becomes ON. -/
def Part.admittedRec (p : Part) (l : LoadId) (m : Option Nat) : LoadRec :=
  { p.load l with state := .on, admittedAt := p.uptime, motorClass := m }

/-- The part with a load ON at the end of its on-list, its output not yet ordered. -/
def Part.listed (p : Part) (l : LoadId) (m : Option Nat) : Part :=
  (p.setLoad l (p.admittedRec l m)).setBus (p.busOf l) { p.bus (p.busOf l) with onList := (p.bus (p.busOf l)).onList ++ [l] }

theorem Part.turnOn_eq (p : Part) (l : LoadId) (m : Option Nat) : p.turnOn l m = (p.listed l m).ldmOn l := by
  rw [Part.turnOn, Part.setLoad_bus_read]
  rfl

/-- A load on a switch output is ordered on by the Load Manager. -/
theorem Part.ldmOn_of_switch (p : Part) {l : LoadId} (h : l.val < 12) : p.ldmOn l = p.orderOn l := by
  have h1 : isLightChannel l = false := by simp [isLightChannel, h]
  have h2 : isMotorChannel l = false := by simp [isMotorChannel]; omega
  simp [Part.ldmOn, h1, h2]

theorem Part.admitLoad_of_switch (p : Part) {l : LoadId} (h : l.val < 12) (m : Option Nat) :
    p.admitLoad l m = ((p.listed l m).orderOn l).postLoad l .admitted := by
  rw [Part.admitLoad, Part.turnOn_eq, Part.ldmOn_of_switch _ h]

section

variable {p : Part} {l : LoadId} {m : Option Nat}

theorem Part.demand_of_refusal {st : Status} (hm : p.modeRefusal l (m.getD (p.effClass l)) = some st) :
    p.demand l m = (p, st) := by
  simp only [Part.demand, Part.demandRefusal, hm]

variable (hm : p.modeRefusal l (m.getD (p.effClass l)) = none)
include hm

theorem Part.demand_of_exercised (h : (p.load l).state = .exercised) : p.demand l m = (p, .exerciseActive) := by
  simp only [Part.demand, Part.demandRefusal, hm, h]

theorem Part.demand_of_on (h : (p.load l).state = .on) : p.demand l m = (p, .ok) := by
  simp only [Part.demand, Part.demandRefusal, hm, h]

/-- A demand for an OFF load goes by the charge and by the room. -/
theorem Part.demand_of_off {q : Part} {st : Status} (h : (p.load l).state = .off)
    (hr : p.makeRoom l (m.getD (p.effClass l)) (p.committed l) = (q, st)) :
    p.demand l m = if st = .ok then (q.admitLoad l m, .ok) else (q, st) := by
  simp only [Part.demand, Part.demandRefusal, hm, h, hr]

end

/-- The loads that may be shed to make room for a demand (R56, R57). -/
def Part.roomVictims (p : Part) (l : LoadId) (cls : Nat) : List LoadId :=
  (p.victims (p.busOf l) fun c => decide (cls < c)).filter (· ≠ l)

section

variable {p : Part} {l : LoadId} {cls draw : Nat} (hc : p.chargeRefusal (p.busOf l) cls = false)
include hc

theorem Part.makeRoom_of_some {taken : List LoadId}
    (h : p.victimsToFit (busLimitOf p.params (p.busOf l)) (p.committedSum (p.busOf l) + draw) (p.roomVictims l cls) =
      some taken) : p.makeRoom l cls draw = (p.shedAll (p.busOf l) .room taken, .ok) := by
  rw [Part.roomVictims] at h
  simp only [Part.makeRoom, hc, filter_bne_eq, Bool.false_eq_true, if_false, h]

theorem Part.makeRoom_of_none
    (h : p.victimsToFit (busLimitOf p.params (p.busOf l)) (p.committedSum (p.busOf l) + draw) (p.roomVictims l cls) = none) :
    p.makeRoom l cls draw =
      if cls = 1 then ((p.shedAll (p.busOf l) .room (p.roomVictims l cls)).motorCut (p.busOf l) draw, .ok)
      else (p, .noBudget) := by
  rw [Part.roomVictims] at h ⊢
  simp only [Part.makeRoom, hc, filter_bne_eq, Bool.false_eq_true, if_false, h]

/-- No room is made where all victims together would not, but for class 1 (R56). -/
theorem Part.makeRoom_of_tight (h1 : cls ≠ 1)
    (h : busLimitOf p.params (p.busOf l) < p.committedSum (p.busOf l) + draw - p.draw (p.roomVictims l cls)) :
    p.makeRoom l cls draw = (p, .noBudget) := by
  rw [Part.makeRoom_of_none hc ((p.victimsToFit_eq_none _ _ _).2 h), if_neg h1]

/-- Room is made by the fewest victims, and for class 1 by all of them where no number of them suffices (R56). -/
theorem Part.makeRoom_of_fewest {k : Nat} (hm : p.NoMotor (p.busOf l)) (hk : k ≤ (p.roomVictims l cls).length)
    (ht : ∀ j, j < k → busLimitOf p.params (p.busOf l) <
      p.committedSum (p.busOf l) + draw - p.draw ((p.roomVictims l cls).take j))
    (hend : ¬ busLimitOf p.params (p.busOf l) < p.committedSum (p.busOf l) + draw - p.draw ((p.roomVictims l cls).take k) ∨
      cls = 1 ∧ k = (p.roomVictims l cls).length) :
    p.makeRoom l cls draw = (p.shedAll (p.busOf l) .room ((p.roomVictims l cls).take k), .ok) := by
  rcases p.victimsToFit_cases (busLimitOf p.params (p.busOf l)) (p.committedSum (p.busOf l) + draw) (p.roomVictims l cls) with
    ⟨k', e, hle, htight, hfits⟩ | ⟨e, hlow⟩
  · rw [Part.makeRoom_of_some hc e]
    obtain rfl : k' = k := by
      rcases Nat.lt_trichotomy k' k with h | h | h
      · exact absurd (ht k' h) (by omega)
      · exact h
      · rcases hend with hf | ⟨_, he⟩
        · exact absurd (htight k h) hf
        · omega
    rfl
  · rcases hend with hf | ⟨h1, he⟩
    · have := p.draw_take_le (p.roomVictims l cls) k
      exact absurd hlow (by omega)
    · rw [Part.makeRoom_of_none hc e, if_pos h1, he, List.take_length, ((p.shedAll_work _ _ _).noMotor hm).motorCut]

end

/-! ### The work of an admission over the part that made room -/

theorem Part.chan_of_out {p q : Part} (h : q.out = p.out) (c : LoadId) : q.chan c = p.chan c := by
  simp only [Part.chan, h]

theorem Part.orderOn_eq {p : Part} {c : LoadId} (h : (p.chan c).switching ≠ .tripped) :
    p.orderOn c = { p with out := (p.orderOn c).out } := Part.orderOn_of_out rfl h

theorem Part.listed_out (p : Part) (l : LoadId) (m : Option Nat) : (p.listed l m).out = p.out :=
  (Part.setBus_out ..).trans (Part.setLoad_out ..)

/-- An admission on a switch output, part by part. -/
structure Part.Admitted (p : Part) (l : LoadId) (m : Option Nat) (q : Part) : Prop where
  load : q.load l = p.admittedRec l m
  otherLoad : ∀ l', l' ≠ l → q.load l' = p.load l'
  bus : q.bus (p.busOf l) = { p.bus (p.busOf l) with onList := (p.bus (p.busOf l)).onList ++ [l] }
  otherBus : ∀ b, b ≠ p.busOf l → q.bus b = p.bus b
  switching : (q.chan l).switching = .on

theorem Part.admitLoad_admitted {p : Part} {l : LoadId} (h : l.val < 12) (hc : (p.chan l).switching ≠ .tripped)
    (m : Option Nat) : p.Admitted l m (p.admitLoad l m) := by
  have hcl : ((p.listed l m).chan l).switching ≠ .tripped := by rwa [Part.chan_of_out (p.listed_out l m)]
  rw [p.admitLoad_of_switch h, Part.postLoad]
  refine ⟨?_, fun l' h' => ?_, ?_, fun b h' => ?_, ?_⟩
  · rw [Part.post_load_read, Part.orderOn_eq hcl]
    exact (Part.setBus_load_read ..).trans (Part.load_setLoad ..)
  · rw [Part.post_load_read, Part.orderOn_eq hcl]
    exact (Part.setBus_load_read ..).trans (Part.load_setLoad_of_ne _ _ h')
  · rw [Part.post_bus_read, Part.orderOn_eq hcl]
    exact Part.bus_setBus ..
  · rw [Part.post_bus_read, Part.orderOn_eq hcl]
    exact (Part.bus_setBus_of_ne _ _ h').trans (Part.setLoad_bus_read ..)
  · rw [Part.post_chan_read]
    exact Part.orderOn_switching hcl

/-! ### LOAD_SET in the queue (R70) -/

theorem role_of_host {ps : Pages} {l : LoadId} (h : ownerOf ps l = .host) : isLightChannel l = false ∧ ps.role l = .general := by
  unfold ownerOf at h
  split at h
  · cases h
  · next hl =>
      split at h
      case h_1 hg => exact ⟨by simpa using hl, hg⟩
      all_goals cases h

/-- The request of a LOAD_SET for a load. -/
abbrev loadSetOf (l : LoadId) (sw : Byte) : Request := .loadSet (BitVec.ofNat 8 l.val) sw

theorem Part.handle_loadSet {p : Part} {l : LoadId} {sw : Byte} {on : Bool} {q : Part} {st : Status} (hs : switchArg sw = some on)
    (ho : ownerOf p.params l = .host) (hm : p.mdc.mode ≠ .start)
    (h : (if on = true then p.demand l none else (p.wantedOff l, .ok)) = (q, st)) :
    p.handle (loadSetOf l sw) = ⟨q, some (st, (·.loadSetPayload l st))⟩ := by
  simp only [Part.handle, Part.loadSet, loadArg_ofNat, hs, ho, if_true, Part.loadSwitched, if_neg hm, h]
  rfl

/-- LOAD_SET for a load of another owner. -/
theorem Part.handle_loadSet_owned {p : Part} {l : LoadId} {sw : Byte} {on : Bool} (hs : switchArg sw = some on)
    (ho : ownerOf p.params l ≠ .host) : p.handle (loadSetOf l sw) = p.answer .owned (·.loadSetPayload l .owned) := by
  simp only [Part.handle, Part.loadSet, loadArg_ofNat, hs, if_neg ho]

section

variable (p : Part) (r : Request)

theorem Part.queued_setLoad (l : LoadId) (x : LoadRec) : (p.queued r).setLoad l x = (p.setLoad l x).queued r := rfl

theorem Part.queued_setBus (b : BusName) (x : BusRec) : (p.queued r).setBus b x = (p.setBus b x).queued r := by
  cases b <;> rfl

theorem Part.queued_orderOff (c : LoadId) : (p.queued r).orderOff c = (p.orderOff c).queued r := by
  rw [Part.orderOff_of_out (p := p) (q := p.queued r) rfl, Part.orderOff_of_out (p := p) rfl]

theorem Part.queued_orderOn {c : LoadId} (h : (p.chan c).switching ≠ .tripped) :
    (p.queued r).orderOn c = (p.orderOn c).queued r := by
  rw [Part.orderOn_of_out (p := p) (q := p.queued r) rfl h, Part.orderOn_eq h]

theorem Part.queued_postLoad (l : LoadId) (c : LoadCause) : (p.queued r).postLoad l c = (p.postLoad l c).queued r :=
  Part.queued_post ..

end

/-- A request with an effect that is known whole. -/
theorem replies_of_effect {i : Instr} {r : Request} {s : State} {q : Part} {st : Status} {f : Part → List Byte}
    {payload : List Byte} (hr : s.part.Ready) (hi : i.request? = some r)
    (hh : (s.part.queued r).handle r = ⟨q.queued r, some (st, f)⟩) (ho : q.outbox = []) (hw : s.part.BlockWork q)
    (hf : f (q.queued r) = payload) : Replies i s q st payload := by
  obtain ⟨_, _, hl, _⟩ := hw.lnk
  have h := replies_of_handle hr hi hh ho rfl (show q.lnk.inFlight = false by rw [hl]; exact hr.2.2.2.1)
  rwa [Part.queued_left (by rw [hl]; exact hr.2.2.1), hf] at h

/-! ### The modes and the charge (R55, R56) -/

theorem Part.modeRefusal_eq (p : Part) (l : LoadId) (cls : Nat) : p.modeRefusal l cls =
    if p.mdc.mode = .start then some .starting
    else if p.mdc.mode = .storage ∧ 3 ≤ cls then some .wrongMode
    else if p.mdc.mode = .service ∧ p.params.role l ≠ .motor ∧ p.params.role l ≠ .frostValve ∧
      ¬ (p.params.role l = .heater ∧ (p.load l).promoted = true) then some .wrongMode
    else none := by
  unfold Part.modeRefusal
  cases p.mdc.mode with
  | start | active | storage => simp
  | service => cases p.params.role l with
    | heater => cases (p.load l).promoted <;> simp
    | general | pump | frostValve | battPad | stepLight | motor => simp

/-- The modes refuse a demand of the host in STORAGE from class 3 on, and in SERVICE. -/
theorem Part.modeRefusal_of_general {p : Part} {l : LoadId} {cls : Nat} (hg : p.params.role l = .general)
    (hm : p.mdc.mode ≠ .start) : p.modeRefusal l cls =
      if p.mdc.mode = .storage ∧ 3 ≤ cls ∨ p.mdc.mode = .service then some .wrongMode else none := by
  rw [p.modeRefusal_eq, if_neg hm, hg]
  by_cases h1 : p.mdc.mode = .storage ∧ 3 ≤ cls
  · simp [h1]
  · by_cases h2 : p.mdc.mode = .service <;> simp [h1, h2]

theorem Part.chargeRefusal_eq (p : Part) (b : BusName) (cls : Nat) : p.chargeRefusal b cls =
    decide (2 ≤ cls ∧ ((p.bus b).soc < busFloorOf p.params b cls ∨ (p.bus b).uvFlag = true)) := by
  simp [Part.chargeRefusal]

/-! ### The answers of LOAD_SET -/

/-- The payload of an OK follows the load and the settings. -/
theorem Part.loadSetPayload_congr {p q : Part} {l : LoadId} (hl : q.load l = p.load l) (hps : q.params = p.params) :
    q.loadSetPayload l .ok = p.loadSetPayload l .ok := by
  simp only [Part.loadSetPayload, hl, Part.committed_congr (.of_eq hps) hl]

section

variable {s : State} {l : LoadId} (hr : s.part.Ready) (ho : ownerOf s.part.params l = .host) (hm : s.part.mdc.mode ≠ .start)
include hr ho hm

/-- LOAD_SET with a demand that leaves the part as it is. -/
theorem loadSet_answers {sw : Byte} {on : Bool} {st : Status} (hs : switchArg sw = some on)
    (h : ∀ p : Part, p = s.part.queued (loadSetOf l sw) →
      (if on = true then p.demand l none else (p.wantedOff l, .ok)) = (p, st)) :
    Replies (.loadSet (BitVec.ofNat 8 l.val) sw) s s.part st (s.part.loadSetPayload l st) :=
  replies_of_answer hr rfl (Part.handle_loadSet hs ho hm (h _ rfl)) rfl

/-- LOAD_SET ON for a load that finds charge and room. -/
theorem loadSet_admits (hl : l.val < 12) (ha : s.part.Admits l) (hc : (s.part.chan l).switching ≠ .tripped) :
    Replies (.loadSet (BitVec.ofNat 8 l.val) 0#8) s (((s.part.listed l none).orderOn l).postLoad l .admitted) .ok
      (((s.part.listed l none).orderOn l).loadSetPayload l .ok) := by
  have hcl : ((s.part.listed l none).chan l).switching ≠ .tripped := by rwa [Part.chan_of_out (s.part.listed_out l none)]
  have hd : (s.part.queued (loadSetOf l 0)).demand l none =
      ((((s.part.listed l none).orderOn l).postLoad l .admitted).queued (loadSetOf l 0), .ok) := by
    have hlisted : (s.part.queued (loadSetOf l 0)).listed l none = (s.part.listed l none).queued (loadSetOf l 0) :=
      (s.part.setLoad l _).queued_setBus ..
    rw [Part.demand_of_admits (p := s.part.queued (loadSetOf l 0)) ha, Part.admitLoad_of_switch _ hl, hlisted,
      Part.queued_orderOn _ _ hcl, Part.queued_postLoad]
  have hw := (((((Part.BlockWork.refl s.part).setLoad l _).setBus _ _).orderOn l).postLoad l .admitted : s.part.BlockWork
    (((s.part.listed l none).orderOn l).postLoad l .admitted))
  refine replies_of_effect hr rfl (Part.handle_loadSet (on := true) rfl ho hm hd) ?_ hw ?_
  · rw [Part.postLoad, Part.post_outbox, Part.orderOn_outbox hcl]
    exact (Part.setBus_outbox ..).trans hr.1
  · exact (Part.loadSetPayload_congr (Part.post_load_read ..) (Part.post_params ..)).trans rfl

/-- LOAD_SET OFF for an ON or SHED load that leaves its list or stack (R64). -/
theorem loadSet_drops {p : Part} (hw : (s.part.load l).wanted = true)
    (hp : ∀ r, (s.part.queued r).leave l = p.queued r) (hb : s.part.BlockWork p) (hx : p.outbox = []) :
    Replies (.loadSet (BitVec.ofNat 8 l.val) 1#8) s
      (((p.setLoad l { s.part.load l with state := .off, motorClass := none }).orderOff l).postLoad l .off) .ok
      (((p.setLoad l { s.part.load l with state := .off, motorClass := none }).orderOff l).loadSetPayload l .ok) := by
  have hoff : (s.part.queued (loadSetOf l 1)).wantedOff l =
      (((p.setLoad l { s.part.load l with state := .off, motorClass := none }).orderOff l).postLoad l .off).queued
        (loadSetOf l 1) := by
    rw [Part.wantedOff_of_wanted (p := s.part.queued (loadSetOf l 1)) hw (role_of_host ho).1, hp, Part.queued_setLoad,
      Part.queued_orderOff, Part.queued_postLoad]
    rfl
  refine replies_of_effect hr rfl (Part.handle_loadSet (on := false) rfl ho hm (congrArg (·, Status.ok) hoff)) ?_
    (((hb.setLoad l _).orderOff l).postLoad l .off) ?_
  · rw [Part.postLoad, Part.post_outbox]
    exact (Part.orderOff_outbox ..).trans hx
  · exact (Part.loadSetPayload_congr (Part.post_load_read ..) (Part.post_params ..)).trans rfl

/-- LOAD_SET ON for a load that is admitted once loads of higher classes are shed (R56): all that the shedding and the admission
leave of the loads and of the bus. -/
theorem loadSet_makes_room (hl : l.val < 12) (hc : (s.part.chan l).switching ≠ .tripped) {vs : List LoadId} (hv : l ∉ vs)
    (hd : ∀ p : Part, p = s.part.queued (loadSetOf l 0) →
      p.demand l none = ((p.shedAll (p.busOf l) .room vs).admitLoad l none, .ok)) :
    ∃ q, Replies (.loadSet (BitVec.ofNat 8 l.val) 0#8) s q .ok (q.loadSetPayload l .ok) ∧
      (q.load l).state = .on ∧ (q.load l).admittedAt = s.part.uptime ∧ (q.chan l).switching = .on ∧
      (∀ v ∈ vs, (q.load v).state = .shed) ∧
      (∀ m, m ≠ l → m ∉ vs → q.load m = s.part.load m) ∧
      (q.bus (s.part.busOf l)).onList = ((s.part.bus (s.part.busOf l)).onList.filter fun m => decide (m ∉ vs)) ++ [l] ∧
      (q.bus (s.part.busOf l)).stack = (s.part.bus (s.part.busOf l)).stack ++ vs.map (fun v => ⟨v, .room, s.part.uptime⟩) ∧
      (∀ b', b' ≠ s.part.busOf l → q.bus b' = s.part.bus b') ∧ q.params = s.part.params ∧ q.bnk = s.part.bnk := by
  specialize hd _ rfl
  have hshed := (s.part.queued (loadSetOf l 0)).shedAll_work (s.part.busOf l) .room vs
  have hchan := (s.part.queued (loadSetOf l 0)).shedAll_chan (s.part.busOf l) .room hl hv
  have hwork := (Part.BlockWork.refl (s.part.queued (loadSetOf l 0))).shedAll (s.part.busOf l) .room vs
  change _ = (((s.part.queued (loadSetOf l 0)).shedAll (s.part.busOf l) .room vs).admitLoad l none, _) at hd
  generalize (s.part.queued (loadSetOf l 0)).shedAll (s.part.busOf l) .room vs = e at hd hshed hchan hwork
  obtain ⟨⟨_, hbus⟩, hother, hstate, hload, hps, hx, ht⟩ := hshed
  rw [shedEntries_loads] at hbus hstate hload
  have hce : (e.chan l).switching ≠ .tripped := by rw [hchan]; exact hc
  have hb : e.busOf l = s.part.busOf l := by
    obtain ⟨_, _, hchg⟩ := hwork.chg
    exact Part.busOf_congr hps (by rw [hchg]) l
  obtain ⟨hon, hothers, honlist, hbuses, hswitched⟩ := Part.admitLoad_admitted hl hce none
  rw [hb] at honlist hbuses
  have hend := hwork.admitLoad l none
  obtain ⟨_, _, hlnk, _⟩ := hend.lnk
  have hrep := replies_of_handle (i := .loadSet (BitVec.ofNat 8 l.val) 0#8) hr rfl
    (Part.handle_loadSet (on := true) rfl ho hm hd)
    ((Part.admitLoad_outbox hce none).trans (hx.trans hr.1)) (congrArg Lnk.requests hlnk)
    ((congrArg Lnk.inFlight hlnk).trans hr.2.2.2.1)
  refine ⟨_, hrep, ?_⟩
  generalize e.admitLoad l none = a at hon hothers honlist hbuses hswitched hend
  have hq (k : LoadId) : ({ a with lnk := { a.lnk with requests := [] } } : Part).load k = a.load k := rfl
  have hqb (k : BusName) : ({ a with lnk := { a.lnk with requests := [] } } : Part).bus k = a.bus k := by cases k <;> rfl
  have hqc (k : LoadId) : ({ a with lnk := { a.lnk with requests := [] } } : Part).chan k = a.chan k := rfl
  simp only [hq, hqb, hqc]
  refine ⟨by rw [hon]; rfl, by rw [hon]; exact ht, hswitched, fun v h => ?_, fun m h h' => ?_, ?_, ?_, fun b' h => ?_,
    hend.params, hend.bnk⟩
  · rw [hothers v fun e => hv (e ▸ h)]
    exact hstate v h
  · exact (hothers m h).trans (hload m h')
  · rw [honlist, hbus]
    rfl
  · rw [honlist, hbus]
    rfl
  · exact (hbuses b' h).trans (hother b' h)

end

/-! ### The obligation -/

theorem Part.roomVictims_of_notMem {p : Part} {l : LoadId} (h : l ∉ (p.bus (p.busOf l)).onList) (cls : Nat) :
    p.roomVictims l cls = p.victims (p.busOf l) fun c => decide (cls < c) := by
  refine List.filter_eq_self.2 fun v hv => decide_eq_true ?_
  rintro rfl
  rw [p.victims_eq] at hv
  exact h (List.mem_of_mem_filter (p.victimOrder_subset _ hv))

/-- Settles O30: each answer by the answer to the demand, the wanted-off by the list or the stack that the load leaves. -/
theorem loadSetSwitchesAHostsLoad : Obligations.LoadSetSwitchesAHostsLoad := by
  refine ⟨fun p l cls => p.modeRefusal_eq l cls, fun p b cls => p.chargeRefusal_eq b cls, fun s l hr hl ho hm => ?_,
    fun s l hr hm => ?_⟩
  · intro p cls b onlyReply wrongMode
    have hmode := Part.modeRefusal_of_general (cls := cls) (role_of_host ho).2 hm
    have answers {st : Status} (h : ∀ q : Part, q = p.queued (loadSetOf l 0) → q.demand l none = (q, st)) : onlyReply st :=
      loadSet_answers (on := true) hr ho hm rfl h
    refine ⟨fun hw => ?_, fun hw => ?_, fun ha hc => loadSet_admits hr ho hm hl ha hc, ?_⟩
    · exact answers fun q hq => Part.demand_of_refusal (by subst hq; exact hmode.trans (if_pos hw))
    · have hn : p.modeRefusal l cls = none := hmode.trans (if_neg hw)
      refine ⟨fun hs => ?_, fun hs => ?_, fun hs => ?_, fun hs => ?_, fun hs h2 hlow => ?_, fun hs hc h2 htight => ?_⟩
      · exact answers fun q hq => by subst hq; exact Part.demand_of_faulted (m := none) hn hs
      · exact answers fun q hq => by subst hq; exact Part.demand_of_exercised (m := none) hn hs
      · exact answers fun q hq => by subst hq; exact Part.demand_of_shed (m := none) hn hs
      · exact answers fun q hq => by subst hq; exact Part.demand_of_on (m := none) hn hs
      · refine answers fun q hq => ?_
        subst hq
        exact Part.demand_of_low (m := none) hn hs ((p.chargeRefusal_eq b cls).trans (decide_eq_true ⟨h2, hlow⟩))
      · refine answers fun q hq => ?_
        subst hq
        exact Part.demand_of_off (p := p.queued (loadSetOf l 0)) (m := none) hn hs
          (Part.makeRoom_of_tight (p := p.queued (loadSetOf l 0)) hc (show cls ≠ 1 by omega) htight)
    · intro hn hs hc _ hlist hmotor hsw victims tight k hk htight hend
      have hv : (p.queued (loadSetOf l 0)).roomVictims l cls = victims :=
        Part.roomVictims_of_notMem (p := p.queued (loadSetOf l 0)) hlist cls
      have hnot : l ∉ victims.take k := fun h => by
        rw [← hv] at h
        exact of_decide_eq_true (List.mem_filter.1 (List.mem_of_mem_take h)).2 rfl
      refine loadSet_makes_room hr ho hm hl hsw hnot fun q hq => ?_
      subst hq
      have hroom := Part.makeRoom_of_fewest (p := p.queued (loadSetOf l 0)) (draw := p.committed l) (k := k) hc hmotor
      rw [hv] at hroom
      exact Part.demand_of_off (p := p.queued (loadSetOf l 0)) (m := none) hn hs (hroom hk htight hend)
  · intro p b
    refine ⟨fun ho hs => ?_, fun ho hs => ?_, fun ho hs hd => ?_, fun ho => ?_⟩
    · refine loadSet_answers (on := false) hr ho hm rfl fun q hq => ?_
      subst hq
      exact congrArg (·, Status.ok) (Part.wantedOff_of_not (p := p.queued (loadSetOf l 1)) (LoadRec.wanted_of_off hs))
    · refine loadSet_drops hr ho hm (LoadRec.wanted_of_on hs) (fun r => ?_) ((Part.BlockWork.refl _).setBus b _)
        ((Part.setBus_outbox ..).trans hr.1)
      rw [Part.leave_of_on (p := p.queued r) hs, Part.leaveList_ne]
      exact Part.queued_setBus ..
    · refine loadSet_drops hr ho hm (LoadRec.wanted_of_shed hs) (fun r => ?_) ((Part.BlockWork.refl _).setBus b _)
        ((Part.setBus_outbox ..).trans hr.1)
      have hstack : (p.bus b).stack.filter (·.load != l) = (p.bus b).stack.filter fun e => decide (e.load ≠ l) :=
        List.filter_congr fun e _ => by simp only [bne, beq_eq_decide, ne_eq, decide_not]
      have hleft := Part.leaveStack_quiet (p := p.queued r) (b := b) hstack rfl hd
      exact (Part.leave_of_shed (p := p.queued r) hs).trans (hleft.trans (Part.queued_setBus ..))
    · exact ⟨replies_of_answer hr rfl (Part.handle_loadSet_owned (on := false) rfl ho) rfl,
        replies_of_answer hr rfl (Part.handle_loadSet_owned (on := true) rfl ho) rfl⟩

end Sys2Proof.Machine
end

section
/-! PROOFS. Work in which SHED loads stay SHED: the endings of motions, the taking of a pending one, the courtesy light and the reports
between the blocks turn loads on and shed others, but take none of a given set of SHED loads, no undervoltage flag and no frost valve
that is FAULTED (`Part.KeepWork`). Each operation has one lemma, which follows its definition. -/

namespace Sys2Proof.Machine

/-! ### The frame -/

/-- The load is SHED, and no motor of a class. -/
def Part.Stacked (p : Part) (l : LoadId) : Prop := (p.load l).state = .shed ∧ (p.load l).motorClass = none

/-- A frost valve on a switch output whose channel is TRIPPED and which is FAULTED. -/
structure Part.ValveDead (p : Part) (l : LoadId) : Prop where
  switch : l.val < 12
  role : p.params.role l = .frostValve
  state : (p.load l).state = .faulted
  motorClass : (p.load l).motorClass = none
  switching : (p.chan l).switching = .tripped

/-- A load outside the set that is no frost valve on a switch output. -/
def FreeLoad (K : LoadId → Prop) (ps : Pages) (l : LoadId) : Prop := ¬ K l ∧ (l.val < 12 → ps.role l ≠ .frostValve)

theorem FreeLoad.light {K : LoadId → Prop} {ps : Pages} {c : LightId} (hk : ¬ K (lightLoad c)) : FreeLoad K ps (lightLoad c) :=
  ⟨hk, fun hl => absurd rfl (lightLoad_ne hl c)⟩

theorem motorOf_ge (a : Axis) : ¬ (motorOf a).val < 12 := by cases a <;> decide

theorem FreeLoad.motor {K : LoadId → Prop} {ps : Pages} {a : Axis} (hk : ¬ K (motorOf a)) : FreeLoad K ps (motorOf a) :=
  ⟨hk, fun hl => absurd hl (motorOf_ge a)⟩

theorem motorOf_of_axisOf {l : LoadId} {a : Axis} (h : axisOf? l = some a) : motorOf a = l := by
  unfold axisOf? at h
  split at h
  next e => cases h; exact Fin.ext e.symm
  next =>
    split at h
    next e => cases h; exact Fin.ext e.symm
    next => cases h

/-- A load that is neither a light nor a motor is on a switch output. -/
theorem switch_of_none {l : LoadId} (hl : lightOf? l = none) (ha : axisOf? l = none) : l.val < 12 := by
  by_contra h
  rcases (by omega : l.val < 18 ∨ l.val = 18 ∨ l.val = 19) with h' | h' | h' <;> simp_all [lightOf?, axisOf?]

theorem Pages.role_of_loadWith {ps : Pages} {x : Role} {l : LoadId} (h : ps.loadWith x = some l) : ps.role l = x := by
  simpa using List.find?_some h

theorem Part.modeRefusal_ne_ok {p : Part} {l : LoadId} {cls : Nat} {st : Status} (h : p.modeRefusal l cls = some st) :
    st ≠ .ok := by
  rintro rfl
  rw [p.modeRefusal_eq] at h
  (repeat' split at h) <;> cases h

/-- A SHED load answers no demand with OK. -/
theorem Part.demand_of_shed_ne {p : Part} {l : LoadId} (h : (p.load l).state = .shed) (m : Option Nat) : (p.demand l m).2 ≠ .ok := by
  cases hm : p.modeRefusal l (m.getD (p.effClass l)) with
  | none => simp [Part.demand_of_shed hm h]
  | some st =>
    rw [Part.demand_of_refusal hm]
    exact Part.modeRefusal_ne_ok hm

theorem Part.lightDemand_of_shed_ne {p : Part} {c : LightId} (h : (p.load (lightLoad c)).state = .shed) (n : Nat) :
    (p.lightDemand c n).2 ≠ .ok := by
  cases hm : p.modeRefusal (lightLoad c) (p.effClass (lightLoad c)) with
  | none => simp only [Part.lightDemand, Part.demandRefusal, hm, h, ne_eq, reduceCtorEq, not_false_eq_true]
  | some st =>
    simp only [Part.lightDemand, Part.demandRefusal, hm]
    exact Part.modeRefusal_ne_ok hm

theorem Part.setAxisState_mot_active (p : Part) (a : Axis) (st : AxisState) :
    (p.setAxisState a st).mot.active = p.mot.active := by
  unfold Part.setAxisState
  dsimp only
  split <;> cases a <;> rfl

/-- A report whose taking ends no load of the set and does not reach the frost guard. -/
def HarmlessReport (K : LoadId → Prop) (ps : Pages) : Report → Prop
  | .motorCut a => ¬ K (motorOf a)
  | .motorFaulted a => ¬ K (motorOf a)
  | .tripped l => FreeLoad K ps l
  | .stepExtended => True
  | .valveFaulted => False
  | .padCleared => False

/-- The fields that the frame is about, as one tuple. -/
def Part.aside (p : Part) := (p.params, p.uptime, p.ldm, p.out.channels, p.clm.guard, p.clm.riskTimer, p.clm.unknownTimer,
  p.wat.request, p.wat.dumped, p.lnk.notices, p.outbox)

/-- Work from `p` to `q` in which the loads of the set `K` stay SHED. -/
structure Part.KeepWork (K : LoadId → Prop) (p q : Part) : Prop where
  params : q.params = p.params
  uptime : q.uptime = p.uptime
  flags : ∀ b, (q.bus b).uvFlag = (p.bus b).uvFlag ∧ (q.bus b).belowCut = (p.bus b).belowCut
  stacked : ∀ l, K l → q.Stacked l
  valve : ∀ l, p.ValveDead l → q.load l = p.load l ∧ q.chan l = p.chan l
  guard : q.clm.guard = p.clm.guard ∧ q.clm.riskTimer = p.clm.riskTimer ∧ q.clm.unknownTimer = p.clm.unknownTimer
  request : p.wat.request = false → q.wat.request = false
  dumped : p.wat.dumped = true → q.wat.dumped = true
  /-- Under a mask for FROST alone nothing is posted. -/
  quiet : (∀ k, noticeEnabled p.params k = true → k = .started ∨ k = .frost) → q.lnk.notices = p.lnk.notices
  reports : ∀ x ∈ q.outbox, HarmlessReport K q.params x

namespace Part.KeepWork

variable {K : LoadId → Prop} {r p q : Part}

theorem refl (hk : ∀ l, K l → p.Stacked l) (hx : ∀ x ∈ p.outbox, HarmlessReport K p.params x) : p.KeepWork K p :=
  ⟨rfl, rfl, fun _ => ⟨rfl, rfl⟩, hk, fun _ _ => ⟨rfl, rfl⟩, ⟨rfl, rfl, rfl⟩, id, id, fun _ => rfl, hx⟩

/-- A dead valve stays dead. -/
theorem dead (h : p.KeepWork K q) {l : LoadId} (hv : p.ValveDead l) : q.ValveDead l := by
  obtain ⟨hl, hc⟩ := h.valve l hv
  exact ⟨hv.switch, h.params ▸ hv.role, hl ▸ hv.state, hl ▸ hv.motorClass, hc ▸ hv.switching⟩

theorem trans (h : r.KeepWork K p) (k : p.KeepWork K q) : r.KeepWork K q where
  params := k.params.trans h.params
  uptime := k.uptime.trans h.uptime
  flags b := ⟨(k.flags b).1.trans (h.flags b).1, (k.flags b).2.trans (h.flags b).2⟩
  stacked := k.stacked
  valve l hv := ⟨(k.valve l (h.dead hv)).1.trans (h.valve l hv).1, (k.valve l (h.dead hv)).2.trans (h.valve l hv).2⟩
  guard := ⟨k.guard.1.trans h.guard.1, k.guard.2.1.trans h.guard.2.1, k.guard.2.2.trans h.guard.2.2⟩
  request hr := k.request (h.request hr)
  dumped hd := k.dumped (h.dumped hd)
  quiet hm := (k.quiet (h.params ▸ hm)).trans (h.quiet hm)
  reports := k.reports

/-- The work so far, as work of its own from where it has led. -/
theorem self (h : r.KeepWork K p) : p.KeepWork K p := refl h.stacked h.reports

/-- A change of records that the frame is not about. -/
theorem other (h : r.KeepWork K p) (e : q.aside = p.aside) : r.KeepWork K q := by
  simp only [Part.aside, Prod.mk.injEq] at e
  obtain ⟨hp, hu, hd, hc, hg, hr, hn, hw, hm, hq, hx⟩ := e
  have hload (l : LoadId) : q.load l = p.load l := by simp only [Part.load, hd]
  have hbus (b : BusName) : q.bus b = p.bus b := by cases b <;> simp only [Part.bus, hd]
  have hchan (c : LoadId) : q.chan c = p.chan c := by simp only [Part.chan, hc]
  refine h.trans ⟨hp, hu, fun b => by rw [hbus]; exact ⟨rfl, rfl⟩, fun l hl => ?_, fun l _ => ⟨hload l, hchan l⟩, ⟨hg, hr, hn⟩,
    hw.trans, hm.trans, fun _ => hq, fun x hxq => ?_⟩
  · rw [Part.Stacked, hload]
    exact h.stacked l hl
  · rw [hp]
    exact h.reports x (hx ▸ hxq)

/-- A SHED load of the set is in no other state. -/
theorem notMem (h : r.KeepWork K p) {l : LoadId} (hs : (p.load l).state ≠ .shed) : ¬ K l := fun hk => hs (h.stacked l hk).1

/-! ### One record of a block, one notice -/

theorem setLoad (h : r.KeepWork K p) {l : LoadId} {x : LoadRec} (hk : K l → x.state = .shed ∧ x.motorClass = none)
    (hv : p.ValveDead l → x = p.load l) : r.KeepWork K (p.setLoad l x) := by
  refine h.trans { h.self with flags := fun b => ?_, stacked := fun m hm => ?_, valve := fun m hm => ⟨?_, rfl⟩ }
  · rw [Part.setLoad_bus_read]
    exact ⟨rfl, rfl⟩
  · rcases eq_or_ne m l with rfl | hne
    · rw [Part.Stacked, Part.load_setLoad]
      exact hk hm
    · rw [Part.Stacked, Part.load_setLoad_of_ne _ _ hne]
      exact h.stacked m hm
  · rcases eq_or_ne m l with rfl | hne
    · rw [Part.load_setLoad, hv hm]
    · rw [Part.load_setLoad_of_ne _ _ hne]

theorem setBus (h : r.KeepWork K p) {b : BusName} {x : BusRec} (hu : x.uvFlag = (p.bus b).uvFlag)
    (hc : x.belowCut = (p.bus b).belowCut) : r.KeepWork K (p.setBus b x) := by
  have hp := h.self
  refine h.trans ⟨?_, ?_, fun b' => ?_, fun m hm => ?_, fun m _ => ⟨?_, ?_⟩, ?_, ?_, ?_, fun _ => ?_, fun y hy => ?_⟩
  · exact Part.setBus_params ..
  · exact Part.setBus_uptime ..
  · rcases eq_or_ne b' b with rfl | hne
    · rw [Part.bus_setBus]
      exact ⟨hu, hc⟩
    · rw [Part.bus_setBus_of_ne _ _ hne]
      exact ⟨rfl, rfl⟩
  · rw [Part.Stacked, Part.setBus_load_read]
    exact h.stacked m hm
  · exact Part.setBus_load_read ..
  · exact Part.setBus_chan_read ..
  · rw [Part.setBus_clm]
    exact ⟨rfl, rfl, rfl⟩
  · rw [Part.setBus_wat]
    exact id
  · rw [Part.setBus_wat]
    exact id
  · rw [Part.setBus_lnk]
  · rw [Part.setBus_outbox] at hy
    rw [Part.setBus_params]
    exact h.reports y hy

theorem setChan (h : r.KeepWork K p) {c : LoadId} {x : Channel} (hv : p.ValveDead c → x = p.chan c) :
    r.KeepWork K (p.setChan c x) := by
  refine h.trans { h.self with flags := fun b => ?_, valve := fun m hm => ⟨rfl, ?_⟩ }
  · rw [Part.setChan_bus_read]
    exact ⟨rfl, rfl⟩
  · rcases eq_or_ne m c with rfl | hne
    · rw [Part.chan_setChan, hv hm]
    · rw [Part.chan_setChan_of_ne _ _ hne]

theorem report (h : r.KeepWork K p) {x : Report} (hx : HarmlessReport K p.params x) : r.KeepWork K (p.report x) := by
  refine h.trans { h.self with flags := fun b => ?_, reports := fun y hy => ?_ }
  · rw [Part.report_bus_read]
    exact ⟨rfl, rfl⟩
  · rcases List.mem_append.1 hy with hy | hy
    · exact h.reports y hy
    · obtain rfl := List.mem_singleton.1 hy
      exact hx

theorem post (h : r.KeepWork K p) {k : NoticeKind} (n : Nat) (d : List Byte) (hs : k ≠ .started) (hf : k ≠ .frost) :
    r.KeepWork K (p.post k n d) := by
  refine h.trans ⟨?_, ?_, fun b => ?_, fun m hm => ?_, fun m _ => ⟨?_, ?_⟩, ?_, ?_, ?_, fun hm => ?_, fun y hy => ?_⟩
  · exact Part.post_params ..
  · exact Part.post_uptime ..
  · rw [Part.post_bus_read]
    exact ⟨rfl, rfl⟩
  · rw [Part.Stacked, Part.post_load_read]
    exact h.stacked m hm
  · exact Part.post_load_read ..
  · exact Part.post_chan_read ..
  · rw [Part.post_clm]
    exact ⟨rfl, rfl, rfl⟩
  · rw [Part.post_wat]
    exact id
  · rw [Part.post_wat]
    exact id
  · have hoff : ¬ noticeEnabled p.params k = true := fun he => (hm k he).elim hs hf
    rw [Part.post, if_neg hoff]
  · rw [Part.post_outbox] at hy
    rw [Part.post_params]
    exact h.reports y hy

theorem postLoad (h : r.KeepWork K p) (l : LoadId) (c : LoadCause) : r.KeepWork K (p.postLoad l c) :=
  h.post _ _ (by decide) (by decide)

theorem postDepth (h : r.KeepWork K p) (b : BusName) : r.KeepWork K (p.postDepth b) := h.post _ _ (by decide) (by decide)

theorem postHeater (h : r.KeepWork K p) : r.KeepWork K p.postHeater := h.post _ _ (by decide) (by decide)

theorem postMotion (h : r.KeepWork K p) (a : Axis) (x : MotionResult) : r.KeepWork K (p.postMotion a x) :=
  h.post _ _ (by decide) (by decide)

theorem postTank (h : r.KeepWork K p) (t : Tank) (c : TankCause) : r.KeepWork K (p.postTank t c) :=
  h.post _ _ (by decide) (by decide)

theorem setAxis (h : r.KeepWork K p) (a : Axis) (x : AxisRec) : r.KeepWork K (p.setAxis a x) := by
  cases a <;> exact h.other rfl

theorem setLight (h : r.KeepWork K p) (c : LightId) (x : LightRec) : r.KeepWork K (p.setLight c x) := h.other rfl

theorem setMot (h : r.KeepWork K p) (m : Mot) : r.KeepWork K { p with mot := m } := h.other rfl

/-! ### The outputs (R78 to R83) -/

theorem postCheck (h : r.KeepWork K p) (c : LoadId) : r.KeepWork K (p.postCheck c) := by
  refine h.other ?_
  obtain ⟨o, e, _⟩ := p.postCheck_cases c
  have hc : (p.postCheck c).out.channels = p.out.channels := by
    unfold Part.postCheck
    split
    · rfl
    · exact Part.arbiter_channels _
  rw [e] at hc ⊢
  simp only [Part.aside] at hc ⊢
  rw [hc]

/-- A dead valve's channel is TRIPPED, which no order to switch changes. -/
theorem setSwitching (h : r.KeepWork K p) {c : LoadId} (w : Switching) (hs : (p.chan c).switching ≠ .tripped) :
    r.KeepWork K (p.setSwitching c w) :=
  (h.setChan (x := { p.chan c with switching := w }) fun hv => absurd hv.switching hs).other rfl

theorem orderOff (h : r.KeepWork K p) (c : LoadId) : r.KeepWork K (p.orderOff c) := by
  cases hs : (p.chan c).switching with
  | on =>
    simp only [Part.orderOff, hs]
    refine (h.setSwitching .off (by rw [hs]; decide)).setChan fun hv => ?_
    have := hv.switching
    rw [Part.setSwitching_chan] at this
    cases this
  | off | tripped => simpa only [Part.orderOff, hs] using h

theorem orderOn (h : r.KeepWork K p) {c : LoadId} (hc : FreeLoad K p.params c) : r.KeepWork K (p.orderOn c) := by
  cases hs : (p.chan c).switching with
  | off =>
    rw [Part.orderOn_of_off hs]
    refine ((h.setSwitching .on (by rw [hs]; decide)).setChan fun hv => ?_).postCheck c
    have := hv.switching
    rw [Part.setSwitching_chan] at this
    cases this
  | on => simpa only [Part.orderOn, hs] using h
  | tripped =>
    simp only [Part.orderOn, hs]
    exact h.report hc

/-! ### The lights (R179 to R182) -/

theorem lightNotDead (c : LightId) : ¬ p.ValveDead (lightLoad c) := fun hv => lightLoad_ne hv.switch c rfl

theorem setPresent (h : r.KeepWork K p) (c : LightId) (n : Nat) : r.KeepWork K (p.setPresent c n) := by
  unfold Part.setPresent
  dsimp only
  split
  · exact h.setLight c _
  · exact (h.setLight c _).setChan fun hv => absurd hv (lightNotDead c)

theorem lightOn (h : r.KeepWork K p) {c : LightId} (hk : ¬ K (lightLoad c)) : r.KeepWork K (p.lightOn c) := by
  unfold Part.lightOn
  split
  · exact h
  · exact h.orderOn (.light hk)

theorem lightOff (h : r.KeepWork K p) (c : LightId) : r.KeepWork K (p.lightOff c) := by
  unfold Part.lightOff
  split
  · exact h
  · exact h.orderOff _

theorem endFade (h : r.KeepWork K p) (c : LightId) : r.KeepWork K (p.endFade c) := by
  unfold Part.endFade
  dsimp only
  split
  · exact (h.setLight c _).lightOff c
  · exact h.setLight c _

theorem startFade (h : r.KeepWork K p) {c : LightId} {fadeEnd : Nat} (hk : 0 < fadeEnd → ¬ K (lightLoad c)) (time : Nat) :
    r.KeepWork K (p.startFade c fadeEnd time) := by
  have hend := h.setLight c { p.light c with fadeEnd := fadeEnd }
  unfold Part.startFade
  dsimp only
  split
  next hpos =>
    split
    · exact ((hend.lightOn (hk hpos)).setPresent c _).endFade c
    · exact (hend.lightOn (hk hpos)).setLight c _
  next =>
    split
    · exact (hend.setPresent c _).endFade c
    · exact hend.setLight c _

theorem darken (h : r.KeepWork K p) (c : LightId) : r.KeepWork K (p.darken c) := (h.setPresent c 0).setLight c _

theorem lightReport (h : r.KeepWork K p) (c : LightId) {x : OwnerReport} (hx : x ≠ .restored) :
    r.KeepWork K (p.lightReport c x) := by
  cases x with
  | restored => exact absurd rfl hx
  | shed => exact h.startFade (fun hpos => absurd hpos (lt_irrefl 0)) _
  | off => exact (h.darken c).lightOff c
  | faulted | exercised => exact h.darken c
  | released => exact h.setChan fun hv => absurd hv (lightNotDead c)
  | cut | cleared => exact h

/-! ### Reports to the owners of loads (R58) -/

theorem setPad (h : r.KeepWork K p) (st : PadState) : r.KeepWork K (p.setPad st) := by
  have hq (retry : Option Nat) : r.KeepWork K { p with chg := { p.chg with pad := st, padRetry := retry } } := h.other rfl
  unfold Part.setPad
  dsimp only
  split
  · exact hq _
  · exact (hq _).post _ _ (by decide) (by decide)

theorem setHeater (h : r.KeepWork K p) (x : HeaterState) : r.KeepWork K (p.setHeater x) := by
  have hq : r.KeepWork K { p with clm := { p.clm with heater := x } } := h.other rfl
  unfold Part.setHeater
  dsimp only
  split
  · exact hq
  · exact hq.postHeater

theorem heaterRunning (h : r.KeepWork K p) : r.KeepWork K p.heaterRunning := by
  have hq : r.KeepWork K { p with clm := { p.clm with minOn := some 120000 } } := h.other rfl
  exact hq.setHeater .running

theorem heaterEnded (h : r.KeepWork K p) : r.KeepWork K p.heaterEnded := by
  unfold Part.heaterEnded
  split
  · exact h.other rfl
  · exact h

theorem heaterReport (h : r.KeepWork K p) (x : OwnerReport) : r.KeepWork K (p.heaterReport x) := by
  cases x with
  | restored => exact h.heaterRunning
  | shed | cleared => exact h.setHeater _
  | off | faulted => exact h.heaterEnded.setHeater _
  | cut | exercised | released => exact h

/-- A change of the pump that raises no request. -/
theorem setPump (h : r.KeepWork K p) {w : Wat} (hr : p.wat.request = false → w.request = false)
    (hd : p.wat.dumped = true → w.dumped = true) : r.KeepWork K { p with wat := w } :=
  h.trans { h.self with request := hr, dumped := hd, flags := fun b => by cases b <;> exact ⟨rfl, rfl⟩ }

theorem pumpReport (h : r.KeepWork K p) (x : OwnerReport) : r.KeepWork K (p.pumpReport x) := by
  cases x with
  | off | faulted => exact h.setPump (fun _ => rfl) id
  | restored | shed | cleared => exact h.setPump id id
  | cut | exercised | released => exact h

theorem padReport (h : r.KeepWork K p) {x : OwnerReport} (hx : x ≠ .cleared) : r.KeepWork K (p.padReport x) := by
  unfold Part.padReport
  split
  · exact h
  · cases x with
    | restored | shed | faulted => exact h.setPad _
    | off =>
      dsimp only
      split
      · exact h.setPad _
      · exact h.setPad _
      · exact h
    | cleared => exact absurd rfl hx
    | cut | exercised | released => exact h

theorem motorReport (h : r.KeepWork K p) {a : Axis} {x : OwnerReport} (hx : (∃ c, x = .shed c) ∨ ¬ K (motorOf a)) :
    r.KeepWork K (p.motorReport a x) := by
  cases x with
  | off | cut | faulted => exact h.report (hx.resolve_left (by simp))
  | restored | shed | cleared | exercised | released => exact h

/-- A report to the owner of a load, but of a restored or cleared one; of a load of the set that it has been shed. -/
theorem tellOwner (h : r.KeepWork K p) {l : LoadId} {x : OwnerReport} (hr : x ≠ .restored) (hc : x ≠ .cleared)
    (hl : (∃ c, x = .shed c) ∨ FreeLoad K p.params l) : r.KeepWork K (p.tellOwner l x) := by
  unfold Part.tellOwner
  split
  · exact h.lightReport _ hr
  · next hlight =>
    split
    · next a ha =>
      exact h.motorReport (hl.imp id fun hf => motorOf_of_axisOf ha ▸ hf.1)
    · next haxis =>
      split
      · exact h.pumpReport x
      · exact h.heaterReport x
      · next hrole =>
        cases x with
        | faulted =>
          exact absurd hrole ((hl.resolve_left (by simp)).2 (switch_of_none hlight haxis))
        | restored | shed | off | cut | cleared | exercised | released => exact h
      · exact h.padReport hc
      · exact h

end Part.KeepWork

end Sys2Proof.Machine
end

section
/-! PROOFS. The frame `Part.KeepWork` over the Load Manager, the Motion Unit, the courtesy light, the heater and the pump, and over the
delivery of the reports between the blocks. -/

namespace Sys2Proof.Machine.Part.KeepWork

variable {K : LoadId → Prop} {r p q : Part}

/-! ### The Load Manager (R50 to R66) -/

theorem depthJudge (h : r.KeepWork K p) (b : BusName) : r.KeepWork K (p.depthJudge b) := by
  rcases p.depthJudge_cases b with ⟨e, _⟩ | ⟨e, _⟩ | ⟨e, _⟩ <;> rw [e]
  · exact h
  · exact (h.setBus (b := b) (x := { p.bus b with depthMark := true }) rfl rfl).postDepth b
  · exact h.setBus rfl rfl

theorem leaveList (h : r.KeepWork K p) (b : BusName) (l : LoadId) : r.KeepWork K (p.leaveList b l) := h.setBus rfl rfl

theorem leaveStack (h : r.KeepWork K p) (b : BusName) (l : LoadId) : r.KeepWork K (p.leaveStack b l) :=
  (h.setBus (b := b) (x := { p.bus b with stack := (p.bus b).stack.filter (·.load != l) }) rfl rfl).depthJudge b

theorem leave (h : r.KeepWork K p) (l : LoadId) : r.KeepWork K (p.leave l) := by
  unfold Part.leave
  split
  · exact h.leaveList _ l
  · exact h.leaveStack _ l
  · exact h

/-- A new state of a load outside the set that is no dead valve. -/
theorem setLoadState (h : r.KeepWork K p) {l : LoadId} {st : LoadState} (hk : ¬ K l) (hv : ¬ p.ValveDead l) :
    r.KeepWork K (p.setLoadState l st) := h.setLoad (fun hl => absurd hl hk) fun hl => absurd hl hv

theorem ldmOff (h : r.KeepWork K p) (l : LoadId) : r.KeepWork K (p.ldmOff l) := by
  rcases p.ldmOff_cases l with e | e <;> rw [e]
  · exact h
  · exact h.orderOff l

theorem ldmOn (h : r.KeepWork K p) {l : LoadId} (hl : FreeLoad K p.params l) : r.KeepWork K (p.ldmOn l) := by
  rcases p.ldmOn_cases l with e | e <;> rw [e]
  · exact h
  · exact h.orderOn hl

/-- A load that is shed joins the stack, or the stack once more; a dead valve is none. -/
theorem shed (h : r.KeepWork K p) (b : BusName) (c : ShedCause) {l : LoadId} (hl : p.params.role l ≠ .frostValve) :
    r.KeepWork K (p.shed b c l) := by
  have hrec : r.KeepWork K ((p.leaveList b l).setLoadState l .shed) :=
    (h.leaveList b l).setLoad (fun _ => ⟨rfl, rfl⟩) fun hv => absurd hv.role (by rw [(h.self.leaveList b l).params]; exact hl)
  have hstack := hrec.setBus (b := b) (x := { ((p.leaveList b l).setLoadState l .shed).bus b with
    stack := (((p.leaveList b l).setLoadState l .shed).bus b).stack ++ [⟨l, c, ((p.leaveList b l).setLoadState l .shed).uptime⟩] })
    rfl rfl
  exact (((hstack.ldmOff l).tellOwner (x := .shed c) (by simp) (by simp) (.inl ⟨c, rfl⟩)).postLoad l (.shed c)).depthJudge b

theorem shedAll (h : r.KeepWork K p) (b : BusName) (c : ShedCause) {ls : List LoadId}
    (hl : ∀ l ∈ ls, p.params.role l ≠ .frostValve) : r.KeepWork K (p.shedAll b c ls) := by
  induction ls generalizing p with
  | nil => exact h
  | cons l ls ih =>
    have hs := h.shed b c (hl l (by simp))
    exact ih hs fun m hm => by
      rw [(h.self.shed b c (hl l (by simp))).params]
      exact hl m (by simp [hm])

theorem shedToFit (h : r.KeepWork K p) (b : BusName) {ls : List LoadId} (hl : ∀ l ∈ ls, p.params.role l ≠ .frostValve) :
    r.KeepWork K (p.shedToFit b ls) := by
  obtain ⟨k, _, e, _⟩ := p.shedToFit_stages b ls
  rw [e]
  exact h.shedAll b _ fun l hm => hl l (List.mem_of_mem_take hm)

/-- No victim is a frost valve (R44). -/
theorem victims_role (p : Part) (b : BusName) (ok : Nat → Bool) : ∀ l ∈ p.victims b ok, p.params.role l ≠ .frostValve := by
  intro l hl
  rw [p.victims_eq] at hl
  obtain ⟨_, hs, _⟩ := Part.mem_victimOrder.1 hl
  simp only [Part.sheddable, Bool.and_eq_true, bne_iff_ne] at hs
  exact hs.2

/-- A motor of class 2 is cut: it is not SHED, and no dead valve (R62). -/
theorem motorCut (h : r.KeepWork K p) (b : BusName) (extra : Nat) : r.KeepWork K (p.motorCut b extra) := by
  unfold Part.motorCut
  split
  next l hfind =>
    have hclass : (p.load l).motorClass = some 2 := by simpa using List.find?_some hfind
    have hk : ¬ K l := fun hk => by simpa [hclass] using (h.stacked l hk).2
    have hload : (p.leaveList b l).load l = p.load l := Part.setBus_load_read ..
    have hv : ¬ (p.leaveList b l).ValveDead l := fun hv => by simpa [hload, hclass] using hv.motorClass
    have hoff := (((h.leaveList b l).setLoadState (st := .off) hk hv).orderOff l)
    split
    · unfold Part.cutMotor
      refine KeepWork.postLoad ?_ l .cut
      unfold Part.tellOwner
      split
      · exact hoff.lightReport _ (by simp)
      · split
        · next a ha => exact hoff.motorReport (.inr (motorOf_of_axisOf ha ▸ hk))
        · split
          · exact hoff.pumpReport _
          · exact hoff.heaterReport _
          · exact hoff
          · exact hoff.padReport (by simp)
          · exact hoff
    · exact h
  next => exact h

theorem overloadCheck (h : r.KeepWork K p) (b : BusName) : r.KeepWork K (p.overloadCheck b) :=
  (h.shedToFit b (victims_role p b _)).motorCut b 0

theorem floorCheck (h : r.KeepWork K p) (b : BusName) : r.KeepWork K (p.floorCheck b) :=
  (h.shedAll b _ (victims_role p b _)).motorCut b 0

theorem undervoltageShed (h : r.KeepWork K p) (b : BusName) : r.KeepWork K (p.undervoltageShed b) :=
  (h.shedAll b _ (victims_role p b _)).motorCut b 0

theorem threeChecks (h : r.KeepWork K p) (b : BusName) : r.KeepWork K (p.threeChecks b) := by
  unfold Part.threeChecks
  dsimp only
  split
  · exact ((h.undervoltageShed b).floorCheck b).overloadCheck b
  · exact (h.floorCheck b).overloadCheck b

theorem makeRoom (h : r.KeepWork K p) (l : LoadId) (cls draw : Nat) : r.KeepWork K (p.makeRoom l cls draw).1 := by
  cases hc : p.chargeRefusal (p.busOf l) cls with
  | true => simpa only [Part.makeRoom, hc, if_true] using h
  | false =>
    have hrole : ∀ v ∈ p.roomVictims l cls, p.params.role v ≠ .frostValve := fun v hv =>
      victims_role p _ _ v (List.mem_of_mem_filter hv)
    rcases p.victimsToFit_cases (busLimitOf p.params (p.busOf l)) (p.committedSum (p.busOf l) + draw) (p.roomVictims l cls) with
      ⟨k, e, _⟩ | ⟨e, _⟩
    · rw [Part.makeRoom_of_some hc e]
      exact h.shedAll _ _ fun v hv => hrole v (List.mem_of_mem_take hv)
    · rw [Part.makeRoom_of_none hc e]
      split
      · exact (h.shedAll _ _ hrole).motorCut _ _
      · exact h

theorem turnOn (h : r.KeepWork K p) {l : LoadId} (hl : FreeLoad K p.params l) (m : Option Nat) : r.KeepWork K (p.turnOn l m) := by
  have hrec := h.setLoad (l := l) (x := p.admittedRec l m) (fun hk => absurd hk hl.1)
    fun hv => absurd hv.role (hl.2 hv.switch)
  rw [Part.turnOn_eq]
  refine ldmOn (hrec.setBus ?_ ?_) ?_
  · rw [Part.setLoad_bus_read]
  · rw [Part.setLoad_bus_read]
  · show FreeLoad K (p.listed l m).params l
    rw [show (p.listed l m).params = p.params from Part.setBus_params ..]
    exact hl

theorem admitLoad (h : r.KeepWork K p) {l : LoadId} (hl : FreeLoad K p.params l) (m : Option Nat) :
    r.KeepWork K (p.admitLoad l m) := (h.turnOn hl m).postLoad l .admitted

/-- A demand for a load that is no frost valve; a SHED load of the set answers SHED. -/
theorem demand (h : r.KeepWork K p) {l : LoadId} (hl : l.val < 12 → p.params.role l ≠ .frostValve) (m : Option Nat) :
    r.KeepWork K (p.demand l m).1 := by
  unfold Part.demand
  dsimp only
  split
  · exact h
  · split
    · exact h
    · exact h
    · next hshed _ =>
      have hroom := h.self.makeRoom l (m.getD (p.effClass l)) (p.committed l)
      split
      · exact h.trans (hroom.admitLoad ⟨h.notMem hshed, by rw [hroom.params]; exact hl⟩ m)
      · exact h.trans hroom

theorem setWantedLevel (h : r.KeepWork K p) (c : LightId) (n : Nat) : r.KeepWork K (p.setWantedLevel (lightLoad c) n) :=
  h.setLoad (fun hk => h.stacked _ hk) fun hv => absurd hv (lightNotDead c)

theorem lightDemand (h : r.KeepWork K p) (c : LightId) (n : Nat) : r.KeepWork K (p.lightDemand c n).1 := by
  have hroom (draw : Nat) := h.self.makeRoom (lightLoad c) (p.effClass (lightLoad c)) draw
  unfold Part.lightDemand
  dsimp only
  split
  · exact h
  · split
    · exact h.setWantedLevel c n
    · split
      · exact h.setWantedLevel c n
      · split
        · exact (h.trans (hroom _)).setWantedLevel c n
        · exact h.trans (hroom _)
    · next hshed _ =>
      split
      · exact ((h.trans (hroom _)).setWantedLevel c n).admitLoad (.light (h.notMem hshed)) none
      · exact h.trans (hroom _)

/-- A wanted-off of a load outside the set; a dead valve is not wanted. -/
theorem wantedOff (h : r.KeepWork K p) {l : LoadId} (hk : ¬ K l) : r.KeepWork K (p.wantedOff l) := by
  cases hw : (p.load l).wanted with
  | false => rwa [Part.wantedOff_of_not hw]
  | true =>
    rw [Part.wantedOff, if_pos hw]
    refine (((h.leave l).setLoadState hk fun hv => ?_).ldmOff l).postLoad l .off
    have := hv.state
    rw [Part.leave_load] at this
    rw [LoadRec.wanted, this] at hw
    exact absurd hw (by decide)

theorem loadTrip (h : r.KeepWork K p) {l : LoadId} (hl : FreeLoad K p.params l) : r.KeepWork K (p.loadTrip l) := by
  unfold Part.loadTrip
  split
  · exact h
  · have hleft := h.self.leave l
    have hstate := (h.leave l).setLoadState (l := l) (st := .faulted) hl.1 fun hv => by
      exact absurd hv.role (by rw [hleft.params]; exact hl.2 hv.switch)
    refine (hstate.tellOwner (by simp) (by simp) (.inr ?_)).postLoad l .faulted
    rw [Part.setLoadState, Part.setLoad_params, hleft.params]
    exact hl

/-! ### Motion (R164 to R178) -/

theorem setAxisState (h : r.KeepWork K p) (a : Axis) (st : AxisState) : r.KeepWork K (p.setAxisState a st) := by
  unfold Part.setAxisState
  dsimp only
  split
  · exact (h.setAxis a _).report trivial
  · exact h.setAxis a _

theorem formPosition (h : r.KeepWork K p) (m : Motion) : r.KeepWork K (p.formPosition m) := by
  unfold Part.formPosition Part.setPosition
  split
  · split
    · exact h.setAxis _ _
    · exact h
  · exact h

theorem stopDrive (h : r.KeepWork K p) (m : Motion) : r.KeepWork K (p.stopDrive m) :=
  ((h.formPosition m).orderOff _).setMot _

section

variable {m : Motion} (hk : ¬ K (motorOf m.axis))
include hk

theorem endAs (h : r.KeepWork K p) (x : MotionResult) (st : AxisState) : r.KeepWork K (p.endAs m x st) := by
  unfold Part.endAs
  dsimp only
  split
  · exact (((((h.stopDrive m).setMot _).setAxisState _ st).wantedOff hk).setAxis _ _).postMotion _ x
  · exact ((((h.setMot _).setAxisState _ st).wantedOff hk).setAxis _ _).postMotion _ x

theorem endCore (h : r.KeepWork K p) (x : MotionResult) : r.KeepWork K (p.endCore m x) := h.endAs hk x _

theorem startBridge (h : r.KeepWork K p) (b : Bridge) : r.KeepWork K (p.startBridge m b) :=
  (h.setMot _).orderOn (.motor hk)

end

theorem startCore (h : r.KeepWork K p) {m : Motion} (hk : ¬ K (motorOf m.axis)) : r.KeepWork K (p.startCore m) := by
  unfold Part.startCore
  dsimp only
  split
  · exact h.endCore hk _
  · split
    · exact h.endCore hk _
    · exact ((startBridge (m := { m with
        stage := .drive, basePos := (p.axis m.axis).position, drivenMs := 0, travelMs := p.params.travelMs }) hk h _).setMot _).setAxis
          _ _

theorem startWaiting (h : r.KeepWork K p) (hk : ∀ m, p.mot.active = some m → ¬ K (motorOf m.axis)) :
    r.KeepWork K p.startWaiting := by
  unfold Part.startWaiting
  split
  next m hm =>
    split
    · exact h.startCore (hk m hm)
    · exact h
  next => exact h

theorem restated (h : r.KeepWork K p) (a : Axis) : r.KeepWork K (p.restated a) := by
  rcases p.restated_cases a with e | ⟨_, x, e⟩ <;> rw [e]
  · exact h
  · exact h.postMotion a x

theorem demandMotion (h : r.KeepWork K p) (a : Axis) (d : Direction) (target : Option Nat) :
    r.KeepWork K (p.demandMotion a d target).1 := by
  have hd := h.demand (l := motorOf a) (fun hl => absurd hl (motorOf_ge a)) (some (motionClass a d))
  unfold Part.demandMotion
  dsimp only
  split
  next hok =>
    have hk : ¬ K (motorOf a) := fun hk => p.demand_of_shed_ne (h.stacked _ hk).1 _ hok
    refine startWaiting ((hd.setMot _).setAxisState a _) fun m hm => ?_
    rw [Part.setAxisState_mot_active] at hm
    cases hm
    exact hk
  next => exact hd

theorem takePending (h : r.KeepWork K p) : r.KeepWork K p.takePending := by
  unfold Part.takePending
  split
  · have hq := h.setMot { p.mot with pend := none }
    dsimp only
    split
    · exact hq.postMotion _ _
    · split
      · exact hq.demandMotion _ _ _
      · exact (hq.demandMotion _ _ _).postMotion _ _
  · exact h

theorem motorReported (h : r.KeepWork K p) {a : Axis} (hk : ¬ K (motorOf a)) (x : MotionResult) :
    r.KeepWork K (p.motorReported a x) := by
  unfold Part.motorReported
  split
  · split
    next e => exact ((h.endCore (e ▸ hk) x).takePending).restated _
    next => exact h
  · exact h

/-! ### The courtesy light (R185) -/

theorem levelDemand (h : r.KeepWork K p) (c : LightId) {level : Nat} (hl : level ≠ 0) (fade : Nat) :
    r.KeepWork K (p.levelDemand c level fade).1 := by
  have hd := h.lightDemand c level
  unfold Part.levelDemand
  simp only [if_neg hl]
  split
  · exact h
  · split
    next hok =>
      have hk : ¬ K (lightLoad c) := fun hk => p.lightDemand_of_shed_ne (h.stacked _ hk).1 _ hok
      exact (hd.setLight c _).startFade (fun _ => hk) fade
    next => exact hd.setLight c _
    next => exact hd

theorem courtesyStep (h : r.KeepWork K p) : r.KeepWork K p.courtesyStep := by
  unfold Part.courtesyStep
  split
  · exact h
  · dsimp only
    split
    · exact h
    next hl =>
      split
      · exact h.setLight _ _
      · split
        · exact h
        · split
          · exact (h.levelDemand _ hl _).setLight _ _
          · exact h.levelDemand _ hl _

/-! ### The delivery of reports (log 6) -/

theorem takeReport (h : r.KeepWork K p) {x : Report} (hx : HarmlessReport K p.params x) : r.KeepWork K (p.takeReport x) := by
  cases x with
  | motorCut a => exact h.motorReported hx _
  | motorFaulted a => exact h.motorReported hx _
  | valveFaulted => exact hx.elim
  | padCleared => exact hx.elim
  | tripped l => exact h.loadTrip hx
  | stepExtended => exact h.courtesyStep

/-- The outbox with some of its reports taken out of it. -/
theorem setOutbox (h : r.KeepWork K p) {xs : List Report} (hx : ∀ x ∈ xs, HarmlessReport K p.params x) :
    r.KeepWork K { p with outbox := xs } :=
  h.trans { h.self with reports := hx, flags := fun b => by cases b <;> exact ⟨rfl, rfl⟩ }

theorem deliver (h : r.KeepWork K p) (n : Nat) : r.KeepWork K (p.deliver n) := by
  induction n generalizing p with
  | zero => exact h.setOutbox (by simp)
  | succ n ih =>
    unfold Part.deliver
    split
    · exact h
    next x rest hx =>
      have hmem := h.reports
      rw [hx] at hmem
      exact ih ((h.setOutbox fun y hy => hmem y (by simp [hy])).takeReport (hmem x (by simp)))

theorem delivered (h : r.KeepWork K p) : r.KeepWork K p.delivered := h.deliver 64

theorem dryCheck (h : r.KeepWork K p) : r.KeepWork K p.dryCheck := by
  unfold Part.dryCheck
  split
  · exact h
  · exact h.other rfl

/-! ### The heater and the pump (R131, R134, R144 to R150) -/

/-- A demand for the heater's load, which is no frost valve. -/
theorem demandHeater (h : r.KeepWork K p) {l : LoadId} (hl : p.params.role l = .heater) : r.KeepWork K (p.demandHeater l) := by
  have hd := h.demand (l := l) (fun _ => by rw [hl]; decide) none
  unfold Part.demandHeater
  dsimp only
  split
  · exact hd.heaterRunning
  · exact hd.setHeater _
  · exact hd.setHeater _
  · exact hd.setHeater _

theorem dropHeater (h : r.KeepWork K p) {l : LoadId} (hk : ¬ K l) : r.KeepWork K (p.dropHeater l) :=
  (h.wantedOff hk).heaterEnded.setHeater .idle

theorem setHeld (h : r.KeepWork K p) (x : Held) : r.KeepWork K (p.setHeld x) := h.other rfl

theorem heaterJudge (h : r.KeepWork K p) (hk : ∀ l, p.params.role l = .heater → ¬ K l) : r.KeepWork K p.heaterJudge := by
  have hq : r.KeepWork K (({ p with clm := { p.clm with heatWanted := p.wantsHeat } } : Part).setHeld .none) := h.other rfl
  unfold Part.heaterJudge
  dsimp only
  split
  · exact h
  · split
    · exact hq
    next l hl =>
      have hrole : p.params.role l = .heater := Pages.role_of_loadWith hl
      split
      · exact hq
      · exact hq
      · split
        · split
          · exact hq.setHeld _
          · exact hq.demandHeater hrole
        · exact hq
      · split
        · split
          · exact hq.setHeld _
          · exact hq.demandHeater hrole
        · exact hq.setHeater _
      · split
        · exact hq
        · split
          · exact hq.setHeld _
          · exact hq.dropHeater (hk l hrole)
      · split
        · exact hq
        · split
          · exact hq.setHeld _
          · exact hq.dropHeater (hk l hrole)

theorem demoteLoad (h : r.KeepWork K p) {l : LoadId} (hl : p.params.role l = .heater) (hk : ¬ K l) :
    r.KeepWork K (p.demoteLoad l) := by
  have hp : r.KeepWork K ((p.setLoad l { p.load l with promoted := false }).postLoad l .demoted) :=
    (h.setLoad (fun hl => absurd hl hk) fun hv => absurd hv.role (by rw [hl]; decide)).postLoad l .demoted
  have hq : p.KeepWork K ((p.setLoad l { p.load l with promoted := false }).postLoad l .demoted) :=
    (h.self.setLoad (fun hl => absurd hl hk) fun hv => absurd hv.role (by rw [hl]; decide)).postLoad l .demoted
  unfold Part.demoteLoad
  dsimp only
  split
  · have hleft := (hq.leave l).params
    have hoff := ((hp.leave l).setLoadState (l := l) (st := .off) hk fun hv =>
      absurd hv.role (by rw [hleft, hl]; decide)).ldmOff l
    refine KeepWork.threeChecks ((hoff.tellOwner (by simp) (by simp) (.inr ⟨hk, fun _ => ?_⟩)).postLoad l .off) _
    have hparams := (((hq.leave l).setLoadState (l := l) (st := .off) hk fun hv =>
      absurd hv.role (by rw [hleft, hl]; decide)).ldmOff l).params
    rw [hparams, hl]
    decide
  · exact hp.threeChecks _

theorem demoteHeater (h : r.KeepWork K p) (hk : ∀ l, p.params.role l = .heater → ¬ K l) : r.KeepWork K p.demoteHeater := by
  unfold Part.demoteHeater
  split
  · exact h
  next l hl =>
    have hrole : p.params.role l = .heater := Pages.role_of_loadWith hl
    split
    · exact (h.demoteLoad hrole (hk l hrole)).postHeater
    · exact h

theorem dropPump (h : r.KeepWork K p) (hk : ∀ l, p.params.role l = .pump → ¬ K l) : r.KeepWork K p.dropPump := by
  have hq (st : PumpState) : r.KeepWork K { p with wat := { p.wat with request := false, dryTimer := 0, pump := st } } :=
    h.setPump (fun _ => rfl) id
  unfold Part.dropPump
  dsimp only
  split
  · exact hq p.wat.pump
  next l hl =>
    have hrole : p.params.role l = .pump := Pages.role_of_loadWith hl
    split
    · exact (hq .off).wantedOff (hk l hrole)
    · exact (hq .off).wantedOff (hk l hrole)
    · exact hq p.wat.pump

theorem watDumped (h : r.KeepWork K p) (hk : ∀ l, p.params.role l = .pump → ¬ K l) : r.KeepWork K p.watDumped := by
  have hq : r.KeepWork K { p with wat := { p.wat with dumped := true, dryTimer := 0 } } := h.setPump id fun _ => rfl
  unfold Part.watDumped
  dsimp only
  split
  · exact (hq.dropPump hk).postTank _ _
  · exact hq.postTank _ _

end Sys2Proof.Machine.Part.KeepWork
end

section
/-! PROOFS. The expiry of the below-cut timer (R49, R61), and the restore examination with what the owner of a restored load does
(R63, R133, R146, R36, R182). -/

namespace Sys2Proof.Machine

/-! ### The below-cut timer (R49, R61) -/

theorem Part.load_of_books {p q : Part} (h : q.books = p.books) (l : LoadId) : q.load l = p.load l := by
  simp only [Part.load, show q.ldm = p.ldm from congrArg Prod.fst h]

theorem Part.shed_stacked (p : Part) (b : BusName) (c : ShedCause) {l m : LoadId} (h : m = l ∨ p.Stacked m) :
    (p.shed b c l).Stacked m := by
  have hload : (p.shed b c l).load m = ((p.leaveList b l).setLoadState l .shed).load m := by
    have htold (q : Part) : ((q.ldmOff l).tellOwner l (.shed c)).load m = q.load m :=
      Part.load_of_books ((Part.tellOwner_shed_books ..).trans (q.ldmOff_books l)) m
    exact (Part.depthJudge_load ..).trans ((Part.post_load_read ..).trans ((htold _).trans (Part.setBus_load_read ..)))
  rw [Part.Stacked, hload, Part.setLoadState, Part.leaveList, Part.setBus_load_read]
  by_cases e : m = l
  · subst e
    rw [Part.load_setLoad]
    exact ⟨rfl, rfl⟩
  · rw [Part.load_setLoad_of_ne _ _ e, Part.setBus_load_read]
    exact h.resolve_left e

/-- Loads that are shed stand on the stack, each in no class of a motor. -/
theorem Part.shedAll_stacked (p : Part) (b : BusName) (c : ShedCause) {ls : List LoadId} {m : LoadId}
    (h : m ∈ ls ∨ p.Stacked m) : (p.shedAll b c ls).Stacked m := by
  induction ls generalizing p with
  | nil => exact h.resolve_left (by simp)
  | cons l ls ih =>
    refine ih (p.shed b c l) ?_
    rw [List.mem_cons] at h
    rcases h with (h | h) | h
    · exact .inr (p.shed_stacked b c (.inl h))
    · exact .inl h
    · exact .inr (p.shed_stacked b c (.inr h))

/-- The part whose below-cut timer has expired, before the shedding: the flag set and its notice posted (R49). -/
def Part.flagged (p : Part) (b : BusName) : Part := (p.setBus b { p.bus b with belowCut := none, uvFlag := true }).postDepth b

theorem Part.flagged_bus (p : Part) (b : BusName) : (p.flagged b).bus b = { p.bus b with belowCut := none, uvFlag := true } := by
  rw [Part.flagged, Part.postDepth, Part.post_bus_read, Part.bus_setBus]

theorem Part.flagged_load (p : Part) (b : BusName) (l : LoadId) : (p.flagged b).load l = p.load l := by
  rw [Part.flagged, Part.postDepth, Part.post_load_read, Part.setBus_load_read]

theorem Part.flagged_params (p : Part) (b : BusName) : (p.flagged b).params = p.params := by
  rw [Part.flagged, Part.postDepth, Part.post_params, Part.setBus_params]

theorem Part.flagged_outbox (p : Part) (b : BusName) : (p.flagged b).outbox = p.outbox := by
  rw [Part.flagged, Part.postDepth, Part.post_outbox, Part.setBus_outbox]

theorem Part.flagged_uptime (p : Part) (b : BusName) : (p.flagged b).uptime = p.uptime := by
  rw [Part.flagged, Part.postDepth, Part.post_uptime, Part.setBus_uptime]

theorem Part.undervoltageExpire_eq {p : Part} {b : BusName} (h : (p.bus b).belowCut.isSome = true) :
    p.undervoltageExpire b = (p.flagged b).undervoltageShed b := if_pos h

/-- With none on the bus the undervoltage shedding does nothing. -/
theorem Part.undervoltageShed_of_empty {p : Part} {b : BusName} (h : (p.bus b).onList = []) : p.undervoltageShed b = p := by
  have hv : p.shedAll b .undervoltage (p.victimOrder []) = p := rfl
  rw [Part.undervoltageShed, Part.victims_all, h, hv]
  exact Part.NoMotor.motorCut (by simp [Part.NoMotor, h]) 0

/-- The shedding of an undervoltage up to the end of the event: what is shed stays SHED, whatever the reports of a cut bring about. -/
theorem Part.undervoltageShed_keeps (p : Part) (b : BusName) (ho : p.outbox = []) :
    (p.shedAll b .undervoltage (p.victims b fun _ => true)).KeepWork (· ∈ p.victims b fun _ => true)
      (p.undervoltageShed b).delivered.dryCheck := by
  refine (KeepWork.motorCut (.refl (fun l hl => p.shedAll_stacked b _ (.inl hl)) fun x hx => ?_) b 0).delivered.dryCheck
  rw [(p.shedAll_work b _ _).outbox, ho] at hx
  exact absurd hx List.not_mem_nil

/-- The expiry of a below-cut timer as an event: the flag, the sheddable loads of the bus, and what stands. -/
theorem undervoltageExpiry_sheds {s : State} {b : BusName} (ho : s.part.outbox = [])
    (hc : (s.part.bus b).belowCut.isSome = true) (h4 : ∀ l ∈ (s.part.bus b).onList, s.part.effClass l ≤ 4) :
    ∃ t, exec (.undervoltageExpiry b) s = .next t ∧ t.pending = s.pending ∧ (t.part.bus b).uvFlag = true ∧
      (t.part.bus b).belowCut = none ∧ t.part.bnk = s.part.bnk ∧ t.part.params = s.part.params ∧ t.part.sli = s.part.sli ∧
      t.part.mdc = s.part.mdc ∧ t.part.uptime = s.part.uptime ∧
      ∀ l ∈ (s.part.bus b).onList, s.part.sheddable l = true → (t.part.load l).state = .shed := by
  have hexec : exec (.undervoltageExpiry b) s = .next ⟨(s.part.undervoltageExpire b).finish, s.pending⟩ := rfl
  have hflagged : s.part.BlockWork (s.part.flagged b) := ((Part.BlockWork.refl _).setBus b _).postDepth b
  have hblock := (hflagged.undervoltageShed b).delivered.dryCheck
  have hkeep := (s.part.flagged b).undervoltageShed_keeps b ((s.part.flagged_outbox b).trans ho)
  obtain ⟨⟨_, hbus⟩, _, _, _, _, _, htime⟩ :=
    (s.part.flagged b).shedAll_work b .undervoltage ((s.part.flagged b).victims b fun _ => true)
  have hvictim : ∀ l ∈ (s.part.bus b).onList, s.part.sheddable l = true → l ∈ (s.part.flagged b).victims b fun _ => true := by
    intro l hl hs
    have hsame := s.part.flagged_load b l
    have hps : s.part.params.SameLoads (s.part.flagged b).params := .of_eq (s.part.flagged_params b)
    rw [Part.victims_all, Part.mem_victimOrder, s.part.flagged_bus, Part.sheddable_congr hps hsame, Part.effClass_congr hps hsame]
    exact ⟨hl, hs, h4 l hl⟩
  rw [Part.undervoltageExpire_eq hc, Part.finish] at hexec
  obtain ⟨k, e⟩ := ((s.part.flagged b).undervoltageShed b).delivered.dryCheck.transmit_only_link
  rw [e] at hexec
  generalize ((s.part.flagged b).undervoltageShed b).delivered.dryCheck = q at hexec hblock hkeep
  have hqbus : ({ q with lnk := k } : Part).bus b = q.bus b := by cases b <;> rfl
  refine ⟨_, hexec, rfl, ?_, ?_, hblock.bnk, hblock.params, hblock.sli, hblock.mdc,
    hkeep.uptime.trans (htime.trans (s.part.flagged_uptime b)), fun l hl hs => (hkeep.stacked l (hvictim l hl hs)).1⟩
  · rw [hqbus, (hkeep.flags b).1, hbus, s.part.flagged_bus]
  · rw [hqbus, (hkeep.flags b).2, hbus, s.part.flagged_bus]

/-! ### The restore examination (R63) -/

/-- The five conditions of R63. -/
theorem Part.restorable_iff (p : Part) (b : BusName) (e : ShedEntry) : p.restorable b e = true ↔
    30 ≤ (p.uptime - e.shedAt).toNat ∧ busFloorOf p.params b (p.effClass e.load) + p.params.restoreHysteresis ≤ (p.bus b).soc ∧
      (p.bus b).uvFlag = false ∧ p.modeRefusal e.load (p.effClass e.load) = none ∧
      p.committedSum b + p.committed e.load ≤ busLimitOf p.params b := by
  simp [Part.restorable, and_assoc]

theorem Part.restoreTop_of_not {p : Part} {b : BusName} (h : ∀ e, (p.bus b).stack.getLast? = some e → p.restorable b e ≠ true) :
    p.restoreTop b = p := by
  unfold Part.restoreTop
  split
  next e he => exact if_neg (h e he)
  next => rfl

theorem Part.restoreTop_of_empty {p : Part} {b : BusName} (h : (p.bus b).stack = []) : p.restoreTop b = p :=
  Part.restoreTop_of_not fun e he => by simp [h] at he

/-- The part with a restored load ON at the end of its on-list, off the top of its stack. -/
def Part.unstacked (p : Part) (b : BusName) (l : LoadId) (rest : List ShedEntry) : Part :=
  (p.setBus b { p.bus b with stack := rest, depthMark := false, onList := (p.bus b).onList ++ [l] }).setLoad l
    (p.admittedRec l none)

/-- A restored top leaves the stack below its warning level, and its owner hears of it. -/
theorem Part.restoreTop_of_top {p : Part} {b : BusName} {rest : List ShedEntry} {e : ShedEntry}
    (hs : (p.bus b).stack = rest ++ [e]) (hne : ∀ x ∈ rest, x.load ≠ e.load) (hb : p.busOf e.load = b)
    (hw : rest.length < busWarnOf p.params b) (hr : p.restorable b e = true) : p.restoreTop b =
      (((p.unstacked b e.load rest).ldmOn e.load).tellOwner e.load .restored).postLoad e.load .restored := by
  have hlast : (p.bus b).stack.getLast? = some e := by rw [hs, List.getLast?_concat]
  have hleft : p.leaveStack b e.load = p.setBus b { p.bus b with stack := rest, depthMark := false } := by
    refine Part.leaveStack_quiet ?_ (decide_eq_false (by omega)) (by simp)
    rw [hs, List.filter_append, List.filter_eq_self.2 fun x hx => bne_iff_ne.2 (hne x hx)]
    simp
  have hb' : (p.leaveStack b e.load).busOf e.load = b := by
    rw [hleft]
    exact (Part.busOf_congr (Part.setBus_params ..) (congrArg Chg.tieRelay (Part.setBus_chg ..)) _).trans hb
  have hlisted : (p.leaveStack b e.load).listed e.load none = p.unstacked b e.load rest := by
    rw [Part.listed, hb', Part.admittedRec, hleft, Part.setBus_load_read, Part.setBus_uptime, Part.bus_setBus,
      ← Part.setLoad_setBus, Part.setBus_setBus]
    rfl
  simp only [Part.restoreTop, hlast, hr, if_true, Part.turnOn_eq, hlisted]

/-- The part with the restore timer reloaded. -/
abbrev Part.retimed (p : Part) : Part := { p with ldm := { p.ldm with restoreTimer := 2000 } }

theorem Part.retimed_bus (p : Part) (b : BusName) : p.retimed.bus b = p.bus b := by cases b <;> rfl

theorem Part.restoreExam_of_none {p : Part} (h : ∀ b ∈ p.liveBuses, p.retimed.restoreTop b = p.retimed) :
    p.restoreExam = p.retimed := by
  unfold Part.restoreExam
  generalize p.liveBuses = bs at h
  induction bs with
  | nil => rfl
  | cons b bs ih =>
    rw [List.foldl_cons, h b (by simp)]
    exact ih fun b' hb => h b' (by simp [hb])

/-- An examination that finds one stack only, and leaves the others empty. -/
theorem Part.restoreExam_of_one {p q : Part} {b : BusName} (hb : b ∈ p.liveBuses) (h : p.retimed.restoreTop b = q)
    (ho : ∀ b' ∈ p.liveBuses, b' ≠ b → (p.bus b').stack = []) (hq : ∀ b', b' ≠ b → q.bus b' = p.bus b') : p.restoreExam = q := by
  have hbefore : ∀ b' ∈ p.liveBuses, b' ≠ b → p.retimed.restoreTop b' = p.retimed := fun b' hm hne =>
    Part.restoreTop_of_empty (by rw [Part.retimed_bus]; exact ho b' hm hne)
  have hafter : ∀ b' ∈ p.liveBuses, b' ≠ b → q.restoreTop b' = q := fun b' hm hne =>
    Part.restoreTop_of_empty (by rw [hq b' hne]; exact ho b' hm hne)
  unfold Part.restoreExam
  cases ht : p.chg.tieRelay with
  | joined =>
    have hl : p.liveBuses = [.joined] := by simp only [Part.liveBuses, ht]
    rw [hl] at hb ⊢
    obtain rfl := List.mem_singleton.1 hb
    exact h
  | split =>
    have hl : p.liveBuses = [.A, .B] := by simp only [Part.liveBuses, ht]
    rw [hl] at hb hbefore hafter ⊢
    simp only [List.foldl_cons, List.foldl_nil]
    rcases (by simpa using hb : b = .A ∨ b = .B) with rfl | rfl
    · rw [show p.retimed.restoreTop .A = q from h]
      exact hafter .B (by simp) (by decide)
    · rw [show p.retimed.restoreTop .A = p.retimed from hbefore .A (by simp) (by decide)]
      exact h

end Sys2Proof.Machine
end

section
/-! PROOFS. What the owner of a load does when it is told of it, for each owner (R58), and the restore examination of a top that
meets the five conditions of R63 (R133, R146, R36, R182). -/

namespace Sys2Proof.Machine

/-! ### The owner of a load hears of it (R58) -/

section

variable {p : Part} {l : LoadId} (hl : l.val < 12) (x : OwnerReport)
include hl

theorem lightOf_of_switch : lightOf? l = none := dif_neg (by omega)

theorem axisOf_of_switch : axisOf? l = none := by rw [axisOf?, if_neg (by omega), if_neg (by omega)]

theorem Part.tellOwner_of_general (h : p.params.role l = .general) : p.tellOwner l x = p := by
  simp only [Part.tellOwner, lightOf_of_switch hl, axisOf_of_switch hl, h]

theorem Part.tellOwner_of_pump (h : p.params.role l = .pump) : p.tellOwner l x = p.pumpReport x := by
  simp only [Part.tellOwner, lightOf_of_switch hl, axisOf_of_switch hl, h]

theorem Part.tellOwner_of_heater (h : p.params.role l = .heater) : p.tellOwner l x = p.heaterReport x := by
  simp only [Part.tellOwner, lightOf_of_switch hl, axisOf_of_switch hl, h]

theorem Part.tellOwner_of_pad (h : p.params.role l = .battPad) : p.tellOwner l x = p.padReport x := by
  simp only [Part.tellOwner, lightOf_of_switch hl, axisOf_of_switch hl, h]

theorem Part.tellOwner_of_valve (h : p.params.role l = .frostValve) : p.tellOwner l x = p.valveReport x := by
  simp only [Part.tellOwner, lightOf_of_switch hl, axisOf_of_switch hl, h]

end

theorem Part.tellOwner_of_light (p : Part) (c : LightId) (x : OwnerReport) :
    p.tellOwner (lightLoad c) x = p.lightReport c x := by
  have h : lightOf? (lightLoad c) = some c := by
    have := c.isLt
    simp [lightOf?, lightLoad]
    omega
  simp only [Part.tellOwner, h]

/-- A light is ordered on by the Light Unit. -/
theorem Part.ldmOn_of_light (p : Part) (c : LightId) : p.ldmOn (lightLoad c) = p := by
  have hl : isLightChannel (lightLoad c) = true := by
    have hv : (lightLoad c).val = 12 + c.val := rfl
    simp only [isLightChannel, hv, Bool.and_eq_true, decide_eq_true_eq]
    omega
  simp [Part.ldmOn, hl]

theorem Part.tellOwner_of_motor (p : Part) (a : Axis) (x : OwnerReport) : p.tellOwner (motorOf a) x = p.motorReport a x := by
  cases a <;> rfl

theorem Part.heaterRunning_of_ne {p : Part} (h : p.clm.heater ≠ .running) : p.heaterRunning =
    ({ p with clm := { p.clm with minOn := some 120000, heater := .running } }).postHeater := by
  rw [Part.heaterRunning, Part.setHeater, if_neg h.symm]

theorem Part.setPad_of_ne {p : Part} {st : PadState} (h : p.chg.pad ≠ st) (hs : st.refusal = none) :
    p.setPad st = ({ p with chg := { p.chg with pad := st, padRetry := none } }).postPad := by
  unfold Part.setPad
  cases st with
  | refused c => simp [PadState.refusal] at hs
  | noPad | idle | running | waiting | faulted => rw [if_neg h.symm]

theorem Part.setLight_setLight (p : Part) (c : LightId) (x y : LightRec) : (p.setLight c x).setLight c y = p.setLight c y := by
  simp [Part.setLight]

/-- A fade up from a lower level over 1 s, with its output ordered on (R179, R180). -/
theorem Part.startFade_up {p : Part} {c : LightId} {fadeEnd : Nat} (he : p.out.exercise ≠ some (lightLoad c))
    (hp : (p.light c).present < fadeEnd) (ht : (p.chan (lightLoad c)).switching ≠ .tripped) : p.startFade c fadeEnd 1000 =
      (p.orderOn (lightLoad c)).setLight c { p.light c with
        fadeEnd := fadeEnd, fadeStep := some (((fadeEnd - (p.light c).present) * 10 + 999) / 1000), tick := some 10 } := by
  have hon : (p.setLight c { p.light c with fadeEnd := fadeEnd }).lightOn c =
      (p.orderOn (lightLoad c)).setLight c { p.light c with fadeEnd := fadeEnd } := by
    have hno : (p.setLight c { p.light c with fadeEnd := fadeEnd }).lightExercised c = false := by
      simp only [Part.lightExercised, Part.setLight_out, beq_eq_false_iff_ne]
      exact he
    rw [Part.lightOn, hno, if_neg (by decide),
      Part.orderOn_of_out (p := p) (q := p.setLight c { p.light c with fadeEnd := fadeEnd }) rfl ht, Part.orderOn_eq ht]
    rfl
  have hd : fadeDistance fadeEnd (p.light c).present = fadeEnd - (p.light c).present := if_pos hp.le
  have hstart : ¬ ((1000 : Nat) = 0 ∨ fadeEnd - (p.light c).present = 0) := by omega
  unfold Part.startFade
  simp only [if_pos (show 0 < fadeEnd by omega), hon, Part.light_setLight, hd, if_neg hstart, Part.setLight_setLight, ceilDiv]
  rfl

/-! ### A restored top (R63) -/

/-- What stands of a part after an on order of an output that is not TRIPPED: all but the Output Monitor. -/
def Part.unswitched (p : Part) := (p.params, p.ldm, p.wat, p.clm, p.chg, p.mdc, p.lux, p.outbox)

theorem Part.orderOn_unswitched {p : Part} {c : LoadId} (h : (p.chan c).switching ≠ .tripped) :
    (p.orderOn c).unswitched = p.unswitched := by
  rw [Part.orderOn_eq h]
  rfl

theorem Part.bus_of_ldm {p q : Part} (h : q.ldm = p.ldm) (b : BusName) : q.bus b = p.bus b := by
  cases b <;> simp only [Part.bus, h]

theorem Part.unstacked_otherBus (p : Part) {b b' : BusName} (h : b' ≠ b) (l : LoadId) (rest : List ShedEntry) :
    (p.retimed.unstacked b l rest).bus b' = p.bus b' := by
  rw [Part.unstacked, Part.setLoad_bus_read, Part.bus_setBus_of_ne _ _ h, Part.retimed_bus]

/-- The fields that a restored load leaves, but for those of the Load Manager. -/
theorem Part.unstacked_fields (p : Part) (b : BusName) (l : LoadId) (rest : List ShedEntry) :
    (p.retimed.unstacked b l rest).params = p.params ∧ (p.retimed.unstacked b l rest).wat = p.wat ∧
      (p.retimed.unstacked b l rest).clm = p.clm ∧ (p.retimed.unstacked b l rest).chg = p.chg ∧
      (p.retimed.unstacked b l rest).mdc = p.mdc ∧ (p.retimed.unstacked b l rest).out = p.out ∧
      (p.retimed.unstacked b l rest).lux = p.lux ∧ (p.retimed.unstacked b l rest).outbox = p.outbox := by
  cases b <;> exact ⟨rfl, rfl, rfl, rfl, rfl, rfl, rfl, rfl⟩

/-- A top that is restored: the hypotheses of R63 and the place of its stack. -/
structure Part.Restored (p : Part) (b : BusName) (rest : List ShedEntry) (e : ShedEntry) : Prop where
  outbox : p.outbox = []
  live : b ∈ p.liveBuses
  others : ∀ b' ∈ p.liveBuses, b' ≠ b → (p.bus b').stack = []
  stack : (p.bus b).stack = rest ++ [e]
  once : ∀ x ∈ rest, x.load ≠ e.load
  home : p.busOf e.load = b
  untripped : (p.chan e.load).switching ≠ .tripped
  shallow : rest.length < busWarnOf p.params b
  restorable : p.restorable b e = true

section

variable {s : State} {b : BusName} {rest : List ShedEntry} {e : ShedEntry} (h : s.part.Restored b rest e)
include h

/-- The examination of a restored top leads to what its owner makes of the part. -/
theorem restoreExamination_restores {x : Part}
    (hx : ((s.part.retimed.unstacked b e.load rest).ldmOn e.load).tellOwner e.load .restored = x)
    (hd : x.ldm = (s.part.retimed.unstacked b e.load rest).ldm) (ho : x.outbox = []) :
    LeadsTo .restoreExamination s (x.postLoad e.load .restored) := by
  refine leadsTo_of_event (f := Part.restoreExam) rfl (Part.restoreExam_of_one h.live ?_ h.others fun b' hb => ?_)
    ((Part.post_outbox ..).trans ho)
  · have htop := Part.restoreTop_of_top (p := s.part.retimed) ((congrArg BusRec.stack (s.part.retimed_bus b)).trans h.stack)
      h.once h.home h.shallow ?_
    · rw [htop, hx]
    · have hr := (s.part.restorable_iff b e).1 h.restorable
      rw [Part.restorable_iff, Part.committedSum, s.part.retimed_bus b]
      exact hr
  · exact (Part.post_bus_read ..).trans ((Part.bus_of_ldm hd b').trans (s.part.unstacked_otherBus hb ..))

variable {on : Part} (hon : s.part.retimed.unstacked b e.load rest = on)
include hon

theorem Part.Restored.untripped_on : (on.chan e.load).switching ≠ .tripped := by
  obtain ⟨_, _, _, _, _, ho, _⟩ := s.part.unstacked_fields b e.load rest
  rw [← hon, Part.chan_of_out ho]
  exact h.untripped

/-- A restored load on a switch output: its output is ordered on, then its owner acts on the part `x` that this leaves. -/
theorem restoreExamination_switches (hl : e.load.val < 12) {x : Part}
    (hx : (on.orderOn e.load).tellOwner e.load .restored = x) (hd : x.ldm = (on.orderOn e.load).ldm)
    (ho : x.outbox = (on.orderOn e.load).outbox) : LeadsTo .restoreExamination s (x.postLoad e.load .restored) := by
  have hsame := Part.orderOn_unswitched (h.untripped_on hon)
  simp only [Part.unswitched, Prod.mk.injEq] at hsame
  obtain ⟨_, hldm, _, _, _, _, _, hbox⟩ := hsame
  obtain ⟨_, _, _, _, _, _, _, hout⟩ := s.part.unstacked_fields b e.load rest
  refine restoreExamination_restores h ?_ (hd.trans (hldm.trans (congrArg Part.ldm hon.symm))) ?_
  · rw [Part.ldmOn_of_switch _ hl, hon, hx]
  · rw [ho, hbox, ← hon, hout]
    exact h.outbox

end

/-! ### The obligation -/

/-- Settles O32: the expiry by the frame of what stays SHED; the examination by the top, and by what each owner does. -/
theorem undervoltageShedsAndTheStackRestores : Obligations.UndervoltageShedsAndTheStackRestores := by
  refine ⟨fun s b ho hc h4 => ⟨fun hempty => ?_, undervoltageExpiry_sheds ho hc h4⟩, fun s ho => ⟨fun hnone => ?_, ?_⟩⟩
  · refine leadsTo_of_event (f := (·.undervoltageExpire b)) rfl ?_ ((s.part.flagged_outbox b).trans ho)
    rw [Part.undervoltageExpire_eq hc]
    exact Part.undervoltageShed_of_empty (by rw [s.part.flagged_bus]; exact hempty)
  · refine leadsTo_of_event (f := Part.restoreExam) rfl (Part.restoreExam_of_none fun b hb => ?_) ho
    refine Part.restoreTop_of_not fun e he hr => ?_
    rw [s.part.retimed_bus] at he
    rw [Part.restorable_iff, Part.committedSum, s.part.retimed_bus] at hr
    exact hnone b hb e he hr
  · intro b hb rest e hothers hstack honce hhome htrip hwarn hrest l on restored
    have h : s.part.Restored b rest e :=
      ⟨ho, hb, hothers, hstack, honce, hhome, htrip, hwarn, (s.part.restorable_iff b e).2 hrest⟩
    have hon : s.part.retimed.unstacked b l rest = on := by
      rw [Part.unstacked, s.part.retimed_bus]
      rfl
    obtain ⟨hps, hwat, hclm, hchg, hmdc, hout, hlux, hbox⟩ := s.part.unstacked_fields b l rest
    have hcl := h.untripped_on hon
    have hsame := Part.orderOn_unswitched hcl
    rw [hon] at hps hwat hclm hchg hmdc hout hlux hbox
    simp only [Part.unswitched, Prod.mk.injEq, hps, hwat, hclm, hchg, hmdc, hlux, hbox] at hsame
    obtain ⟨sps, sldm, swat, sclm, schg, smdc, slux, sbox⟩ := hsame
    refine ⟨fun hl hr => ?_, fun hl hr => ?_, fun hl hr hne => ?_, fun hl hr hne => ?_, fun c hc hex htarget hpres => ?_⟩
    · exact restoreExamination_switches h hon hl (Part.tellOwner_of_general hl _ (by rw [sps]; exact hr)) rfl rfl
    · refine restoreExamination_switches h hon hl ((Part.tellOwner_of_pump hl _ (by rw [sps]; exact hr)).trans ?_) rfl rfl
      rw [Part.pumpReport, swat]
    · refine restoreExamination_switches h hon hl ((Part.tellOwner_of_heater hl _ (by rw [sps]; exact hr)).trans ?_)
        (Part.post_ldm ..) (Part.post_outbox ..)
      rw [Part.heaterReport, Part.heaterRunning_of_ne (by rw [sclm]; exact hne), sclm]
    · have hmode : (on.orderOn l).mdc.mode ≠ .service := by
        rw [smdc]
        intro hs
        have := hrest.2.2.2.1
        rw [Part.modeRefusal_eq, hs, hr] at this
        simp at this
      refine restoreExamination_switches h hon hl ((Part.tellOwner_of_pad hl _ (by rw [sps]; exact hr)).trans ?_)
        (Part.post_ldm ..) (Part.post_outbox ..)
      rw [Part.padReport, if_neg hmode]
      dsimp only
      rw [Part.setPad_of_ne (by rw [schg]; exact hne) rfl, schg]
    · have hlight : on.light c = s.part.light c := by simp only [Part.light, hlux]
      refine restoreExamination_restores h (x := (on.orderOn l).setLight c _) ?_ ?_ ?_
      · rw [hon, show e.load = lightLoad c from hc, Part.ldmOn_of_light, Part.tellOwner_of_light, Part.lightReport, hlight,
          Part.startFade_up (by rw [hout, ← hc]; exact hex) (by rw [hlight]; exact hpres) (by rw [← hc]; exact hcl), hlight, ← hc]
      · rw [Part.setLight_ldm, sldm, hon]
      · rw [Part.setLight_outbox, sbox]
        exact ho

end Sys2Proof.Machine
end

section
/-! PROOFS. A trip of a channel: what it does to the channel, its load and the unit that owns the load (R87, R88, R92, R65). -/

namespace Sys2Proof.Machine

/-! ### The channel and its load (R87, R65) -/

/-- A part in which the channel is TRIPPED with the cause latched, and nothing else has happened yet. -/
def Part.shut (p : Part) (c : LoadId) (cause : OutCause) : Part :=
  (p.setSwitching c .tripped).setChan c ((p.chan c).tripped cause)

/-- The ON load of a channel off its on-list and FAULTED. -/
def Part.unlisted (p : Part) (c : LoadId) : Part :=
  (p.setBus (p.busOf c) { p.bus (p.busOf c) with onList := (p.bus (p.busOf c)).onList.filter (· ≠ c) }).setLoad c
    { p.load c with state := .faulted, motorClass := none }

section

variable (p : Part) (c : LoadId) (cause : OutCause)

theorem Part.shut_chan : (p.shut c cause).chan c = (p.chan c).tripped cause := Part.chan_setChan ..

theorem Part.shut_eq : p.shut c cause = { p.setChan c ((p.chan c).tripped cause) with
    out := { (p.setChan c ((p.chan c).tripped cause)).out with
      running := p.out.running.map fun m : Measuring => if m.channel = c then { m with onThroughout := false } else m } } := by
  simp [Part.shut, Part.setSwitching, Part.setChan]

theorem Part.unlisted_chan (m : LoadId) : (p.unlisted c).chan m = p.chan m := by
  rw [Part.unlisted, Part.setLoad_chan_read, Part.setBus_chan_read]

theorem Part.unlisted_fields : (p.unlisted c).params = p.params ∧ (p.unlisted c).bnk = p.bnk ∧ (p.unlisted c).clm = p.clm ∧
    (p.unlisted c).wat = p.wat ∧ (p.unlisted c).chg = p.chg ∧ (p.unlisted c).mdc = p.mdc ∧ (p.unlisted c).out = p.out ∧
    (p.unlisted c).mot = p.mot ∧ (p.unlisted c).lux = p.lux ∧ (p.unlisted c).lnk = p.lnk ∧
    (p.unlisted c).outbox = p.outbox := by
  simp only [Part.unlisted, Part.setLoad_params, Part.setBus_params, Part.setLoad_bnk, Part.setBus_bnk, Part.setLoad_clm,
    Part.setBus_clm, Part.setLoad_wat, Part.setBus_wat, Part.setLoad_chg, Part.setBus_chg, Part.setLoad_mdc, Part.setBus_mdc,
    Part.setLoad_out, Part.setBus_out, Part.setLoad_mot, Part.setBus_mot, Part.setLoad_lux, Part.setBus_lux, Part.setLoad_lnk,
    Part.setBus_lnk, Part.setLoad_outbox, Part.setBus_outbox, and_self]

end

variable {p : Part} {c : LoadId} {cause : OutCause}

/-- A trip of a channel that was not TRIPPED, for a cause that was not latched. -/
theorem Part.trip_of_new (hs : (p.chan c).switching ≠ .tripped) (hl : (p.chan c).latched.has cause = false) :
    p.trip c cause = (((p.shut c cause).endExerciseOf c).loadTrip c).postOutputFault c cause := by
  have hl' : ¬ (p.chan c).latched.has cause = true := by rw [hl]; decide
  rw [Part.trip, if_neg hl']
  dsimp only
  rw [if_neg hs]
  rfl

theorem Part.endExerciseOf_of_ne (h : p.out.exercise ≠ some c) : p.endExerciseOf c = p := if_neg h

theorem Part.loadTrip_of_on (h : (p.load c).state = .on) :
    p.loadTrip c = ((p.unlisted c).tellOwner c .faulted).postLoad c .faulted := by
  rw [Part.loadTrip, if_neg (by rw [h]; decide), Part.leave_of_on h, Part.leaveList_ne, Part.setLoadState, Part.setBus_load_read,
    if_neg (by decide), Part.unlisted]

/-- The trip of an ON load's channel outside an exercise. -/
theorem Part.trip_of_on (hs : (p.chan c).switching ≠ .tripped) (hl : (p.chan c).latched.has cause = false)
    (he : p.out.exercise ≠ some c) (hon : (p.load c).state = .on) : p.trip c cause =
      ((((p.shut c cause).unlisted c).tellOwner c .faulted).postLoad c .faulted).postOutputFault c cause := by
  rw [Part.trip_of_new hs hl, Part.endExerciseOf_of_ne (p := p.shut c cause) he, Part.loadTrip_of_on (p := p.shut c cause) hon]

end Sys2Proof.Machine
end


section
/-! PROOFS. The eighth overcurrent measurement in a row and the short of the motor channel that drives (R84, R87, R92, R173). -/

namespace Sys2Proof.Machine

/-! ### What the work of a trip leaves of the parameters, the motions, the lights, the loads and the channels -/

/-- The records that the trips of an output and of a motor are about, but for the on-lists. -/
def Part.traced (p : Part) := (p.params, p.bnk, p.mot, p.lux, p.ldm.loads, p.out.channels, p.outbox)

section

variable (p : Part) (c : LoadId) (cause : OutCause)

theorem Part.post_traced (k : NoticeKind) (n : Nat) (d : List Byte) : (p.post k n d).traced = p.traced := by
  unfold Part.post
  split <;> rfl

theorem Part.setBus_traced (b : BusName) (x : BusRec) : (p.setBus b x).traced = p.traced := by cases b <;> rfl

theorem Part.leave_traced (l : LoadId) : (p.leave l).traced = p.traced := by
  cases hs : (p.load l).state with
  | on => rw [Part.leave_of_on hs, Part.leaveList, Part.setBus_traced]
  | shed =>
    rw [Part.leave_of_shed hs, Part.leaveStack]
    rcases Part.depthJudge_cases (p := p.setBus (p.busOf l) _) (p.busOf l) with ⟨e, _⟩ | ⟨e, _⟩ | ⟨e, _⟩ <;> rw [e]
    · exact p.setBus_traced ..
    · rw [Part.postDepth, Part.post_traced, Part.setBus_traced, Part.setBus_traced]
    · rw [Part.setBus_traced, Part.setBus_traced]
  | off | faulted | exercised => simp only [Part.leave, hs]

theorem Part.endExerciseOf_traced : (p.endExerciseOf c).traced = p.traced := by
  unfold Part.endExerciseOf
  split <;> rfl

end

section

variable {p q : Part} (h : q.traced = p.traced)
include h

theorem Part.params_of_traced : q.params = p.params := congrArg (fun x => x.1) h

theorem Part.bnk_of_traced : q.bnk = p.bnk := congrArg (fun x => x.2.1) h

theorem Part.mot_of_traced : q.mot = p.mot := congrArg (fun x => x.2.2.1) h

theorem Part.lux_of_traced : q.lux = p.lux := congrArg (fun x => x.2.2.2.1) h

theorem Part.outbox_of_traced : q.outbox = p.outbox := congrArg (fun x => x.2.2.2.2.2.2) h

end

theorem Part.load_of_traced {p q : Part} (h : q.traced = p.traced) (l : LoadId) : q.load l = p.load l := by
  simp only [Part.traced, Prod.mk.injEq] at h
  obtain ⟨_, _, _, _, hl, _, _⟩ := h
  rw [Part.load, hl, Part.load]

theorem Part.chan_of_traced {p q : Part} (h : q.traced = p.traced) (c : LoadId) : q.chan c = p.chan c := by
  simp only [Part.traced, Prod.mk.injEq] at h
  obtain ⟨_, _, _, _, _, hc, _⟩ := h
  rw [Part.chan, hc, Part.chan]

theorem Part.setLoad_traced {p q : Part} (h : q.traced = p.traced) (l : LoadId) (x : LoadRec) :
    (q.setLoad l x).traced = (p.setLoad l x).traced := by
  simp only [Part.traced, Prod.mk.injEq] at h
  obtain ⟨hp, hb, hm, hx, hl, hc, ho⟩ := h
  simp only [Part.traced, Part.setLoad, hp, hb, hm, hx, hl, hc, ho]

theorem Part.setLoadState_traced {p q : Part} (h : q.traced = p.traced) (l : LoadId) (st : LoadState) :
    (q.setLoadState l st).traced = (p.setLoadState l st).traced := by
  rw [Part.setLoadState, Part.setLoadState, Part.load_of_traced h, Part.setLoad_traced h]

theorem Part.setChan_setChan (p : Part) (c : LoadId) (x y : Channel) : (p.setChan c x).setChan c y = p.setChan c y := by
  simp [Part.setChan]

theorem Part.shut_traced {p q : Part} (h : q.traced = p.traced) (c : LoadId) (cause : OutCause) :
    (q.shut c cause).traced = (p.setChan c ((p.chan c).tripped cause)).traced := by
  rw [Part.shut_eq, Part.chan_of_traced h]
  simp only [Part.traced, Prod.mk.injEq] at h
  obtain ⟨hp, hb, hm, hx, hl, hc, ho⟩ := h
  simp only [Part.traced, Part.setChan, hp, hb, hm, hx, hl, hc, ho]

/-- A trip of a channel whose load is not FAULTED, in these records: its owner hears of it by `xs` at most. -/
theorem Part.trip_traced {p : Part} {c : LoadId} {cause : OutCause} {xs : List Report} (hs : (p.chan c).switching ≠ .tripped)
    (hl : (p.chan c).latched.has cause = false) (hf : (p.load c).state ≠ .faulted)
    (ht : ∀ q : Part, q.params = p.params → q.tellOwner c .faulted = { q with outbox := q.outbox ++ xs }) :
    (p.trip c cause).traced =
      ({ (p.shut c cause).setLoadState c .faulted with outbox := p.outbox ++ xs } : Part).traced := by
  have hx := (p.shut c cause).endExerciseOf_traced c
  rw [Part.trip_of_new hs hl, Part.postOutputFault, Part.post_traced, Part.loadTrip,
    if_neg (by rw [Part.load_of_traced hx]; exact hf), Part.postLoad, Part.post_traced]
  have hstate := Part.setLoadState_traced ((Part.leave_traced _ c).trans hx) c .faulted
  rw [ht]
  · simp only [Part.traced, Prod.mk.injEq] at hstate ⊢
    obtain ⟨h1, h2, h3, h4, h5, h6, h7⟩ := hstate
    exact ⟨h1, h2, h3, h4, h5, h6, congrArg (· ++ xs) h7⟩
  · exact (Part.params_of_traced hstate).trans rfl

/-- The end of an event with nothing to deliver. -/
theorem Part.finish_traced_delivered (p : Part) : p.finish.traced = p.delivered.traced := by
  obtain ⟨k, e⟩ := p.delivered.dryCheck.transmit_only_link
  rw [Part.finish, e]
  rcases p.delivered.dryCheck_cases with ⟨_, e⟩ | ⟨_, e⟩ <;> rw [e] <;> rfl

theorem Part.finish_traced {p : Part} (ho : p.outbox = []) : p.finish.traced = p.traced := by
  rw [Part.finish_traced_delivered, Part.delivered_of_empty ho]

theorem Part.deliver_of_empty {p : Part} (ho : p.outbox = []) (n : Nat) : p.deliver n = p := by
  cases n with
  | zero => rw [Part.deliver, ← ho]
  | succ n => simp only [Part.deliver, ho]

/-- Delivery of one report whose taking leaves none. -/
theorem Part.delivered_of_one {p : Part} {x : Report} (ho : p.outbox = [x])
    (ht : (({ p with outbox := [] } : Part).takeReport x).outbox = []) :
    p.delivered = ({ p with outbox := [] } : Part).takeReport x := by
  rw [Part.delivered, Part.deliver]
  simp only [ho]
  exact Part.deliver_of_empty ht 63

/-! ### The eighth overcurrent measurement -/

theorem Part.converterFree_traced (p : Part) (m : Measuring) : (p.converterFree m).traced = p.traced := by
  unfold Part.converterFree
  dsimp only
  generalize hq : ({ p with out := _ } : Part) = q
  have he : q.traced = p.traced := by rw [← hq]; rfl
  obtain ⟨o, e, _⟩ := q.arbiter_cases
  have hc := q.arbiter_channels
  rw [← he, e]
  rw [e] at hc
  simp only [Part.traced] at hc ⊢
  rw [hc]

theorem Part.dryMeasured_traced (p : Part) (l : LoadId) : (p.dryMeasured l).traced = p.traced := by
  unfold Part.dryMeasured
  split <;> rfl

theorem Part.completeHead_traced (p : Part) (st : Status) (payload : List Byte) :
    (p.completeHead st payload).traced = p.traced := by
  obtain ⟨_, _, _, e⟩ := p.completeHead_cases st payload
  rw [e]
  rfl

/-- A load that is not ON takes the reading, and no check follows. -/
theorem Part.measured_of_ne {q : Part} {l : LoadId} (h : (q.load l).state ≠ .on) (ma : Nat) :
    q.measured l ma = q.setLoad l { q.load l with measured := some ma, fresh := true } := by
  simp [Part.measured, h]

/-- A completion on a switch output whose load is no longer ON after the counters. -/
theorem Part.measureDone_traced {p q : Part} {m : Measuring} {raw : Int} (hc : m.channel.val < 12)
    (hq : (p.storeReading m.channel ((p.chan m.channel).reading raw) m.onThroughout).counterTrips m.channel = q)
    (ho : q.outbox = []) (hf : (q.load m.channel).state ≠ .on) : (p.measureDone m raw).traced =
      (q.setLoad m.channel { q.load m.channel with measured := some ((p.chan m.channel).reading raw), fresh := true }).traced := by
  rw [← Part.measured_of_ne hf, ← (q.measured m.channel ((p.chan m.channel).reading raw)).dryMeasured_traced m.channel]
  simp only [Part.measureDone, hq, Part.delivered_of_empty ho, axisOf_of_switch hc]
  rw [Part.converterFree_traced]
  split
  · exact Part.completeHead_traced ..
  · rfl

/-- OPEN, where the counter of low readings has reached it, latches beside (R89). -/
theorem Part.openLatch_traced (p : Part) (c : LoadId) : ∃ x : OutLatches, x.overcurrent = (p.chan c).latched.overcurrent ∧
    (if 8 ≤ (p.chan c).openCount then p.latchOnly c .openLoad else p).traced =
      (p.setChan c { p.chan c with latched := x }).traced := by
  have hself : p.traced = (p.setChan c { p.chan c with latched := (p.chan c).latched }).traced := by
    have hset : p.out.channels.set c.val (p.chan c) = p.out.channels := Vector.set_getElem_self c.isLt
    change _ = ({ p with out := { p.out with channels := p.out.channels.set c.val (p.chan c) } } : Part).traced
    rw [hset]
  unfold Part.latchOnly
  split
  · split
    · exact ⟨_, rfl, hself⟩
    · exact ⟨(p.chan c).latched.add .openLoad, rfl, Part.post_traced ..⟩
  · exact ⟨_, rfl, hself⟩

/-- The channel of the eighth overcurrent measurement in a row. -/
def Channel.overtripped (r : Channel) (p : Part) (ma : Nat) (x : OutLatches) : Channel :=
  { r with switching := .tripped, latched := { x with overcurrent := true }, tripCount := min 255 (r.tripCount + 1), overCount := 8
           openCount := 0, last := some ma, fresh := true, freshTimer := some (freshMs p.mdc.mode) }

/-- The counters at the eighth overcurrent measurement in a row (R84, R87). -/
theorem Part.counterTrips_traced {p : Part} {c : LoadId} {ma : Nat} (hon : (p.chan c).switching = .on)
    (hma : p.params.tripCurrent c < ma) (h7 : 7 ≤ (p.chan c).overCount) (hl : (p.chan c).latched.overcurrent = false)
    (hi : (p.chan c).inrush = none) (hc : c.val < 12) (hg : p.params.role c = .general) (hf : (p.load c).state ≠ .faulted) :
    ∃ x, ((p.storeReading c ma true).counterTrips c).traced =
      ((p.setChan c ((p.chan c).overtripped p ma x)).setLoadState c .faulted).traced := by
  have hover : ((p.storeReading c ma true).chan c).overCount = 8 := by
    simp [Part.storeReading, Part.chan_setChan, Channel.overCounted, hl, hi, hma]
    omega
  obtain ⟨x, hx, e⟩ := (p.storeReading c ma true).openLatch_traced c
  unfold Part.counterTrips
  dsimp only
  generalize (if 8 ≤ ((p.storeReading c ma true).chan c).openCount then (p.storeReading c ma true).latchOnly c .openLoad
    else p.storeReading c ma true) = q at e
  have hchan : q.chan c = { (p.storeReading c ma true).chan c with latched := x } := by
    rw [Part.chan_of_traced e, Part.chan_setChan]
  have hload (l : LoadId) : q.load l = p.load l := Part.load_of_traced e l
  have hparams : q.params = p.params := (Part.params_of_traced e).trans rfl
  have htrip := Part.trip_traced (p := q) (c := c) (cause := .overcurrent) (xs := [])
    (by rw [hchan]; simp [Part.storeReading, Part.chan_setChan, hon])
    (by rw [hchan]; simp only [OutLatches.has, hx]; simp [Part.storeReading, Part.chan_setChan, hl])
    (by rw [hload]; exact hf)
    (fun q' h => by rw [Part.tellOwner_of_general hc _ (by rw [h, hparams]; exact hg), List.append_nil])
  have hrec : ({ (p.storeReading c ma true).chan c with latched := x } : Channel).tripped .overcurrent =
      (p.chan c).overtripped p ma x := by
    have hr : (p.storeReading c ma true).chan c = { p.chan c with
        last := some ma, fresh := true, freshTimer := some (freshMs p.mdc.mode), overCount := 8
        openCount := ((p.storeReading c ma true).chan c).openCount } := by
      rw [← hover, Part.storeReading, Part.chan_setChan]
    rw [hr, Channel.tripped, if_neg (by simp [hon])]
    rfl
  have hshut : (q.shut c .overcurrent).traced = (p.setChan c ((p.chan c).overtripped p ma x)).traced := by
    rw [Part.shut_traced e, Part.chan_setChan, hrec, Part.storeReading, Part.setChan_setChan, Part.setChan_setChan]
  rw [hchan, hover, if_pos (le_refl 8), htrip]
  have hout : q.outbox = (q.shut c .overcurrent).outbox := rfl
  rw [hout, List.append_nil]
  exact ⟨x, Part.setLoadState_traced hshut c .faulted⟩

theorem overcurrent_trips {s : State} {m : Measuring} {raw : Int} {ma : Nat}
    (hma : (s.part.chan m.channel).reading raw = ma) (ho : s.part.outbox = []) (hrun : s.part.out.running = some m)
    (hz : s.part.out.zeroPass = none) (hthrough : m.onThroughout = true) (hon : (s.part.chan m.channel).switching = .on)
    (hover : s.part.params.tripCurrent m.channel < ma) (h7 : 7 ≤ (s.part.chan m.channel).overCount)
    (hl : (s.part.chan m.channel).latched.overcurrent = false) (hi : (s.part.chan m.channel).inrush = none)
    (hc : m.channel.val < 12) (hg : s.part.params.role m.channel = .general) (hf : (s.part.load m.channel).state ≠ .faulted) :
    ∃ t x, exec (.measurementComplete raw) s = .next t ∧ t.pending = s.pending ∧ t.part.traced =
      (((s.part.setChan m.channel ((s.part.chan m.channel).overtripped s.part ma x))).setLoad m.channel
        { s.part.load m.channel with state := .faulted, motorClass := none, measured := some ma, fresh := true }).traced := by
  obtain ⟨x, hx⟩ := Part.counterTrips_traced (ma := ma) hon hover h7 hl hi hc hg hf
  generalize hq : (s.part.storeReading m.channel ma true).counterTrips m.channel = q at hx
  have hload : q.load m.channel = { s.part.load m.channel with state := .faulted, motorClass := none } := by
    rw [Part.load_of_traced hx, Part.setLoadState, Part.load_setLoad]
    rfl
  have hout : q.outbox = [] := (Part.outbox_of_traced hx).trans ho
  have hdone := Part.measureDone_traced (p := s.part) (q := q) (m := m) (raw := raw) hc (by rw [hma, hthrough, hq]) hout
    (by rw [hload]; simp)
  rw [hload, hma, Part.setLoad_traced hx] at hdone
  have hfinish : (s.part.measureDone m raw).outbox = [] := (Part.outbox_of_traced hdone).trans ho
  refine ⟨⟨(s.part.measurementDone raw).finish, s.pending⟩, x, rfl, rfl, ?_⟩
  have hm : s.part.measurementDone raw = s.part.measureDone m raw := by simp only [Part.measurementDone, hrun, hz]
  rw [hm, Part.finish_traced hfinish, hdone, Part.setLoadState]
  simp [Part.setLoad]

/-! ### The motor channel that drives (R173) -/

/-- From `p` to `q` nothing of these records has changed but the Motion Unit's. -/
def Part.MotionOnly (p q : Part) : Prop := q.traced = ({ p with mot := q.mot } : Part).traced

theorem Part.MotionOnly.trans {p q r : Part} (h : p.MotionOnly q) (k : q.MotionOnly r) : p.MotionOnly r := by
  simp only [Part.MotionOnly, Part.traced, Prod.mk.injEq, true_and] at h k ⊢
  obtain ⟨h1, h2, h3, h4, h5, h6⟩ := h
  obtain ⟨k1, k2, k3, k4, k5, k6⟩ := k
  exact ⟨k1.trans h1, k2.trans h2, k3.trans h3, k4.trans h4, k5.trans h5, k6.trans h6⟩

theorem Part.setAxis_motionOnly (p : Part) (a : Axis) (x : AxisRec) : p.MotionOnly (p.setAxis a x) := by cases a <;> rfl

theorem Part.formPosition_motionOnly (p : Part) (m : Motion) : p.MotionOnly (p.formPosition m) ∧
    (p.formPosition m).mot.pend = p.mot.pend := by
  unfold Part.formPosition
  split
  · cases m.axis <;> exact ⟨rfl, rfl⟩
  · exact ⟨rfl, rfl⟩

/-- The end of the motion of a motor whose channel is TRIPPED and whose load is FAULTED (R171, R173). -/
structure Part.EndedDead (p q : Part) (a : Axis) : Prop where
  kept : p.MotionOnly q
  state : (q.axis a).state = .fault
  lastResult : (q.axis a).lastResult = some .tripped
  active : q.mot.active = none
  bridge : q.mot.bridge = .brake
  dead : q.mot.dead = some 200
  tick : q.mot.tick = none
  timeout : q.mot.timeout = none

theorem Part.EndedDead.of_left {p p' q : Part} {a : Axis} (h : p'.EndedDead q a) (e : p'.traced = p.traced) :
    p.EndedDead q a := by
  refine { h with kept := ?_ }
  have hk := h.kept
  simp only [Part.MotionOnly, Part.traced, Prod.mk.injEq] at hk e ⊢
  obtain ⟨h1, h2, h3, h4, h5, h6, h7⟩ := hk
  obtain ⟨k1, k2, _, k4, k5, k6, k7⟩ := e
  exact ⟨h1.trans k1, h2.trans k2, h3, h4.trans k4, h5.trans k5, h6.trans k6, h7.trans k7⟩

theorem Part.EndedDead.of_right {p q q' : Part} {a : Axis} (h : p.EndedDead q a) (e : q'.traced = q.traced) :
    p.EndedDead q' a := by
  have hm : q'.mot = q.mot := Part.mot_of_traced e
  have haxis : q'.axis a = q.axis a := by cases a <;> simp only [Part.axis, hm]
  obtain ⟨hk, hs, hl, ha, hb, hd, ht, ho⟩ := h
  refine ⟨?_, haxis ▸ hs, haxis ▸ hl, hm ▸ ha, hm ▸ hb, hm ▸ hd, hm ▸ ht, hm ▸ ho⟩
  rw [Part.MotionOnly, e, hm]
  exact hk

theorem Part.orderOff_of_ne {p : Part} {c : LoadId} (h : (p.chan c).switching ≠ .on) : p.orderOff c = p := by
  unfold Part.orderOff
  split
  · exact absurd ‹_› h
  · rfl

theorem Part.setAxis_setAxis (p : Part) (a : Axis) (x y : AxisRec) : (p.setAxis a x).setAxis a y = p.setAxis a y := by
  cases a <;> rfl

theorem Part.setAxis_mot_fields (p : Part) (a : Axis) (x : AxisRec) :
    (p.setAxis a x).mot = { p.mot with awn := (p.setAxis a x).mot.awn, step := (p.setAxis a x).mot.step } := by
  cases a <;> rfl

theorem Part.setAxisState_fault (p : Part) (a : Axis) : p.setAxisState a .fault = p.setAxis a { p.axis a with state := .fault } :=
  if_neg fun h => by cases h.2.1

theorem Part.stopDrive_of_dead {p : Part} {m : Motion} (hs : (p.chan (motorOf m.axis)).switching ≠ .on) :
    p.stopDrive m = { p.formPosition m with mot := { (p.formPosition m).mot with
      bridge := .brake, tick := none, inrush := none, watch := none, backoff := none, dead := some 200 } } := by
  obtain ⟨h, _⟩ := p.formPosition_motionOnly m
  rw [Part.stopDrive, Part.orderOff_of_ne (by rw [Part.chan_of_traced h]; exact hs)]

theorem Part.endMotion_of_dead {p : Part} {m : Motion} (hd : m.driving = true) (hp : p.mot.pend = none)
    (hs : (p.chan (motorOf m.axis)).switching ≠ .on) (hw : (p.load (motorOf m.axis)).wanted = false) :
    p.EndedDead (p.endMotion m .tripped) m.axis := by
  obtain ⟨hform, hpend⟩ := p.formPosition_motionOnly m
  have hstop : ∃ w, ({ p.stopDrive m with mot := { (p.stopDrive m).mot with active := none, timeout := none } } : Part) =
      { p.formPosition m with mot := w } ∧ w.active = none ∧ w.pend = none ∧ w.bridge = .brake ∧ w.dead = some 200 ∧
        w.tick = none ∧ w.timeout = none := by
    rw [Part.stopDrive_of_dead hs]
    exact ⟨_, rfl, rfl, hpend.trans hp, rfl, rfl, rfl, rfl⟩
  obtain ⟨w, e, ha, hwp, hb, hdead, ht, ho⟩ := hstop
  have hr : p.MotionOnly { p.formPosition m with mot := w } := hform.trans rfl
  have hmot : ({ p.formPosition m with mot := w } : Part).mot = w := rfl
  generalize ({ p.formPosition m with mot := w } : Part) = r at e hr hmot
  subst hmot
  have hstate : p.endState m .tripped = .fault := rfl
  have hload : (r.setAxis m.axis { r.axis m.axis with state := .fault }).load (motorOf m.axis) = p.load (motorOf m.axis) :=
    Part.load_of_traced (hr.trans (r.setAxis_motionOnly _ _)) _
  rw [Part.endMotion, Part.endCore, Part.endAs, if_pos hd, hstate, e, Part.setAxisState_fault,
    Part.wantedOff_of_not (by rw [hload]; exact hw)]
  dsimp only
  rw [Part.axis_setAxis, Part.setAxis_setAxis]
  have hkept := hr.trans (r.setAxis_motionOnly m.axis { r.axis m.axis with state := .fault, lastResult := some .tripped })
  have haxis := Part.axis_setAxis (p := r) m.axis { r.axis m.axis with state := .fault, lastResult := some .tripped }
  have hmot := r.setAxis_mot_fields m.axis { r.axis m.axis with state := .fault, lastResult := some .tripped }
  generalize r.setAxis m.axis { r.axis m.axis with state := .fault, lastResult := some .tripped } = q at hkept haxis hmot
  rw [Part.stepFive_of_empty _ m.axis (by rw [Part.postMotion, Part.post_mot, hmot]; exact ha)
    (by rw [Part.postMotion, Part.post_mot, hmot]; exact hwp), Part.postMotion]
  refine ⟨?_, ?_, ?_, ?_, ?_, ?_, ?_, ?_⟩
  · rw [Part.MotionOnly, Part.post_traced, Part.post_mot]
    exact hkept
  · rw [Part.post_axis_read, haxis]
  · rw [Part.post_axis_read, haxis]
  all_goals rw [Part.post_mot, hmot]
  exacts [ha, hb, hdead, ht, ho]

/-- The short of the motor channel that drives, up to the end of the event. -/
theorem motorShort_ends {s : State} {m : Motion} (ho : s.part.outbox = []) (ha : s.part.mot.active = some m)
    (hp : s.part.mot.pend = none) (hd : m.driving = true) (hon : (s.part.chan (motorOf m.axis)).switching = .on)
    (hl : (s.part.chan (motorOf m.axis)).latched.short = false) (hload : (s.part.load (motorOf m.axis)).state = .on) :
    ∃ t, exec (.driverShort (motorOf m.axis)) s = .next t ∧ t.pending = s.pending ∧
      ((s.part.setChan (motorOf m.axis) ((s.part.chan (motorOf m.axis)).tripped .short)).setLoadState (motorOf m.axis)
        .faulted).EndedDead t.part m.axis := by
  have htrip := Part.trip_traced (p := s.part) (c := motorOf m.axis) (cause := .short) (xs := [.motorFaulted m.axis])
    (by rw [hon]; decide) hl (by rw [hload]; decide) fun q _ => by rw [Part.tellOwner_of_motor]; rfl
  refine ⟨⟨((s.part).shortReport (motorOf m.axis)).finish, s.pending⟩, rfl, rfl, ?_⟩
  rw [Part.shortReport, if_pos hon]
  generalize s.part.trip (motorOf m.axis) .short = q at htrip
  have hsame : ({ q with outbox := [] } : Part).traced =
      ((s.part.setChan (motorOf m.axis) ((s.part.chan (motorOf m.axis)).tripped .short)).setLoadState (motorOf m.axis)
        .faulted).traced := by
    have hshut := Part.setLoadState_traced (Part.shut_traced (p := s.part) rfl (motorOf m.axis) .short) (motorOf m.axis) .faulted
    simp only [Part.traced, Prod.mk.injEq] at htrip hshut ⊢
    obtain ⟨h1, h2, h3, h4, h5, h6, _⟩ := htrip
    obtain ⟨k1, k2, k3, k4, k5, k6, _⟩ := hshut
    exact ⟨h1.trans k1, h2.trans k2, h3.trans k3, h4.trans k4, h5.trans k5, h6.trans k6, ho.symm⟩
  have hbox : q.outbox = [.motorFaulted m.axis] := by
    rw [Part.outbox_of_traced htrip, ho]
    rfl
  generalize hr : ({ q with outbox := [] } : Part) = r at hsame
  have hmot : r.mot = s.part.mot := (Part.mot_of_traced hsame).trans rfl
  have hend := Part.endMotion_of_dead (p := r) (m := m) hd (by rw [hmot]; exact hp)
    (by
      rw [Part.chan_of_traced hsame, Part.setLoadState, Part.setLoad_chan_read, Part.chan_setChan, Channel.tripped,
        if_neg (by rw [hon]; decide)]
      exact Switching.noConfusion)
    (by rw [Part.load_of_traced hsame, Part.setLoadState, Part.load_setLoad]; rfl)
  have htake : r.takeReport (.motorFaulted m.axis) = r.endMotion m .tripped := by
    simp only [Part.takeReport, Part.motorReported, hmot, ha, if_pos]
  have hempty : (r.endMotion m .tripped).outbox = [] := by
    have hout : r.outbox = [] := by rw [← hr]
    exact (Part.outbox_of_traced hend.kept).trans hout
  have hdel := Part.delivered_of_one hbox (by rw [hr, htake]; exact hempty)
  rw [hr, htake] at hdel
  exact (hend.of_left hsame).of_right (hdel ▸ q.finish_traced_delivered)


end Sys2Proof.Machine
end


section
/-! PROOFS. The short of an ON load's channel, as the unit that owns the load hears of it (R87, R92, R36, R42, R133, R146, R154, R182). -/

namespace Sys2Proof.Machine

/-! ### The event -/

/-- The ON load of a channel that is ON and whose SHORT is not latched, outside an exercise. -/
structure Part.Shortable (p : Part) (c : LoadId) : Prop where
  on : (p.chan c).switching = .on
  unlatched : (p.chan c).latched.short = false
  rest : p.out.exercise ≠ some c
  load : (p.load c).state = .on

/-- A part with the channel TRIPPED and its load FAULTED, of which nobody has heard. -/
def Part.shorted (p : Part) (c : LoadId) : Part := (p.shut c .short).unlisted c

theorem Channel.tripped_of_on {r : Channel} (h : r.switching = .on) (cause : OutCause) : r.tripped cause =
    { r with switching := .tripped, latched := r.latched.add cause, tripCount := min 255 (r.tripCount + 1), openCount := 0 } :=
  if_neg (by rw [h]; decide)

variable {p : Part} {c : LoadId}

theorem Part.shorted_eq (h : (p.chan c).switching = .on) : p.shorted c =
    let q := ((p.setChan c { p.chan c with
      switching := .tripped, latched := { (p.chan c).latched with short := true }
      tripCount := min 255 ((p.chan c).tripCount + 1), openCount := 0 }).setBus (p.busOf c)
        { p.bus (p.busOf c) with onList := (p.bus (p.busOf c)).onList.filter (· ≠ c) }).setLoad c
          { p.load c with state := .faulted, motorClass := none }
    { q with out := { q.out with
      running := q.out.running.map fun m : Measuring => if m.channel = c then { m with onThroughout := false } else m } } := by
  have hb : (p.shut c .short).busOf c = p.busOf c := rfl
  have hbus : (p.shut c .short).bus (p.busOf c) = p.bus (p.busOf c) := by cases p.busOf c <;> rfl
  rw [Part.shorted, Part.unlisted, hb, hbus, Part.shut_eq, Channel.tripped_of_on h]
  cases p.busOf c <;> rfl

theorem Part.shorted_fields (p : Part) (c : LoadId) : (p.shorted c).params = p.params ∧ (p.shorted c).clm = p.clm ∧
    (p.shorted c).wat = p.wat ∧ (p.shorted c).chg = p.chg ∧ (p.shorted c).mdc = p.mdc ∧ (p.shorted c).outbox = p.outbox := by
  obtain ⟨hps, _, hclm, hwat, hchg, hmdc, _, _, _, _, ho⟩ := (p.shut c .short).unlisted_fields c
  exact ⟨hps, hclm, hwat, hchg, hmdc, ho⟩

theorem Part.shortReport_of_shortable (h : p.Shortable c) : p.shortReport c =
    (((p.shorted c).tellOwner c .faulted).postLoad c .faulted).postOutputFault c .short := by
  rw [Part.shortReport, if_pos h.on, Part.trip_of_on (cause := .short) (by rw [h.on]; decide) h.unlatched h.rest h.load, Part.shorted]

theorem short_leads {s : State} {x : Part} (h : s.part.Shortable c) (ht : (s.part.shorted c).tellOwner c .faulted = x)
    (ho : x.outbox = []) : LeadsTo (.driverShort c) s ((x.postLoad c .faulted).postOutputFault c .short) := by
  refine leadsTo_of_event (f := (·.shortReport c)) rfl (by rw [Part.shortReport_of_shortable h, ht]) ?_
  rw [Part.postOutputFault, Part.post_outbox, Part.postLoad, Part.post_outbox, ho]

theorem short_left {s : State} (ho : s.part.outbox = [])
    (h : (s.part.chan c).switching ≠ .on ∨ (s.part.chan c).latched.short = true) : LeadsTo (.driverShort c) s s.part := by
  refine leadsTo_of_event (f := (·.shortReport c)) rfl ?_ ho
  by_cases hs : (s.part.chan c).switching = .on
  · exact (if_pos hs).trans (if_pos (h.resolve_left (not_not_intro hs)))
  · exact if_neg hs

/-! ### The units -/

theorem Part.darken_of_rest {i : LightId} (h : p.out.exercise ≠ some (lightLoad i)) : p.darken i =
    (p.setChan (lightLoad i) { p.chan (lightLoad i) with duty := 0 }).setLight i ⟨0, 0, 0, none, none, none⟩ := by
  have hrest : (p.setLight i { p.light i with present := 0 }).lightExercised i = false := by
    simp only [Part.lightExercised, Part.setLight_out, beq_eq_false_iff_ne]
    exact h
  have hp : p.setPresent i 0 = (p.setChan (lightLoad i) { p.chan (lightLoad i) with duty := 0 }).setLight i
      { p.light i with present := 0 } := by
    rw [Part.setPresent]
    simp only [hrest]
    rfl
  rw [Part.darken, hp]
  dsimp only
  rw [Part.light_setLight, Part.setLight_setLight]

theorem Part.heaterReport_faulted (p : Part) : p.heaterReport .faulted =
    if p.clm.heater = .faulted then { p with clm := { p.clm with
      heater := .faulted, minOff := if p.clm.heater = .running ∨ p.clm.heater = .waiting then some 60000 else p.clm.minOff } }
    else ({ p with clm := { p.clm with
      heater := .faulted, minOff := if p.clm.heater = .running ∨ p.clm.heater = .waiting then some 60000 else p.clm.minOff } }
        : Part).postHeater := by
  cases h : p.clm.heater <;> simp [Part.heaterReport, Part.heaterEnded, Part.setHeater, HeaterState.standing, h]

theorem Part.shorted_chan (h : (p.chan c).switching = .on) : (p.shorted c).chan c = { p.chan c with
    switching := .tripped, latched := { (p.chan c).latched with short := true }, tripCount := min 255 ((p.chan c).tripCount + 1)
    openCount := 0 } := by
  rw [Part.shorted, Part.unlisted_chan, Part.shut_chan, Channel.tripped_of_on h]
  rfl

theorem Part.tellOwner_of_shortedLight (h : p.Shortable c) {i : LightId} (hi : c = lightLoad i) :
    (p.shorted c).tellOwner c .faulted = ((p.shorted c).setChan c { (p.shorted c).chan c with duty := 0 }).setLight i
      ⟨0, 0, 0, none, none, none⟩ := by
  subst hi
  have hrest : (p.shorted (lightLoad i)).out.exercise ≠ some (lightLoad i) := by
    rw [Part.shorted, ((p.shut _ .short).unlisted_fields _).2.2.2.2.2.2.1]
    exact h.rest
  rw [Part.tellOwner_of_light]
  exact Part.darken_of_rest hrest

theorem Part.setPad_faulted (p : Part) : p.setPad .faulted =
    if p.chg.pad = .faulted then { p with chg := { p.chg with pad := .faulted, padRetry := none } }
    else ({ p with chg := { p.chg with pad := .faulted, padRetry := none } } : Part).postPad := by
  simp only [Part.setPad, eq_comm]

/-- The part at the end of the work of a short that the unit has made `x` of. -/
def Part.shortPosted (x : Part) (c : LoadId) : Part := (x.postLoad c .faulted).postOutputFault c .short

section

variable {s : State} (ho : s.part.outbox = []) (h : s.part.Shortable c)
include ho h

theorem short_of_told {x : Part} (ht : (s.part.shorted c).tellOwner c .faulted = x) (hx : x.outbox = (s.part.shorted c).outbox) :
    LeadsTo (.driverShort c) s (x.shortPosted c) :=
  short_leads h ht (hx.trans ((s.part.shorted_fields c).2.2.2.2.2.trans ho))

theorem lightShort_leads {i : LightId} (hi : c = lightLoad i) : LeadsTo (.driverShort c) s
    ((((s.part.shorted c).setChan c { (s.part.shorted c).chan c with duty := 0 }).setLight i
      ⟨0, 0, 0, none, none, none⟩).shortPosted c) :=
  short_of_told ho h (Part.tellOwner_of_shortedLight h hi) rfl

theorem hostShort_leads (hc : c.val < 12) (hr : s.part.params.role c = .general) :
    LeadsTo (.driverShort c) s ((s.part.shorted c).shortPosted c) :=
  short_of_told ho h (Part.tellOwner_of_general hc _ (by rw [(s.part.shorted_fields c).1]; exact hr)) rfl

theorem pumpShort_leads (hc : c.val < 12) (hr : s.part.params.role c = .pump) : LeadsTo (.driverShort c) s
    (({ s.part.shorted c with wat := { s.part.wat with pump := .faulted, request := false } } : Part).shortPosted c) := by
  obtain ⟨hparams, _, hwat, _⟩ := s.part.shorted_fields c
  refine short_of_told ho h ?_ rfl
  rw [Part.tellOwner_of_pump hc _ (by rw [hparams]; exact hr), Part.pumpReport, hwat]

/-- The heater is FAULTED, and an ended demand counts its minimum off time. -/
theorem heaterShort_leads (hc : c.val < 12) (hr : s.part.params.role c = .heater) {x : Part}
    (hx : x = { s.part.shorted c with clm := { s.part.clm with
      heater := .faulted
      minOff := if s.part.clm.heater = .running ∨ s.part.clm.heater = .waiting then some 60000 else s.part.clm.minOff } }) :
    LeadsTo (.driverShort c) s ((if s.part.clm.heater = .faulted then x else x.postHeater).shortPosted c) := by
  obtain ⟨hparams, hclm, _⟩ := s.part.shorted_fields c
  refine short_of_told ho h ?_ ?_
  · rw [Part.tellOwner_of_heater hc _ (by rw [hparams]; exact hr), Part.heaterReport_faulted, hclm, hx]
  · rw [hx]
    split
    · rfl
    · exact Part.post_outbox ..

theorem padShort_leads_of_service (hc : c.val < 12) (hr : s.part.params.role c = .battPad) (hm : s.part.mdc.mode = .service) :
    LeadsTo (.driverShort c) s ((s.part.shorted c).shortPosted c) := by
  obtain ⟨hparams, _, _, _, hmdc, _⟩ := s.part.shorted_fields c
  refine short_of_told ho h ?_ rfl
  rw [Part.tellOwner_of_pad hc _ (by rw [hparams]; exact hr), Part.padReport, if_pos (by rw [hmdc]; exact hm)]

theorem padShort_leads (hc : c.val < 12) (hr : s.part.params.role c = .battPad) (hm : s.part.mdc.mode ≠ .service) {x : Part}
    (hx : x = { s.part.shorted c with chg := { s.part.chg with pad := .faulted, padRetry := none } }) :
    LeadsTo (.driverShort c) s ((if s.part.chg.pad = .faulted then x else x.postPad).shortPosted c) := by
  obtain ⟨hparams, _, _, hchg, hmdc, _⟩ := s.part.shorted_fields c
  refine short_of_told ho h ?_ ?_
  · rw [Part.tellOwner_of_pad hc _ (by rw [hparams]; exact hr), Part.padReport, if_neg (by rw [hmdc]; exact hm),
      Part.setPad_faulted, hchg, hx]
  · rw [hx]
    split
    · rfl
    · exact Part.post_outbox ..

end

/-! ### The frost valve (R154) -/

/-- The part after the Load Manager and the Output Monitor have done with a short, the owner's report apart. -/
def Part.noticed (p : Part) (c : LoadId) : Part := (p.shorted c).shortPosted c

theorem Part.post_report (p : Part) (x : Report) (k : NoticeKind) (n : Nat) (d : List Byte) :
    (p.report x).post k n d = (p.post k n d).report x := by
  have hp : (p.report x).params = p.params := rfl
  unfold Part.post
  rw [hp]
  split <;> rfl

/-- The short of a frost valve: its report waits, the rest is done. -/
theorem Part.shortReport_of_valve (h : p.Shortable c) (hc : c.val < 12) (hr : p.params.role c = .frostValve) :
    p.shortReport c = (p.noticed c).report .valveFaulted := by
  have hrole : (p.shorted c).params.role c = .frostValve := by rw [(p.shorted_fields c).1]; exact hr
  have hload : ((p.shorted c).report .valveFaulted).postLoad c .faulted =
      ((p.shorted c).postLoad c .faulted).report .valveFaulted := Part.post_report ..
  rw [Part.shortReport_of_shortable h, Part.tellOwner_of_valve hc _ hrole, Part.valveReport, hload]
  exact Part.post_report ..

theorem Part.noticed_work (p : Part) (c : LoadId) : p.BlockWork (p.noticed c) :=
  have hshut : p.BlockWork (p.shut c .short) := (Part.BlockWork.refl p).other rfl
  (((hshut.setBus _ _).setLoad c _).postLoad c .faulted).post _ trivial

theorem Part.noticed_outbox (p : Part) (c : LoadId) : (p.noticed c).outbox = p.outbox := by
  rw [Part.noticed, Part.shortPosted, Part.postOutputFault, Part.post_outbox, Part.postLoad, Part.post_outbox]
  exact (p.shorted_fields c).2.2.2.2.2

theorem Part.noticed_clm (p : Part) (c : LoadId) : (p.noticed c).clm = p.clm := by
  rw [Part.noticed, Part.shortPosted, Part.postOutputFault, Part.post_clm, Part.postLoad, Part.post_clm]
  exact (p.shorted_fields c).2.1

/-- A part that hears FROST hears nothing of the short. -/
theorem Part.noticed_lnk (h : p.Hears .frost) (c : LoadId) : (p.noticed c).lnk = p.lnk := by
  have hoff (k : NoticeKind) (hs : k ≠ .started) (hf : k ≠ .frost) : ¬ noticeEnabled (p.shorted c).params k = true := by
    rw [(p.shorted_fields c).1, Part.Hears.enabled h]
    exact fun hk => hk.elim hs hf
  have hload : (p.shorted c).postLoad c .faulted = p.shorted c := if_neg (hoff .loadState (by decide) (by decide))
  have hfault : (p.shorted c).postOutputFault c .short = p.shorted c := if_neg (hoff .outputFault (by decide) (by decide))
  rw [Part.noticed, Part.shortPosted, hload, hfault]
  exact ((p.shut c .short).unlisted_fields c).2.2.2.2.2.2.2.2.2.1

theorem Part.noticed_load (p : Part) (c : LoadId) :
    (p.noticed c).load c = { p.load c with state := .faulted, motorClass := none } := by
  rw [Part.noticed, Part.shortPosted, Part.postOutputFault, Part.post_load_read, Part.postLoad, Part.post_load_read, Part.shorted, Part.unlisted,
    Part.load_setLoad]
  rfl

theorem Part.noticed_chan (h : (p.chan c).switching = .on) : (p.noticed c).chan c = { p.chan c with
    switching := .tripped, latched := { (p.chan c).latched with short := true }, tripCount := min 255 ((p.chan c).tripCount + 1)
    openCount := 0 } := by
  rw [Part.noticed, Part.shortPosted, Part.postOutputFault, Part.post_chan_read, Part.postLoad, Part.post_chan_read, Part.shorted_chan h]

theorem Part.noticed_dead (h : (p.chan c).switching = .on) (hc : c.val < 12) (hr : p.params.role c = .frostValve) :
    (p.noticed c).ValveDead c := by
  have hl := p.noticed_load c
  have hch := Part.noticed_chan h
  exact ⟨hc, by rw [(p.noticed_work c).params]; exact hr, by rw [hl], by rw [hl], by rw [hch]⟩

/-- What is delivered of a valve's short. -/
theorem Part.delivered_of_valve {q : Part} (ho : q.outbox = []) :
    (q.report .valveFaulted).delivered = q.valveTripped.deliver 63 := by
  have hq : ({ q.report .valveFaulted with outbox := [] } : Part) = q := by
    rw [← ho]
    rfl
  have hbox : (q.report .valveFaulted).outbox = [.valveFaulted] := by
    change q.outbox ++ [_] = _
    rw [ho]
    rfl
  rw [Part.delivered, Part.deliver]
  simp only [hbox]
  rw [hq]
  rfl

/-- With the guard in DUMPED nothing follows (R154). -/
theorem valveShort_of_dumped {s : State} (ho : s.part.outbox = []) (h : s.part.Shortable c) (hc : c.val < 12)
    (hr : s.part.params.role c = .frostValve) (hg : s.part.clm.guard = .dumped) :
    LeadsTo (.driverShort c) s (s.part.noticed c) := by
  have hbox := (s.part.noticed_outbox c).trans ho
  have htrip : (s.part.noticed c).valveTripped = s.part.noticed c := if_pos (by rw [Part.noticed_clm]; exact hg)
  have hexec : exec (.driverShort c) s = s.event (·.shortReport c) := rfl
  rw [LeadsTo, hexec, State.event, Part.shortReport_of_valve h hc hr, Part.finish, Part.delivered_of_valve hbox, htrip,
    Part.deliver_of_empty hbox]

/-! ### The dump that a valve's fault brings about (R151, R154) -/

/-- The guard in DUMPED, with nothing counted any more. -/
def Part.guardDumped (p : Part) : Part :=
  { p with clm := { p.clm with guard := .dumped, hold := false, riskTimer := none, unknownTimer := 0 } }

theorem Part.KeepWork.dropPump_request {K : LoadId → Prop} {r p : Part} (h : r.KeepWork K p)
    (hk : ∀ l, p.params.role l = .pump → ¬ K l) : p.dropPump.wat.request = false := by
  have hq : r.KeepWork K { p with wat := { p.wat with request := false, dryTimer := 0, pump := .off } } :=
    h.setPump (fun _ => rfl) id
  unfold Part.dropPump
  dsimp only
  split
  · rfl
  next l hl =>
    have hl' : ¬ K l := hk l (Pages.role_of_loadWith hl)
    split
    · exact (hq.self.wantedOff hl').request rfl
    · exact (hq.self.wantedOff hl').request rfl
    · rfl

/-- The tank of a part that has been dumped is marked, and the pump is not asked for. -/
theorem Part.KeepWork.watDumped_marks {K : LoadId → Prop} {r p : Part} (h : r.KeepWork K p)
    (hk : ∀ l, p.params.role l = .pump → ¬ K l) : p.watDumped.wat.dumped = true ∧ p.watDumped.wat.request = false := by
  have hq : r.KeepWork K { p with wat := { p.wat with dumped := true, dryTimer := 0 } } := h.setPump id fun _ => rfl
  unfold Part.watDumped
  dsimp only
  rw [Part.postTank, Part.post_wat]
  split
  · exact ⟨(hq.self.dropPump hk).dumped rfl, hq.dropPump_request hk⟩
  next hr => exact ⟨rfl, by simpa using hr⟩

/-- The work of the blocks with no load that has to stay SHED. -/
abbrev Part.FreeWork (p q : Part) : Prop := p.KeepWork (fun _ => False) q

theorem Part.FreeWork.refl {p : Part} (ho : p.outbox = []) : p.FreeWork p :=
  Part.KeepWork.refl (fun _ h => h.elim) fun x hx => absurd hx (by rw [ho]; exact List.not_mem_nil)

/-- The stages of a dump: the valve ordered off, the guard, the heater and the tank, and the notice. -/
theorem Part.enterDumped_stages {p : Part} (ho : p.outbox = []) (cause : FrostCause) : ∃ a b : Part,
    p.FreeWork a ∧ a.guardDumped.FreeWork b ∧ b.wat.dumped = true ∧ b.wat.request = false ∧
      p.enterDumped cause = b.postFrost p.clm.guard cause := by
  have hoff : ∃ a : Part, p.FreeWork a ∧ p.enterDumped cause =
      a.guardDumped.demoteHeater.heaterJudge.watDumped.postFrost p.clm.guard cause := by
    unfold Part.enterDumped
    cases p.params.loadWith .frostValve with
    | none => exact ⟨p, .refl ho, rfl⟩
    | some l => exact ⟨p.wantedOff l, (Part.FreeWork.refl ho).wantedOff not_false, rfl⟩
  obtain ⟨a, ha, e⟩ := hoff
  have hguard : a.guardDumped.FreeWork a.guardDumped := Part.KeepWork.refl (fun _ h => h.elim) ha.reports
  have hheat := (hguard.demoteHeater fun _ _ => not_false).heaterJudge fun _ _ => not_false
  obtain ⟨hd, hr⟩ := hheat.watDumped_marks fun _ _ => not_false
  exact ⟨a, _, ha, hheat.watDumped fun _ _ => not_false, hd, hr, e⟩

theorem Part.ValveDead.congr {p q : Part} {l : LoadId} (h : p.ValveDead l) (hp : q.params = p.params) (hl : q.load l = p.load l)
    (hc : q.chan l = p.chan l) : q.ValveDead l :=
  ⟨h.switch, hp ▸ h.role, hl ▸ h.state, hl ▸ h.motorClass, hc ▸ h.switching⟩

/-- What a dump leaves: the guard and the tank, and of a dead valve everything. -/
structure Part.Dumps (p q : Part) (cause : FrostCause) : Prop where
  guard : q.clm.guard = .dumped
  risk : q.clm.riskTimer = none
  unknown : q.clm.unknownTimer = 0
  dumped : q.wat.dumped = true
  request : q.wat.request = false
  valve : ∀ l, p.ValveDead l → q.load l = p.load l ∧ q.chan l = p.chan l
  notice : p.lnk.notices = [] → (∀ k, noticeEnabled p.params k = true ↔ k = .started ∨ k = .frost) → ∃ data, q.lnk.notices =
    [⟨.frost, 0, n8 p.clm.guard.code ++ n8 GuardState.dumped.code ++ n8 cause.code ++ data⟩]

/-- The dump, and the reports that it leaves (R151). -/
theorem Part.enterDumped_dumps {p : Part} (ho : p.outbox = []) (cause : FrostCause) (n : Nat) :
    p.Dumps ((p.enterDumped cause).deliver n).dryCheck cause := by
  obtain ⟨a, b, ha, hb, hd, hr, e⟩ := p.enterDumped_stages ho cause
  rw [e]
  obtain ⟨data, hpost⟩ : ∃ data, b.postFrost p.clm.guard cause = b.post .frost 0
      (n8 p.clm.guard.code ++ n8 b.clm.guard.code ++ n8 cause.code ++ data) :=
    ⟨_, by rw [Part.postFrost, List.append_assoc, List.append_assoc]⟩
  rw [hpost, hb.guard.1]
  generalize hq : b.post .frost 0 (n8 p.clm.guard.code ++ n8 a.guardDumped.clm.guard.code ++ n8 cause.code ++ data) = q
  have hclm : q.clm = b.clm := by rw [← hq, Part.post_clm]
  have hwat : q.wat = b.wat := by rw [← hq, Part.post_wat]
  have hend : q.FreeWork (q.deliver n).dryCheck := by
    have hself : q.FreeWork q := Part.KeepWork.refl (fun _ h => h.elim) fun x hx => by
      rw [← hq, Part.post_params] 
      rw [← hq, Part.post_outbox] at hx
      exact hb.reports x hx
    exact (hself.deliver n).dryCheck
  refine ⟨?_, ?_, ?_, hend.dumped (by rw [hwat]; exact hd), hend.request (by rw [hwat]; exact hr), fun l hv => ?_, fun hn hm => ?_⟩
  · rw [hend.guard.1, hclm, hb.guard.1]; rfl
  · rw [hend.guard.2.1, hclm, hb.guard.2.1]; rfl
  · rw [hend.guard.2.2, hclm, hb.guard.2.2]; rfl
  · have hda : a.guardDumped.ValveDead l := (ha.dead hv).congr rfl rfl rfl
    have hload : q.load l = b.load l := by rw [← hq, Part.post_load_read]
    have hchan : q.chan l = b.chan l := by rw [← hq, Part.post_chan_read]
    have hdq : q.ValveDead l := (hb.dead hda).congr (by rw [← hq, Part.post_params]) hload hchan
    obtain ⟨ha1, ha2⟩ := ha.valve l hv
    obtain ⟨hb1, hb2⟩ := hb.valve l hda
    obtain ⟨he1, he2⟩ := hend.valve l hdq
    exact ⟨he1.trans (hload.trans (hb1.trans ha1)), he2.trans (hchan.trans (hb2.trans ha2))⟩
  · have hbp : b.params = p.params := hb.params.trans ha.params
    have hqp : q.params = p.params := by rw [← hq, Part.post_params, hbp]
    have honly (k : NoticeKind) := (hm k).1
    have hquiet : b.lnk.notices = [] := (hb.quiet (ha.params ▸ honly)).trans ((ha.quiet honly).trans hn)
    have hfrost : noticeEnabled b.params .frost = true := by rw [hbp]; exact (hm .frost).2 (.inr rfl)
    refine ⟨data, (hend.quiet (hqp ▸ honly)).trans ?_⟩
    rw [← hq, Part.post, if_pos hfrost, hquiet]
    rfl

/-- The short of a frost valve with the guard not in DUMPED, up to the end of the event (R154). -/
theorem valveShort_dumps {s : State} (ho : s.part.outbox = []) (h : s.part.Shortable c) (hc : c.val < 12)
    (hr : s.part.params.role c = .frostValve) (hg : s.part.clm.guard ≠ .dumped) :
    ∃ q k, exec (.driverShort c) s = .next ⟨{ q with lnk := k }, s.pending⟩ ∧ s.part.BlockWork q ∧
      (s.part.lnk.tx.isSome = true → k = q.lnk) ∧ (s.part.noticed c).Dumps q .valveFault := by
  have hbox := (s.part.noticed_outbox c).trans ho
  have htrip : (s.part.noticed c).valveTripped = (s.part.noticed c).enterDumped .valveFault :=
    if_neg (by rw [Part.noticed_clm]; exact hg)
  have hexec : exec (.driverShort c) s = .next ⟨((s.part.noticed c).report .valveFaulted).finish, s.pending⟩ := by
    rw [← Part.shortReport_of_valve h hc hr]
    rfl
  have hwork : s.part.BlockWork ((((s.part.noticed c).enterDumped .valveFault).deliver 63).dryCheck) :=
    (((s.part.noticed_work c).enterDumped .valveFault).deliver 63).dryCheck
  rw [Part.finish, Part.delivered_of_valve hbox, htrip] at hexec
  have hdumps := Part.enterDumped_dumps hbox .valveFault 63
  generalize (((s.part.noticed c).enterDumped .valveFault).deliver 63).dryCheck = q at hexec hwork hdumps
  obtain ⟨k, e⟩ := q.transmit_only_link
  refine ⟨q, k, by rw [hexec, e], hwork, fun hb => ?_, hdumps⟩
  obtain ⟨_, _, hl, _⟩ := hwork.lnk
  obtain ⟨f, hf⟩ := Option.isSome_iff_exists.1 hb
  have hbusy := Part.transmit_of_busy (p := q) (f := f) (by rw [hl]; exact hf)
  rw [e] at hbusy
  exact congrArg Part.lnk hbusy

end Sys2Proof.Machine
end


section
/-! PROOFS. The statement of the trips (O34), from its parts. -/

namespace Sys2Proof.Machine

/-- Settles O34: the eighth overcurrent measurement, a short of a host's load, of the driving motor, and of each unit's load. -/
theorem tripsSwitchOffAndFault : Obligations.TripsSwitchOffAndFault := by
  refine ⟨?_, ?_, ?_, ?_⟩
  · intro s m raw p c r ma ho hrun hz hthrough hon hover h7 hl hi hc hg hf
    obtain ⟨t, x, he, hp, ht⟩ := overcurrent_trips (ma := ma) rfl ho hrun hz hthrough hon hover h7 hl hi hc hg hf
    have hload (l : LoadId) := Part.load_of_traced ht l
    have hchan (l : LoadId) := Part.chan_of_traced ht l
    have hat : t.part.chan c = r.overtripped p ma x := by
      rw [hchan, Part.setLoad_chan_read, Part.chan_setChan]
    refine ⟨t, he, hp, by rw [hat]; rfl, by rw [hat]; rfl, by rw [hat]; rfl, by rw [hat]; rfl, by rw [hat]; rfl, by rw [hat]; rfl,
      by rw [hload, Part.load_setLoad], by rw [hload, Part.load_setLoad], fun c' hne => ?_, fun l hne => ?_,
      (Part.params_of_traced ht).trans rfl, (Part.bnk_of_traced ht).trans rfl, (Part.mot_of_traced ht).trans rfl⟩
    · rw [hchan, Part.setLoad_chan_read, Part.chan_setChan_of_ne _ _ hne]
    · rw [hload, Part.load_setLoad_of_ne _ _ hne, Part.setChan_load_read]
  · intro s c ho p r
    refine ⟨short_left ho, fun hon hl hc hg he hload => ?_⟩
    intro _ _ q
    have hq : p.shorted c = q := Part.shorted_eq hon
    rw [← hq]
    exact hostShort_leads ho ⟨hon, hl, he, hload⟩ hc hg
  · intro s m ho ha hp p c hstage hon hl hload
    have hd : m.driving = true := by
      rcases hstage with h | h <;> simp only [Motion.driving, h] <;> rfl
    obtain ⟨t, he, hpend, hend⟩ := motorShort_ends ho ha hp hd hon hl hload
    have hl' (l : LoadId) : t.part.load l = _ := Part.load_of_traced hend.kept l
    have hc' (l : LoadId) : t.part.chan l = _ := Part.chan_of_traced hend.kept l
    have hat : t.part.chan c = (p.chan c).tripped .short := by
      rw [hc']
      exact Part.chan_setChan ..
    rw [Channel.tripped, if_neg (by rw [hon]; decide)] at hat
    refine ⟨t, he, hpend, by rw [hat], by rw [hat]; rfl, ?_, hend.active, hend.state, hend.lastResult, hend.bridge, hend.dead,
      hend.tick, hend.timeout, fun c' hne => ?_, fun l hne => ?_, (Part.params_of_traced hend.kept).trans rfl,
      (Part.bnk_of_traced hend.kept).trans rfl, (Part.lux_of_traced hend.kept).trans rfl⟩
    · rw [hl']
      exact congrArg LoadRec.state (Part.load_setLoad ..)
    · rw [hc']
      exact Part.chan_setChan_of_ne _ _ hne
    · rw [hl']
      exact Part.load_setLoad_of_ne _ _ hne
  · intro s c ho p r tripped faulted q₀ q ends hon hl he hload
    have hs : p.Shortable c := ⟨hon, hl, he, hload⟩
    have hq : p.shorted c = q := Part.shorted_eq hon
    rw [← hq]
    refine ⟨fun i hi => ?_, pumpShort_leads ho hs, fun hc hr => heaterShort_leads ho hs hc hr rfl,
      fun hc hr => ⟨padShort_leads_of_service ho hs hc hr, fun hm => padShort_leads ho hs hc hr hm rfl⟩,
      fun hc hr => ⟨valveShort_of_dumped ho hs hc hr, fun hg => ?_⟩⟩
    · have hlight := lightShort_leads ho hs (Fin.ext hi)
      rw [Part.shorted_chan hon] at hlight
      exact hlight
    · obtain ⟨x, k, he, hwork, hk, hd⟩ := valveShort_dumps ho hs hc hr hg
      obtain ⟨hl, hch⟩ := hd.valve c (Part.noticed_dead hon hc hr)
      refine ⟨_, he, rfl, hd.guard, hd.risk, hd.unknown, hd.dumped, hd.request, hch.trans (Part.noticed_chan hon),
        hl.trans (p.noticed_load c), fun hears => ?_, hwork.params, hwork.bnk, hwork.mdc⟩
      have hlnk := Part.noticed_lnk hears c
      obtain ⟨data, hn⟩ := hd.notice (by rw [hlnk]; exact hears.2.1)
        (by rw [(p.noticed_work c).params]; exact Part.Hears.enabled hears)
      rw [Part.noticed_clm] at hn
      refine ⟨data, ?_⟩
      rw [← hn]
      exact congrArg Lnk.notices (hk hears.1)

end Sys2Proof.Machine
end

section
/-! PROOFS. What the blocks' work leaves of the readings and of the zero calibration: settings, banks, the pass count of the
calibration, of every channel its zero offset, its sums and its last reading, of every load its measured draw (`Part.Metered`).
Each operation has one lemma, which follows its definition. -/

namespace Sys2Proof.Machine

/-! ### The frame -/

/-- What a measurement and the zero calibration leave in a channel (R79, R84, R86). -/
def Channel.meter (r : Channel) := (r.zero, r.zeroSat, r.last, r.fresh, r.calSum, r.calTakes)

/-- What a measurement report leaves in a load (R47). -/
def LoadRec.meter (r : LoadRec) := (r.measured, r.fresh)

/-- The fields that the frame is about, as one tuple. -/
def Part.meters (p : Part) :=
  (p.params, p.bnk, p.out.zeroPass, p.out.channels.map Channel.meter, p.ldm.loads.map LoadRec.meter)

/-- The parts on which the blocks' work starting from `r` can arrive, as far as these fields go. -/
def Part.Metered (r p : Part) : Prop := p.meters = r.meters

namespace Part.Metered

variable {r p q : Part}

theorem refl (p : Part) : p.Metered p := rfl

/-- A change of the other fields alone. -/
theorem other (h : r.Metered p) (e : q.meters = p.meters) : r.Metered q := e.trans h

theorem params (h : r.Metered p) : p.params = r.params := congrArg (fun x => x.1) h

theorem bnk (h : r.Metered p) : p.bnk = r.bnk := congrArg (fun x => x.2.1) h

theorem zeroPass (h : r.Metered p) : p.out.zeroPass = r.out.zeroPass := congrArg (fun x => x.2.2.1) h

theorem chan (h : r.Metered p) (c : LoadId) : (p.chan c).meter = (r.chan c).meter := by
  have hc := congrArg (fun x => x.2.2.2.1[c]) h
  simpa [Part.meters, Part.chan] using hc

theorem load (h : r.Metered p) (l : LoadId) : (p.load l).meter = (r.load l).meter := by
  have hl := congrArg (fun x => x.2.2.2.2[l]) h
  simpa [Part.meters, Part.load] using hl

/-! ### One record of a block, one notice -/

theorem setLoad (h : r.Metered p) {l : LoadId} {x : LoadRec} (hx : x.meter = (p.load l).meter) : r.Metered (p.setLoad l x) := by
  refine h.other ?_
  have hl : (p.ldm.loads.map LoadRec.meter).set l x.meter = p.ldm.loads.map LoadRec.meter := by
    rw [hx]
    simp [Part.load, Vector.ext_iff, Vector.getElem_set]
    rintro i hi rfl
    rfl
  simp only [Part.meters, Part.setLoad, Vector.map_set, hl]

theorem setChan (h : r.Metered p) {c : LoadId} {x : Channel} (hx : x.meter = (p.chan c).meter) : r.Metered (p.setChan c x) := by
  refine h.other ?_
  have hc : (p.out.channels.map Channel.meter).set c x.meter = p.out.channels.map Channel.meter := by
    rw [hx]
    simp [Part.chan, Vector.ext_iff, Vector.getElem_set]
    rintro i hi rfl
    rfl
  simp only [Part.meters, Part.setChan, Vector.map_set, hc]

theorem setBus (h : r.Metered p) (b : BusName) (x : BusRec) : r.Metered (p.setBus b x) := by cases b <;> exact h.other rfl

theorem setTank (h : r.Metered p) (t : Tank) (x : TankRec) : r.Metered (p.setTank t x) := by cases t <;> exact h.other rfl

theorem setAxis (h : r.Metered p) (a : Axis) (x : AxisRec) : r.Metered (p.setAxis a x) := by cases a <;> exact h.other rfl

theorem setLight (h : r.Metered p) (c : LightId) (x : LightRec) : r.Metered (p.setLight c x) := h.other rfl

theorem setLine (h : r.Metered p) (s : LineId) (x : LineRec) : r.Metered (p.setLine s x) := h.other rfl

theorem setChg (h : r.Metered p) (c : Chg) : r.Metered { p with chg := c } := h.other rfl

theorem setSli (h : r.Metered p) (x : Sli) : r.Metered { p with sli := x } := h.other rfl

theorem setWat (h : r.Metered p) (w : Wat) : r.Metered { p with wat := w } := h.other rfl

theorem setClm (h : r.Metered p) (c : Clm) : r.Metered { p with clm := c } := h.other rfl

theorem setMot (h : r.Metered p) (m : Mot) : r.Metered { p with mot := m } := h.other rfl

theorem setMdc (h : r.Metered p) (m : Mdc) : r.Metered { p with mdc := m } := h.other rfl

theorem setLnk (h : r.Metered p) (k : Lnk) : r.Metered { p with lnk := k } := h.other rfl

theorem setOutbox (h : r.Metered p) (xs : List Report) : r.Metered { p with outbox := xs } := h.other rfl

theorem report (h : r.Metered p) (x : Report) : r.Metered (p.report x) := h.setOutbox _

theorem post (h : r.Metered p) (k : NoticeKind) (n : Nat) (d : List Byte) : r.Metered (p.post k n d) := by
  obtain ⟨_, _, e, _⟩ := p.post_cases k n d
  exact e ▸ h.setLnk _

theorem postLoad (h : r.Metered p) (l : LoadId) (c : LoadCause) : r.Metered (p.postLoad l c) := h.post ..

theorem postDepth (h : r.Metered p) (b : BusName) : r.Metered (p.postDepth b) := h.post ..

theorem postMotion (h : r.Metered p) (a : Axis) (x : MotionResult) : r.Metered (p.postMotion a x) := h.post ..

/-! ### The outputs (R78 to R83, R92) -/

theorem arbiter (h : r.Metered p) : r.Metered p.arbiter := by
  have hgrant (q : Part) (c : LoadId) (src : MeasureSource) (host : Bool) (hq : r.Metered q) : r.Metered (q.grant c src host) :=
    hq.other rfl
  have hsweep : r.Metered p.grantSweep := by
    unfold Part.grantSweep; split
    · exact h
    · exact hgrant _ _ _ _ h
  unfold Part.arbiter; split
  · exact h
  · split
    · exact hsweep
    · split
      · exact hgrant _ _ _ _ (h.other rfl)
      · split
        · exact hgrant _ _ _ _ (h.other rfl)
        · exact hsweep

theorem postCheck (h : r.Metered p) (c : LoadId) : r.Metered (p.postCheck c) := by
  unfold Part.postCheck; split
  · exact h
  · exact arbiter (h.other rfl)

theorem setSwitching (h : r.Metered p) (c : LoadId) (w : Switching) : r.Metered (p.setSwitching c w) :=
  (h.setChan (x := { p.chan c with switching := w }) rfl).other rfl

theorem orderOff (h : r.Metered p) (c : LoadId) : r.Metered (p.orderOff c) := by
  unfold Part.orderOff; split
  · exact (h.setSwitching c .off).setChan rfl
  · exact h

theorem orderOn (h : r.Metered p) (c : LoadId) : r.Metered (p.orderOn c) := by
  have hon (x : Channel) : (x.switchedOn c).meter = x.meter := by unfold Channel.switchedOn; split <;> rfl
  unfold Part.orderOn; split
  · exact h
  · exact h.report _
  · exact ((h.setSwitching c .on).setChan (hon _)).postCheck c

theorem latchOnly (h : r.Metered p) (c : LoadId) (x : OutCause) : r.Metered (p.latchOnly c x) := by
  unfold Part.latchOnly; split
  · exact h
  · exact (h.setChan (x := { p.chan c with latched := (p.chan c).latched.add x }) rfl).post ..

/-! ### The lights over their outputs (R179 to R182) -/

theorem setPresent (h : r.Metered p) (c : LightId) (n : Nat) : r.Metered (p.setPresent c n) := by
  unfold Part.setPresent; dsimp only; split
  · exact h.setLight c _
  · exact (h.setLight c _).setChan rfl

theorem lightOn (h : r.Metered p) (c : LightId) : r.Metered (p.lightOn c) := by
  unfold Part.lightOn; split
  · exact h
  · exact h.orderOn _

theorem lightOff (h : r.Metered p) (c : LightId) : r.Metered (p.lightOff c) := by
  unfold Part.lightOff; split
  · exact h
  · exact h.orderOff _

theorem endFade (h : r.Metered p) (c : LightId) : r.Metered (p.endFade c) := by
  unfold Part.endFade; dsimp only; split
  · exact (h.setLight c _).lightOff c
  · exact h.setLight c _

theorem startFade (h : r.Metered p) (c : LightId) (fadeEnd time : Nat) : r.Metered (p.startFade c fadeEnd time) := by
  have hq := h.setLight c { p.light c with fadeEnd := fadeEnd }
  have hlit (q : Part) (hq : r.Metered q) : r.Metered (if time = 0 ∨ fadeDistance fadeEnd (q.light c).present = 0
      then (q.setPresent c fadeEnd).endFade c else q.setLight c { q.light c with
        fadeStep := some (ceilDiv (fadeDistance fadeEnd (q.light c).present * 10) time), tick := some 10 }) := by
    split
    · exact (hq.setPresent c _).endFade c
    · exact hq.setLight c _
  unfold Part.startFade; dsimp only; split
  · exact hlit _ (hq.lightOn c)
  · exact hlit _ hq

theorem darken (h : r.Metered p) (c : LightId) : r.Metered (p.darken c) := (h.setPresent c 0).setLight c _

theorem lightReport (h : r.Metered p) (c : LightId) (x : OwnerReport) : r.Metered (p.lightReport c x) := by
  cases x with
  | restored | shed => exact h.startFade c _ _
  | off => exact (h.darken c).lightOff c
  | faulted | exercised => exact h.darken c
  | released => exact h.setChan rfl
  | cut | cleared => exact h

/-! ### Reports to the owners of loads (R58) -/

theorem setPad (h : r.Metered p) (st : PadState) : r.Metered (p.setPad st) := by
  unfold Part.setPad; dsimp only; split
  · exact h.setChg _
  · exact (h.setChg _).post ..

theorem setHeater (h : r.Metered p) (x : HeaterState) : r.Metered (p.setHeater x) := by
  unfold Part.setHeater; dsimp only; split
  · exact h.setClm _
  · exact (h.setClm _).post ..

theorem heaterRunning (h : r.Metered p) : r.Metered p.heaterRunning := (h.setClm _).setHeater .running

theorem heaterEnded (h : r.Metered p) : r.Metered p.heaterEnded := by
  unfold Part.heaterEnded; split
  · exact h.setClm _
  · exact h

theorem heaterReport (h : r.Metered p) (x : OwnerReport) : r.Metered (p.heaterReport x) := by
  cases x with
  | restored => exact h.heaterRunning
  | shed | cleared => exact h.setHeater _
  | off | faulted => exact h.heaterEnded.setHeater _
  | cut | exercised | released => exact h

theorem pumpReport (h : r.Metered p) (x : OwnerReport) : r.Metered (p.pumpReport x) := by cases x <;> exact h.other rfl

theorem padReport (h : r.Metered p) (x : OwnerReport) : r.Metered (p.padReport x) := by
  unfold Part.padReport; split
  · exact h
  · cases x with
    | restored | shed | faulted => exact h.setPad _
    | off =>
      dsimp only; split
      · exact h.setPad _
      · exact h.setPad _
      · exact h
    | cleared => exact h.report _
    | cut | exercised | released => exact h

theorem tellOwner (h : r.Metered p) (l : LoadId) (x : OwnerReport) : r.Metered (p.tellOwner l x) := by
  unfold Part.tellOwner; split
  · exact h.lightReport _ x
  · split
    · cases x <;> exact h.other rfl
    · split
      · exact h.pumpReport x
      · exact h.heaterReport x
      · cases x <;> exact h.other rfl
      · exact h.padReport x
      · exact h

/-! ### The Load Manager (R50 to R69) -/

theorem depthJudge (h : r.Metered p) (b : BusName) : r.Metered (p.depthJudge b) := by
  rcases p.depthJudge_cases b with ⟨e, _⟩ | ⟨e, _⟩ | ⟨e, _⟩ <;> rw [e]
  · exact h
  · exact (h.setBus b _).postDepth b
  · exact h.setBus b _

theorem leave (h : r.Metered p) (l : LoadId) : r.Metered (p.leave l) := by
  unfold Part.leave; split
  · exact h.setBus _ _
  · exact (h.setBus _ _).depthJudge _
  · exact h

theorem setLoadState (h : r.Metered p) (l : LoadId) (st : LoadState) : r.Metered (p.setLoadState l st) := h.setLoad rfl

theorem ldmOff (h : r.Metered p) (l : LoadId) : r.Metered (p.ldmOff l) := by
  rcases p.ldmOff_cases l with e | e <;> rw [e]
  · exact h
  · exact h.orderOff l

theorem ldmOn (h : r.Metered p) (l : LoadId) : r.Metered (p.ldmOn l) := by
  rcases p.ldmOn_cases l with e | e <;> rw [e]
  · exact h
  · exact h.orderOn l

theorem shed (h : r.Metered p) (b : BusName) (c : ShedCause) (l : LoadId) : r.Metered (p.shed b c l) :=
  ((((((h.setBus b _).setLoadState l .shed).setBus b _).ldmOff l).tellOwner l _).postLoad l _).depthJudge b

theorem shedAll (h : r.Metered p) (b : BusName) (c : ShedCause) (ls : List LoadId) : r.Metered (p.shedAll b c ls) := by
  induction ls generalizing p with
  | nil => exact h
  | cons l ls ih => exact ih (h.shed b c l)

theorem shedToFit (h : r.Metered p) (b : BusName) (ls : List LoadId) : r.Metered (p.shedToFit b ls) := by
  obtain ⟨k, _, e, _⟩ := p.shedToFit_stages b ls
  exact e ▸ h.shedAll b _ _

theorem motorCut (h : r.Metered p) (b : BusName) (extra : Nat) : r.Metered (p.motorCut b extra) := by
  unfold Part.motorCut; split
  · split
    · exact ((((h.setBus b _).setLoadState _ .off).orderOff _).tellOwner _ .cut).postLoad _ .cut
    · exact h
  · exact h

theorem overloadCheck (h : r.Metered p) (b : BusName) : r.Metered (p.overloadCheck b) := (h.shedToFit b _).motorCut b 0

theorem threeChecks (h : r.Metered p) (b : BusName) : r.Metered (p.threeChecks b) := by
  have hfloor (q : Part) (hq : r.Metered q) : r.Metered (q.floorCheck b) := (hq.shedAll b _ _).motorCut b 0
  unfold Part.threeChecks; dsimp only; split
  · exact (hfloor _ ((h.shedAll b _ _).motorCut b 0)).overloadCheck b
  · exact (hfloor _ h).overloadCheck b

theorem makeRoom (h : r.Metered p) (l : LoadId) (cls draw : Nat) : r.Metered (p.makeRoom l cls draw).1 := by
  unfold Part.makeRoom; dsimp only; split
  · exact h
  · split
    · exact h.shedAll _ _ _
    · split
      · exact (h.shedAll _ _ _).motorCut _ _
      · exact h

theorem turnOn (h : r.Metered p) (l : LoadId) (m : Option Nat) : r.Metered (p.turnOn l m) :=
  ((h.setLoad (x := { p.load l with state := .on, admittedAt := p.uptime, motorClass := m }) rfl).setBus _ _).ldmOn l

theorem admitLoad (h : r.Metered p) (l : LoadId) (m : Option Nat) : r.Metered (p.admitLoad l m) :=
  (h.turnOn l m).postLoad l .admitted

theorem demand (h : r.Metered p) (l : LoadId) (m : Option Nat) : r.Metered (p.demand l m).1 := by
  have hr (cls draw : Nat) := h.makeRoom l cls draw
  unfold Part.demand; dsimp only; split
  · exact h
  · split
    · exact h
    · exact h
    · split
      · exact (hr _ _).admitLoad l m
      · exact hr _ _

theorem setWantedLevel (h : r.Metered p) (l : LoadId) (n : Nat) : r.Metered (p.setWantedLevel l n) := h.setLoad rfl

theorem lightDemand (h : r.Metered p) (c : LightId) (n : Nat) : r.Metered (p.lightDemand c n).1 := by
  have hr (cls draw : Nat) := h.makeRoom (lightLoad c) cls draw
  unfold Part.lightDemand; dsimp only; split
  · exact h
  · split
    · exact h.setWantedLevel _ n
    · split
      · exact h.setWantedLevel _ n
      · split
        · exact (hr _ _).setWantedLevel _ n
        · exact hr _ _
    · split
      · exact ((hr _ _).setWantedLevel _ n).admitLoad _ none
      · exact hr _ _

theorem wantedOff (h : r.Metered p) (l : LoadId) : r.Metered (p.wantedOff l) := by
  unfold Part.wantedOff; split
  · exact (((h.leave l).setLoadState l .off).ldmOff l).postLoad l .off
  · exact h

theorem loadTrip (h : r.Metered p) (l : LoadId) : r.Metered (p.loadTrip l) := by
  unfold Part.loadTrip; split
  · exact h
  · exact (((h.leave l).setLoadState l .faulted).tellOwner l .faulted).postLoad l .faulted

theorem trip (h : r.Metered p) (c : LoadId) (x : OutCause) : r.Metered (p.trip c x) := by
  have hrec : ((p.chan c).tripped x).meter = ((p.setSwitching c .tripped).chan c).meter := by
    rw [Part.setSwitching_chan]
    unfold Channel.tripped
    split <;> rfl
  have hshut := (h.setSwitching c .tripped).setChan hrec
  have hend (q : Part) (hq : r.Metered q) : r.Metered (q.endExerciseOf c) := by
    unfold Part.endExerciseOf; split
    · exact hq.other rfl
    · exact hq
  unfold Part.trip; dsimp only; split
  · exact h
  · split
    · exact hshut.post ..
    · exact ((hend _ hshut).loadTrip c).post ..

theorem promoteLoad (h : r.Metered p) (l : LoadId) : r.Metered (p.promoteLoad l) := by
  have hq := (h.setLoad (l := l) (x := { p.load l with promoted := true }) rfl).postLoad l .promoted
  unfold Part.promoteLoad; dsimp only; split
  · exact (((((hq.leave l).setLoadState l .off).makeRoom l 1 _).turnOn l none).tellOwner l .restored).postLoad l .restored
  · exact hq

theorem demoteLoad (h : r.Metered p) (l : LoadId) : r.Metered (p.demoteLoad l) := by
  have hq := (h.setLoad (l := l) (x := { p.load l with promoted := false }) rfl).postLoad l .demoted
  unfold Part.demoteLoad; dsimp only; split
  · exact (((((hq.leave l).setLoadState l .off).ldmOff l).tellOwner l .off).postLoad l .off).threeChecks _
  · exact hq.threeChecks _

theorem ldmModeEntry (h : r.Metered p) (m : Mode) : r.Metered (p.ldmModeEntry m) := by
  have hoff (ls : List LoadId) : r.Metered (ls.foldl Part.entryOff p) := by
    induction ls generalizing p with
    | nil => exact h
    | cons l ls ih =>
      refine ih ?_
      unfold Part.entryOff; split
      · exact (((h.leave l).setLoadState l .off).ldmOff l).tellOwner l .off
      · exact h
  unfold Part.ldmModeEntry; split
  · exact hoff _
  · exact hoff _
  · exact h

/-! ### Charge Control (R27 to R36) -/

theorem padJudge (h : r.Metered p) : r.Metered p.padJudge := by
  have hdemand (l : LoadId) : r.Metered (p.demandPad l) := (h.demand l none).setPad _
  have hdrop (l : LoadId) : r.Metered (p.dropPad l) := (h.wantedOff l).setPad _
  unfold Part.padJudge; split
  · exact h
  · split
    · split
      · exact hdemand _
      · exact h
    · split
      · exact hdrop _
      · exact hdrop _
      · exact hdrop _
      · exact h

theorem padFaultCleared (h : r.Metered p) : r.Metered p.padFaultCleared := by
  unfold Part.padFaultCleared; split
  · exact (h.setPad .idle).padJudge
  · exact h.padJudge

theorem sources (h : r.Metered p) (x : ChargeCause) : r.Metered (p.sourcesOff x) ∧ r.Metered (p.sourcesOn x) := by
  have hshore (q : Part) (hq : r.Metered q) : r.Metered (q.evalShore x) := by
    unfold Part.evalShore; dsimp only; split
    · exact hq
    · exact (hq.setChg _).post ..
  have hsolar (q : Part) (hq : r.Metered q) : r.Metered (q.evalSolar x) := by
    unfold Part.evalSolar; dsimp only; split
    · exact hq
    · exact (hq.setChg _).post ..
  have hboth := hsolar _ (hshore p h)
  constructor
  · unfold Part.sourcesOff Part.openSplit; split
    · exact (hboth.setChg _).post ..
    · exact hboth
  · unfold Part.sourcesOn Part.evalSplitClose; split
    · exact (hboth.setChg _).post ..
    · exact hboth

theorem inhibitJudge (h : r.Metered p) : r.Metered p.inhibitJudge := by
  unfold Part.inhibitJudge; dsimp only; split
  · exact h
  · split
    · exact (sources ((h.setChg _).post ..) .cold).1
    · exact (sources ((h.setChg _).post ..) .cold).2

theorem battTempJudge (h : r.Metered p) : r.Metered p.battTempJudge := (h.setChg _).inhibitJudge.padJudge

theorem chgModeEntry (h : r.Metered p) : r.Metered p.chgModeEntry := by
  unfold Part.chgModeEntry; dsimp only; split
  · exact ((h.setChg _).inhibitJudge.setPad .idle).padJudge
  · exact (h.setChg _).inhibitJudge.padJudge

/-! ### Water (R131, R134) -/

theorem watDumped (h : r.Metered p) : r.Metered p.watDumped := by
  have hdrop (q : Part) (hq : r.Metered q) : r.Metered q.dropPump := by
    unfold Part.dropPump; dsimp only; split
    · exact hq.setWat _
    · split
      · exact (hq.setWat _).wantedOff _
      · exact (hq.setWat _).wantedOff _
      · exact hq.setWat _
  unfold Part.watDumped; dsimp only; split
  · exact (hdrop _ (h.setWat _)).post ..
  · exact (h.setWat _).post ..

theorem holdTank (h : r.Metered p) (t : Tank) : r.Metered (p.holdTank t) := by
  unfold Part.holdTank; split
  · exact h.setTank t _
  · exact h

/-! ### The thermostat and the frost guard (R143 to R160) -/

theorem heaterJudge (h : r.Metered p) : r.Metered p.heaterJudge := by
  have hdemand (q : Part) (hq : r.Metered q) (l : LoadId) : r.Metered (q.demandHeater l) := by
    have hd := hq.demand l none
    unfold Part.demandHeater; dsimp only; split
    · exact hd.heaterRunning
    · exact hd.setHeater _
    · exact hd.setHeater _
    · exact hd.setHeater _
  have hdrop (q : Part) (hq : r.Metered q) (l : LoadId) : r.Metered (q.dropHeater l) :=
    (hq.wantedOff l).heaterEnded.setHeater .idle
  have hq : r.Metered (({ p with clm := { p.clm with heatWanted := p.wantsHeat } } : Part).setHeld .none) := h.setClm _
  unfold Part.heaterJudge; dsimp only
  generalize ({ p with clm := { p.clm with heatWanted := p.wantsHeat } } : Part).setHeld .none = q at hq
  have hheld (x : Held) : r.Metered (q.setHeld x) := hq.setClm _
  have hstart (l : LoadId) (c : Prop) [Decidable c] : r.Metered (if c then q.setHeld .heldOff else q.demandHeater l) := by
    split
    · exact hheld _
    · exact hdemand q hq l
  have hstop (l : LoadId) (c : Prop) [Decidable c] : r.Metered (if c then q.setHeld .heldOn else q.dropHeater l) := by
    split
    · exact hheld _
    · exact hdrop q hq l
  split
  · exact h
  · split
    · exact hq
    · split
      · exact hq
      · exact hq
      · split
        · exact hstart _ _
        · exact hq
      · split
        · exact hstart _ _
        · exact hq.setHeater _
      · split
        · exact hq
        · exact hstop _ _
      · split
        · exact hq
        · exact hstop _ _

theorem promoteHeater (h : r.Metered p) : r.Metered p.promoteHeater := by
  unfold Part.promoteHeater; split
  · exact h
  · split
    · exact h
    · exact (h.promoteLoad _).post ..

theorem demoteHeater (h : r.Metered p) : r.Metered p.demoteHeater := by
  unfold Part.demoteHeater; split
  · exact h
  · split
    · exact (h.demoteLoad _).post ..
    · exact h

theorem enterWatch (h : r.Metered p) : r.Metered p.enterWatch := (h.setClm _).setClm _

theorem guardEnter (h : r.Metered p) (g : GuardState) : r.Metered (p.guardEnter g) := by
  unfold Part.guardEnter; split
  · exact (h.setClm _).promoteHeater.heaterJudge
  · dsimp only; split
    · exact (h.setClm _).demoteHeater.enterWatch.heaterJudge
    · exact h.enterWatch.heaterJudge
  · exact (h.setClm _).heaterJudge

theorem guardSettle (h : r.Metered p) : r.Metered p.guardSettle.1 := by
  have hloop (n : Nat) (c : Option FrostCause) : r.Metered (p.guardLoop n c).1 := by
    induction n generalizing p c with
    | zero => exact h
    | succ n ih =>
      unfold Part.guardLoop; split
      · exact h
      · exact ih (h.guardEnter _) _
  unfold Part.guardSettle; split
  · exact h
  · exact hloop 4 none

theorem postGuard (h : r.Metered p) (g : GuardState) (c : Option FrostCause) : r.Metered (p.postGuard g c) := by
  cases c with
  | none => exact h
  | some c => exact h.post ..

theorem valveTripped (h : r.Metered p) : r.Metered p.valveTripped := by
  have hdump (q : Part) (hq : r.Metered q) (c : Clm) (g : GuardState) :
      r.Metered ((({ q with clm := c } : Part).demoteHeater.heaterJudge.watDumped).postFrost g .valveFault) :=
    ((hq.setClm c).demoteHeater.heaterJudge.watDumped).post ..
  unfold Part.valveTripped; split
  · exact h
  · unfold Part.enterDumped; dsimp only; split
    · exact hdump _ (h.wantedOff _) _ _
    · exact hdump _ h _ _

theorem guardStart (h : r.Metered p) : r.Metered p.guardStart := by
  unfold Part.guardStart; split
  · exact h
  · exact h.enterWatch
  · exact h
  · unfold Part.guardDisable; dsimp only; split
    · exact (h.setClm _).demoteHeater.heaterJudge
    · exact (h.setClm _).heaterJudge
  · exact h

theorem bayJudge (h : r.Metered p) : r.Metered p.bayJudge := (h.setClm _).guardSettle.postGuard _ _

theorem clmModeEntry (h : r.Metered p) (before : Mode) : r.Metered (p.clmModeEntry before) := by
  have hstart (q : Part) (hq : r.Metered q) : r.Metered q.clmStart := by
    have heval (e : Part) (he : r.Metered e) : r.Metered e.evaluateThermostat := ((he.setClm _).setClm _).heaterJudge
    unfold Part.clmStart; dsimp only; split
    · exact heval _ (hq.guardStart.promoteHeater.guardSettle.postGuard _ _)
    · exact heval _ (hq.guardStart.guardSettle.postGuard _ _)
  unfold Part.clmModeEntry; dsimp only; split
  · exact hstart _ (((h.setClm _).setClm _).setClm _)
  · exact ((h.setClm _).setClm _).bayJudge

/-! ### Motion (R164 to R178) -/

theorem setAxisState (h : r.Metered p) (a : Axis) (st : AxisState) : r.Metered (p.setAxisState a st) := by
  unfold Part.setAxisState; dsimp only; split
  · exact (h.setAxis a _).report _
  · exact h.setAxis a _

theorem stopDrive (h : r.Metered p) (m : Motion) : r.Metered (p.stopDrive m) := by
  have hform : r.Metered (p.formPosition m) := by
    unfold Part.formPosition Part.setPosition; split
    · split
      · exact h.setAxis _ _
      · exact h
    · exact h
  exact (hform.orderOff _).setMot _

theorem endCore (h : r.Metered p) (m : Motion) (x : MotionResult) : r.Metered (p.endCore m x) := by
  unfold Part.endCore Part.endAs; dsimp only; split
  · exact (((((h.stopDrive m).setMot _).setAxisState _ _).wantedOff _).setAxis _ _).postMotion _ x
  · exact ((((h.setMot _).setAxisState _ _).wantedOff _).setAxis _ _).postMotion _ x

theorem restated (h : r.Metered p) (a : Axis) : r.Metered (p.restated a) := by
  rcases p.restated_cases a with e | ⟨_, x, e⟩ <;> rw [e]
  · exact h
  · exact h.postMotion a x

theorem startCore (h : r.Metered p) (m : Motion) : r.Metered (p.startCore m) := by
  unfold Part.startCore; dsimp only; split
  · exact h.endCore m _
  · split
    · exact h.endCore m _
    · exact (((h.setMot _).orderOn _).setMot _).setAxis _ _

theorem startWaiting (h : r.Metered p) : r.Metered p.startWaiting := by
  unfold Part.startWaiting; split
  · split
    · exact h.startCore _
    · exact h
  · exact h

theorem demandMotion (h : r.Metered p) (a : Axis) (d : Direction) (target : Option Nat) :
    r.Metered (p.demandMotion a d target).1 := by
  have hd := h.demand (motorOf a) (some (motionClass a d))
  unfold Part.demandMotion; dsimp only; split
  · exact ((hd.setMot _).setAxisState a _).startWaiting
  · exact hd

theorem takePending (h : r.Metered p) : r.Metered p.takePending := by
  unfold Part.takePending; split
  · have hq := h.setMot { p.mot with pend := none }
    dsimp only; split
    · exact hq.postMotion _ _
    · split
      · exact hq.demandMotion _ _ _
      · exact (hq.demandMotion _ _ _).postMotion _ _
  · exact h

theorem endMotion (h : r.Metered p) (m : Motion) (x : MotionResult) : r.Metered (p.endMotion m x) :=
  ((h.endCore m x).takePending).restated _

theorem driveOffDemand (h : r.Metered p) (a : Axis) : r.Metered (p.driveOffDemand a).1 := by
  unfold Part.driveOffDemand; dsimp only; split
  · exact h.postMotion a _
  · split
    · exact h.demandMotion _ _ _
    · exact (h.demandMotion _ _ _).postMotion a _

theorem driveOffStep (h : r.Metered p) : r.Metered p.driveOffStep.1 := by
  unfold Part.driveOffStep; split
  · exact h
  · split
    · split
      · exact h
      · exact ((h.endCore _ _).driveOffDemand _).restated _
    · exact h.driveOffDemand _

theorem driveOffAwning (h : r.Metered p) : r.Metered p.driveOffAwning.1 := by
  have hplace (x : PendingMove) : r.Metered (p.placePending x) := by
    unfold Part.placePending; dsimp only; split
    · exact (h.setMot _).postMotion _ _
    · exact h.setMot _
  unfold Part.driveOffAwning; split
  · exact h
  · split
    · split
      · dsimp only; split
        · exact h
        · exact hplace _
      · split
        · exact h
        · exact ((h.endCore _ _).driveOffDemand _).restated _
    · exact h.driveOffDemand _

theorem motModeEntry (h : r.Metered p) (before after : Mode) : r.Metered (p.motModeEntry before after) := by
  have hoff (c : DriveOffCause) : r.Metered (p.driveOff c) := by
    have hrest (q : Part) (hq : r.Metered q) (a : Option Axis) : r.Metered (q.restatedOf a) := by
      cases a with
      | none => exact hq
      | some a => exact hq.restated a
    unfold Part.driveOff; split
    · exact h
    · exact (hrest _ h.driveOffStep.driveOffAwning.takePending _).post ..
  unfold Part.motModeEntry; split
  · split
    · exact h
    · exact hoff _
  · split
    · split
      · exact (h.setMot _).postMotion _ _
      · exact h
    · exact h

/-! ### The courtesy light (R185) -/

theorem courtesyStep (h : r.Metered p) : r.Metered p.courtesyStep := by
  have hlevel (c : LightId) (level fade : Nat) : r.Metered (p.levelDemand c level fade).1 := by
    have hd := h.lightDemand c level
    unfold Part.levelDemand; dsimp only; split
    · exact h
    · split
      · split
        · exact ((h.wantedOff _).setLight c _).startFade c 0 fade
        · exact h
      · split
        · exact (hd.setLight c _).startFade c level fade
        · exact hd.setLight c _
        · exact hd
  unfold Part.courtesyStep; split
  · exact h
  · dsimp only; split
    · exact h
    · split
      · exact h.setLight _ _
      · split
        · exact h
        · split
          · exact (hlevel _ _ _).setLight _ _
          · exact hlevel _ _ _

/-! ### The delivery of reports, and the end of an event (log 6) -/

theorem takeReport (h : r.Metered p) (x : Report) : r.Metered (p.takeReport x) := by
  have hmotor (a : Axis) (m : MotionResult) : r.Metered (p.motorReported a m) := by
    unfold Part.motorReported; split
    · split
      · exact h.endMotion _ m
      · exact h
    · exact h
  cases x with
  | motorCut a | motorFaulted a => exact hmotor a _
  | valveFaulted => exact h.valveTripped
  | padCleared => exact h.padFaultCleared
  | tripped l => exact h.loadTrip l
  | stepExtended => exact h.courtesyStep

theorem delivered (h : r.Metered p) : r.Metered p.delivered := by
  have hdeliver (n : Nat) : r.Metered (p.deliver n) := by
    induction n generalizing p with
    | zero => exact h.setOutbox []
    | succ n ih =>
      unfold Part.deliver; split
      · exact h
      · exact ih ((h.setOutbox _).takeReport _)
  exact hdeliver 64

theorem finish (h : r.Metered p) : r.Metered p.finish := by
  obtain ⟨k, e⟩ := p.delivered.dryCheck.transmit_only_link
  rw [Part.finish, e]
  refine setLnk ?_ k
  rcases p.delivered.dryCheck_cases with ⟨_, e⟩ | ⟨_, e⟩ <;> rw [e]
  · exact h.delivered
  · exact h.delivered.setWat _

/-! ### The lines and the outputs at a change of the mode (R122, R123, R83) -/

theorem handSupply (h : r.Metered p) (s : LineId) : r.Metered (p.handSupply s) := by
  unfold Part.handSupply; dsimp only; split
  · split
    · exact h.holdTank .fresh
    · exact h
  · split
    · exact h.holdTank .grey
    · exact h
  · exact h.setClm _
  · exact h.bayJudge
  · exact h.battTempJudge
  · exact h

theorem handNodata (h : r.Metered p) (s : LineId) : r.Metered (p.handNodata s) := by
  unfold Part.handNodata; split
  · split
    · exact h.holdTank .fresh
    · exact h
  · split
    · exact h.holdTank .grey
    · exact h
  · exact h.setClm _
  · exact h.bayJudge
  · exact h

theorem foldl {f : Part → LineId → Part} (hf : ∀ p, r.Metered p → ∀ s, r.Metered (f p s)) (h : r.Metered p) (ls : List LineId) :
    r.Metered (ls.foldl f p) := by
  induction ls generalizing p with
  | nil => exact h
  | cons s ls ih => exact ih (hf p h s)

theorem sliModeEntry (h : r.Metered p) (before : Mode) : r.Metered (p.sliModeEntry before) := by
  have hsettle (q : Part) (hq : r.Metered q) (s : LineId) : r.Metered (q.settleLine s) := (hq.setLine s _).handSupply s
  have hstore (q : Part) (hq : r.Metered q) (s : LineId) : r.Metered (q.storageLine s) := by
    unfold Part.storageLine Part.openDuty; split
    · split
      · exact hsettle q hq s
      · exact hq
    · split
      · exact (hq.setLine s _).handSupply s
      · exact hq
  have hresume (q : Part) (hq : r.Metered q) (s : LineId) : r.Metered (q.resumeLine s) := by
    unfold Part.resumeLine; split
    · exact hsettle q hq s
    · exact hq
  have hnodata (q : Part) (hq : r.Metered q) : r.Metered q.nodataJudge := by
    refine foldl (fun q hq s => ?_) hq _
    split
    · unfold Part.nodataAt; dsimp only; split
      · split
        · exact hq.setLine s _
        · exact (hq.setLine s _).handNodata s
      · exact hq
    · exact hq
  unfold Part.sliModeEntry; dsimp only; split
  · exact hnodata _ (foldl hstore (h.setSli _) _)
  · split
    · exact hnodata _ (foldl hresume (h.setSli _) _)
    · exact hnodata _ h

theorem outModeEntry (h : r.Metered p) (m : Mode) : r.Metered (p.outModeEntry m) := by
  unfold Part.outModeEntry; split
  · exact h.other rfl
  · exact arbiter (h.other rfl)

theorem setMode (h : r.Metered p) (after : Mode) (x : ModeCause) : r.Metered (p.setMode after x) :=
  ((((((((h.setMdc _).ldmModeEntry after).chgModeEntry.outModeEntry after).sliModeEntry _).clmModeEntry _).motModeEntry _
    after).delivered).setMdc _).post ..

end Part.Metered

end Sys2Proof.Machine
end

section
/-! PROOFS. The completion of a measurement (R80 to R89): the reading that is stored and what its counters call for, the Load Manager's
reading, the next grant of the converter, and what every completion leaves of the readings. -/

namespace Sys2Proof.Machine

/-! ### The reading and its counters (R84, R88, R89) -/

/-- The record of a channel with a reading stored and the counters moved. -/
def Part.reads (p : Part) (c : LoadId) (ma : Nat) (onThroughout : Bool) : Channel := { p.chan c with
  last := some ma, fresh := true, freshTimer := some (freshMs p.mdc.mode)
  overCount := (p.chan c).overCounted ma (p.params.tripCurrent c) onThroughout
  openCount := (p.chan c).openCounted ma (p.openLevel c) onThroughout }

theorem Part.storeReading_eq (p : Part) (c : LoadId) (ma : Nat) (onThroughout : Bool) :
    p.storeReading c ma onThroughout = p.setChan c (p.reads c ma onThroughout) := rfl

theorem Channel.overCounted_eq (r : Channel) (ma trip : Nat) (onThroughout : Bool) : r.overCounted ma trip onThroughout =
    if r.latched.overcurrent = true then r.overCount else if r.inrush.isSome = true then 0
    else if onThroughout = true ∧ trip < ma then min 8 (r.overCount + 1) else r.overCount - 1 := by
  simp only [Channel.overCounted, Bool.and_eq_true, decide_eq_true_eq]

/-- The part with the reading stored, and OPEN latched where the counter of low readings has reached it. -/
def Part.readAt (p : Part) (c : LoadId) (ma : Nat) (onThroughout : Bool) : Part :=
  let r := p.reads c ma onThroughout
  if 8 ≤ r.openCount ∧ r.latched.openLoad = false then
    (p.setChan c { r with latched := { r.latched with openLoad := true } }).postOutputFault c .openLoad
  else p.setChan c r

/-- Counters that call for no trip. -/
theorem Part.counterTrips_of_quiet {p : Part} {c : LoadId} {ma : Nat} {onThroughout : Bool}
    (h : (p.chan c).latched.overcurrent = true ∨ (p.reads c ma onThroughout).overCount < 8) :
    (p.storeReading c ma onThroughout).counterTrips c = p.readAt c ma onThroughout := by
  have hlatch : (if 8 ≤ ((p.storeReading c ma onThroughout).chan c).openCount
      then (p.storeReading c ma onThroughout).latchOnly c .openLoad else p.storeReading c ma onThroughout) =
        p.readAt c ma onThroughout := by
    rw [Part.storeReading_eq, Part.readAt, Part.chan_setChan, Part.latchOnly, Part.chan_setChan, Part.setChan_setChan]
    by_cases h8 : 8 ≤ (p.reads c ma onThroughout).openCount <;>
      cases hl : (p.reads c ma onThroughout).latched.openLoad <;> simp [h8, hl, OutLatches.has, OutLatches.add]
  have hchan : ∃ x : OutLatches, x.overcurrent = (p.chan c).latched.overcurrent ∧
      (p.readAt c ma onThroughout).chan c = { p.reads c ma onThroughout with latched := x } := by
    unfold Part.readAt
    dsimp only
    split
    · rw [Part.postOutputFault, Part.post_chan_read, Part.chan_setChan]
      exact ⟨{ (p.chan c).latched with openLoad := true }, rfl, rfl⟩
    · rw [Part.chan_setChan]
      exact ⟨(p.chan c).latched, rfl, rfl⟩
  obtain ⟨x, hx, hc⟩ := hchan
  rw [Part.counterTrips, hlatch, hc]
  split
  next h8 =>
    have hover : ((p.readAt c ma onThroughout).chan c).latched.has .overcurrent = true := by
      rw [hc]
      exact hx.trans (h.resolve_right (Nat.not_lt.2 h8))
    rw [Part.trip, if_pos hover]
  next => rfl

/-- Of the rest, a stored reading changes nothing but the queue of notices. -/
theorem Part.readAt_rest (p : Part) (c : LoadId) (ma : Nat) (onThroughout : Bool) : ∃ cs k,
    p.readAt c ma onThroughout = { p with out := { p.out with channels := cs }, lnk := k } ∧
      cs[c].switching = (p.chan c).switching := by
  unfold Part.readAt Part.postOutputFault Part.post
  dsimp only
  split
  · split <;> exact ⟨_, _, rfl, by simp [Part.reads]⟩
  · exact ⟨_, _, rfl, by simp [Part.reads]⟩

/-! ### The reading at the Load Manager (R47, R59) -/

/-- The part with a reading at the Load Manager. -/
def Part.drawn (p : Part) (l : LoadId) (ma : Nat) : Part := p.setLoad l { p.load l with measured := some ma, fresh := true }

theorem Part.drawn_committed (p : Part) (l : LoadId) (ma : Nat) :
    (p.drawn l ma).committed l = max (p.baseDrawAt l (p.load l).wantedLevel) ma := by
  unfold Part.committed Part.committedAt
  rw [Part.drawn, Part.load_setLoad]
  rfl

theorem Part.drawn_noMotor {p : Part} {b : BusName} (h : p.NoMotor b) (l : LoadId) (ma : Nat) : (p.drawn l ma).NoMotor b := by
  intro m hm
  by_cases e : m = l
  · subst e
    rw [Part.drawn, Part.load_setLoad]
    exact h m (Part.setLoad_bus_read .. ▸ hm)
  · rw [Part.drawn, Part.load_setLoad_of_ne _ _ e]
    exact h m (Part.setLoad_bus_read .. ▸ hm)

/-- An overload check of a bus below its limit and without a class-2 motor sheds nothing. -/
theorem Part.overloadCheck_of_fits {p : Part} {b : BusName} (h : p.committedSum b ≤ busLimitOf p.params b) (hm : p.NoMotor b) :
    p.overloadCheck b = p := by
  have hfit : ∀ ls, p.shedToFit b ls = p := fun ls => by
    cases ls with
    | nil => rfl
    | cons l ls => exact if_pos h
  rw [Part.overloadCheck, hfit, hm.motorCut]

/-- A reading that raises no committed draw, or whose bus still fits and has no class-2 motor. -/
def Part.Quiet (p : Part) (l : LoadId) (ma : Nat) : Prop := (p.load l).state = .on →
  ma ≤ p.committed l ∨ (p.drawn l ma).committedSum (p.busOf l) ≤ busLimitOf p.params (p.busOf l) ∧ p.NoMotor (p.busOf l)

theorem Part.measured_of_quiet {p : Part} {l : LoadId} {ma : Nat} (h : p.Quiet l ma) : p.measured l ma = p.drawn l ma := by
  by_cases hon : (p.load l).state = .on
  · rw [Part.measured, ← Part.drawn]
    split
    next hraised =>
      have hlt : ¬ ma ≤ p.committed l := by
        simp only [Bool.and_eq_true, decide_eq_true_eq, Part.drawn_committed] at hraised
        have := hraised.2
        unfold Part.committed Part.committedAt at this ⊢
        omega
      obtain ⟨hfit, hm⟩ := (h hon).resolve_left hlt
      exact Part.overloadCheck_of_fits hfit (Part.drawn_noMotor hm l ma)
    next => rfl
  · exact Part.measured_of_ne hon ma

/-- The part whose Output Monitor, Load Manager and Water Unit have taken a reading that trips nothing. -/
def Part.taken (p : Part) (c : LoadId) (ma : Nat) (onThroughout : Bool) : Part :=
  ((p.readAt c ma onThroughout).drawn c ma).dryMeasured c

/-- Of the rest, a reading that trips nothing changes the notices and the dry timer alone. -/
theorem Part.taken_rest (p : Part) (c : LoadId) (ma : Nat) (onThroughout : Bool) : ∃ cs ls w k,
    p.taken c ma onThroughout =
      { p with out := { p.out with channels := cs }, ldm := { p.ldm with loads := ls }, wat := w, lnk := k } ∧
      cs[c].switching = (p.chan c).switching ∧ ls[c].state = (p.load c).state := by
  obtain ⟨cs, k, e, hs⟩ := p.readAt_rest c ma onThroughout
  unfold Part.taken Part.dryMeasured
  rw [e]
  have hl : ((p.ldm.loads.set c { p.load c with measured := some ma, fresh := true })[c]).state = (p.load c).state := by
    simp
  split
  · exact ⟨_, _, _, _, rfl, hs, hl⟩
  · exact ⟨_, _, _, _, rfl, hs, hl⟩

/-! ### The next grant (R80, R83) -/

/-- The part whose converter a measurement has left and the sweep has at the position `next`. -/
def Part.swept (p : Part) (m : Measuring) (next : LoadId) : Part := { p with out := { p.out with
  lastGroup := some (groupOf m.channel), sweepPos := next
  running := some ⟨next, .sweep, false, decide ((p.chan next).switching = .on),
    if groupOf next = groupOf m.channel then 1 else 3⟩ } }

/-- Nothing but the sweep waits for the converter. -/
def Out.OnlySweep (o : Out) : Prop := o.zeroPass.isSome = true ∨ o.trackingSlot = none ∧ o.spotQueue = []

theorem Part.arbiter_sweeps {p : Part} (hr : p.out.running = none) (hs : p.out.OnlySweep) : p.arbiter = p.grantSweep := by
  unfold Part.arbiter
  rw [hr]
  rcases hs with hz | ⟨ht, hq⟩
  · simp [hz]
  · simp [ht, hq]

/-- The position of the sweep after a completion. -/
def Part.nextPos (p : Part) (m : Measuring) : LoadId := if m.source = .sweep then nextChannel m.channel else p.out.sweepPos

/-- The part whose converter a measurement has left. -/
def Part.freed (p : Part) (m : Measuring) : Part := { p with out := { p.out with
  running := none, lastGroup := some (groupOf m.channel), sweepPos := p.nextPos m } }

section

variable {p : Part} {m : Measuring}

theorem Part.converterFree_eq (hstay : m.source = .sweep → m.channel = 19 → p.mdc.mode ≠ .storage) :
    p.converterFree m = (p.freed m).arbiter := by
  have hheld : (m.source == .sweep && m.channel == 19 && p.mdc.mode == .storage) = false := by
    simpa [imp_iff_not_or, or_assoc] using hstay
  unfold Part.converterFree Part.freed Part.nextPos
  dsimp only
  rw [hheld]
  simp

theorem Part.converterFree_granted (hs : p.out.OnlySweep) (hheld : p.out.sweepHeld = false)
    (hstay : m.source = .sweep → m.channel = 19 → p.mdc.mode ≠ .storage) : p.converterFree m = p.swept m (p.nextPos m) := by
  have hf : (p.freed m).out.sweepHeld = false := hheld
  rw [Part.converterFree_eq hstay, Part.arbiter_sweeps (p := p.freed m) rfl hs, Part.grantSweep, hf]
  simp only [Part.grant, Part.swept, Part.chan, Part.freed, beq_eq_decide, Option.some.injEq, @eq_comm _ (groupOf m.channel)]
  rfl

theorem Part.converterFree_held (hs : p.out.OnlySweep) (hheld : p.out.sweepHeld = true)
    (hstay : m.source = .sweep → m.channel = 19 → p.mdc.mode ≠ .storage) : p.converterFree m = p.freed m := by
  have hf : (p.freed m).out.sweepHeld = true := hheld
  rw [Part.converterFree_eq hstay, Part.arbiter_sweeps (p := p.freed m) rfl hs, Part.grantSweep, hf]
  rfl

end

/-! ### The completion as a whole (R84) -/

/-- The part whose Motion Unit has taken the reading of a motor channel. -/
def Part.motReached (p : Part) (m : Measuring) (ma : Nat) : Part :=
  match axisOf? m.channel with
  | some a => p.motorMeasured a ma (m.source == .tracking)
  | none => p

/-- The part whose host has its reply, if it waits for one. -/
def Part.hostReached (p : Part) (m : Measuring) (ma : Nat) : Part :=
  if m.source = .spot ∧ m.host then p.completeHead .ok (p.spotPayload m.channel ma) else p

/-- A running measurement outside the zero calibration whose reading calls for no trip, and for no check that would shed or cut. -/
structure Part.Untripped (p : Part) (m : Measuring) (ma : Nat) : Prop where
  outbox : p.outbox = []
  running : p.out.running = some m
  zeroPass : p.out.zeroPass = none
  noTrip : (p.chan m.channel).latched.overcurrent = true ∨ (p.reads m.channel ma m.onThroughout).overCount < 8
  quiet : (p.readAt m.channel ma m.onThroughout).Quiet m.channel ma

theorem Part.measurementDone_of_untripped {p : Part} {m : Measuring} {raw : Int}
    (h : p.Untripped m ((p.chan m.channel).reading raw)) : p.measurementDone raw =
      let ma := (p.chan m.channel).reading raw
      (((p.taken m.channel ma m.onThroughout).motReached m ma).hostReached m ma).converterFree m := by
  have hbox : (p.readAt m.channel ((p.chan m.channel).reading raw) m.onThroughout).outbox = [] := by
    obtain ⟨cs, k, e, _⟩ := p.readAt_rest m.channel ((p.chan m.channel).reading raw) m.onThroughout
    rw [e]
    exact h.outbox
  simp only [Part.measurementDone, h.running, h.zeroPass]
  rw [Part.measureDone, Part.counterTrips_of_quiet h.noTrip, Part.delivered_of_empty hbox, Part.measured_of_quiet h.quiet]
  rfl

theorem Part.hostReached_of_not {p : Part} {m : Measuring} (h : m.host = false) (ma : Nat) : p.hostReached m ma = p :=
  if_neg (by simp [h])

/-- A completion of the sweep or of the tracking that trips nothing, up to the end of the event. -/
theorem Part.Untripped.leadsTo {s : State} {m : Measuring} {raw : Int} {q : Part}
    (h : s.part.Untripped m ((s.part.chan m.channel).reading raw)) (hhost : m.host = false) (hs : s.part.out.OnlySweep)
    (hheld : s.part.out.sweepHeld = false) (hstay : m.source = .sweep → m.channel = 19 → s.part.mdc.mode ≠ .storage)
    (hq : (s.part.taken m.channel ((s.part.chan m.channel).reading raw) m.onThroughout).motReached m
      ((s.part.chan m.channel).reading raw) = q)
    (hsame : ∃ w, q = { s.part.taken m.channel ((s.part.chan m.channel).reading raw) m.onThroughout with mot := w }) :
    LeadsTo (.measurementComplete raw) s (q.swept m (s.part.nextPos m)) := by
  obtain ⟨cs, ls, w, k, e, _⟩ := s.part.taken_rest m.channel ((s.part.chan m.channel).reading raw) m.onThroughout
  obtain ⟨w', e'⟩ := hsame
  rw [e] at e'
  have hfree : q.converterFree m = q.swept m (s.part.nextPos m) := by
    subst e'
    exact Part.converterFree_granted hs hheld hstay
  refine leadsTo_of_event (f := fun p => p.measurementDone raw) rfl ?_ ?_
  · rw [Part.measurementDone_of_untripped h]
    dsimp only
    rw [hq, Part.hostReached_of_not hhost, hfree]
  · subst e'
    exact h.outbox

/-! ### The reading of a motor channel (R170) -/

theorem axisOf_motorOf (a : Axis) : axisOf? (motorOf a) = some a := by cases a <;> rfl

section

variable {p : Part} {m : Measuring} {a : Axis} (ma : Nat) (hc : m.channel = motorOf a)

/-- The part whose axis record has a reading. -/
def Part.sensed (p : Part) (a : Axis) (ma : Nat) : Part := p.setAxis a { p.axis a with lastCurrent := some ma }

theorem Part.sensed_active (p : Part) (a : Axis) (ma : Nat) : (p.sensed a ma).mot.active = p.mot.active := by cases a <;> rfl

include hc in
theorem Part.motReached_of_idle (h : m.source = .tracking → ∀ mo, p.mot.active = some mo → mo.axis ≠ a) :
    p.motReached m ma = p.sensed a ma := by
  simp only [Part.motReached, hc, axisOf_motorOf, Part.motorMeasured]
  rw [← Part.sensed, Part.sensed_active]
  split
  next mo hact =>
    refine if_neg fun hb => ?_
    exact h (by simpa using hb.2) mo hact hb.1
  next => rfl

include hc in
theorem Part.motReached_of_active {mo : Motion} (ht : m.source = .tracking) (hact : p.mot.active = some mo) (hax : mo.axis = a) :
    p.motReached m ma = (p.sensed a ma).trackingResult mo ma := by
  simp only [Part.motReached, hc, axisOf_motorOf, Part.motorMeasured]
  rw [← Part.sensed, Part.sensed_active, hact]
  exact if_pos ⟨hax, by simp [ht]⟩

end

end Sys2Proof.Machine
end

section
/-! PROOFS. The third stall of a drive (R170 to R172): the drive is braked, and either the motion ends BLOCKED or it waits for its
back-off. -/

namespace Sys2Proof.Machine

/-! ### A tracking result of the axis that drives (R170) -/

/-- The part whose result watch has been restarted. -/
def Part.watched (p : Part) : Part := { p with mot := { p.mot with watch := some 50 } }

/-- The stall counter of an axis after a tracking result. -/
def Part.stallsAt (p : Part) (a : Axis) (ma : Nat) : Nat :=
  stallCount (p.axis a).stall p.mot.inrush.isSome ma (p.params.stallThreshold a)

/-- The part whose axis has a reading and a stall counter. -/
def Part.stallCounted (p : Part) (a : Axis) (ma : Nat) : Part :=
  p.watched.setAxis a { p.axis a with lastCurrent := some ma, stall := p.stallsAt a ma }

section

variable (p : Part) {mo : Motion} (ma : Nat)

theorem Part.trackingResult_of_waits (h : mo.stage = .wait ∨ mo.stage = .backoffWait) : p.trackingResult mo ma = p := by
  refine if_neg ?_
  rcases h with h | h <;> simp [Motion.driving, h]

theorem Part.trackingResult_of_backoff (h : mo.stage = .backoff) : p.trackingResult mo ma = p.watched := by
  have hd : mo.driving = true := by simp [Motion.driving, h]
  rw [Part.trackingResult, if_pos hd, if_neg (by simp [h])]
  rfl

theorem Part.trackingResult_of_drive (h : mo.stage = .drive) : (p.sensed mo.axis ma).trackingResult mo ma =
    if 3 ≤ p.stallsAt mo.axis ma then (p.stallCounted mo.axis ma).stalled mo else p.stallCounted mo.axis ma := by
  have hd : mo.driving = true := by simp [Motion.driving, h]
  rw [Part.trackingResult, if_pos hd, if_pos h]
  cases mo.axis <;> rfl

theorem Part.sensed_watched (a : Axis) : (p.sensed a ma).watched = p.watched.setAxis a { p.axis a with lastCurrent := some ma } := by
  cases a <;> rfl

end

/-! ### The end of a drive (R169, R171) -/

/-- In `q`, the drive of the axis `a` that ran in `p` has been stopped and the bridge braked. -/
structure Part.Braked (p q : Part) (a : Axis) : Prop where
  bridge : q.mot.bridge = .brake
  dead : q.mot.dead = some 200
  tick : q.mot.tick = none
  watch : q.mot.watch = none
  off : (q.chan (motorOf a)).switching = .off
  outbox : q.outbox = p.outbox

theorem Part.Braked.of_traced {p q q' : Part} {a : Axis} (h : p.Braked q a) (e : q'.traced = q.traced) : p.Braked q' a := by
  have hm := Part.mot_of_traced e
  exact ⟨hm ▸ h.bridge, hm ▸ h.dead, hm ▸ h.tick, hm ▸ h.watch, Part.chan_of_traced e _ ▸ h.off,
    (Part.outbox_of_traced e).trans h.outbox⟩

theorem Part.orderOff_off {p : Part} {c : LoadId} (h : (p.chan c).switching ≠ .tripped) :
    ((p.orderOff c).chan c).switching = .off := by
  unfold Part.orderOff
  split
  · rw [Part.chan_setChan, Part.setSwitching_chan]
  next hne =>
    cases hs : (p.chan c).switching with
    | off => rfl
    | on => exact absurd hs hne
    | tripped => exact absurd hs h

section

variable {p : Part} {m : Motion} (hs : (p.chan (motorOf m.axis)).switching ≠ .tripped)

theorem Part.formPosition_axisState (p : Part) (m : Motion) : ((p.formPosition m).axis m.axis).state = (p.axis m.axis).state := by
  unfold Part.formPosition
  split
  · cases m.axis <;> rfl
  · rfl

theorem Part.formPosition_motFields (p : Part) (m : Motion) : (p.formPosition m).mot =
    { p.mot with awn := (p.formPosition m).mot.awn, step := (p.formPosition m).mot.step } := by
  unfold Part.formPosition
  split
  · cases m.axis <;> rfl
  · rfl

include hs in
theorem Part.stopDrive_braked : p.Braked (p.stopDrive m) m.axis := by
  obtain ⟨hform, _⟩ := p.formPosition_motionOnly m
  refine ⟨rfl, rfl, rfl, rfl, ?_, ?_⟩
  · exact Part.orderOff_off (by rw [Part.chan_of_traced hform]; exact hs)
  · exact (Part.orderOff_outbox ..).trans ((Part.outbox_of_traced hform).trans rfl)

theorem Part.stopDrive_kept (p : Part) (m : Motion) : (p.stopDrive m).mot.active = p.mot.active ∧
    (p.stopDrive m).mot.timeout = p.mot.timeout ∧ (p.stopDrive m).mot.pend = p.mot.pend ∧
    ((p.stopDrive m).axis m.axis).state = (p.axis m.axis).state ∧ (∀ l, (p.stopDrive m).load l = p.load l) := by
  obtain ⟨hform, _⟩ := p.formPosition_motionOnly m
  obtain ⟨o, e, _⟩ := (p.formPosition m).orderOff_cases (motorOf m.axis)
  have hst := p.formPosition_axisState m
  have hm := p.formPosition_motFields m
  unfold Part.stopDrive
  rw [e]
  refine ⟨by rw [hm], by rw [hm], by rw [hm], ?_, fun l => Part.load_of_traced hform l⟩
  rw [← hst]
  cases m.axis <;> rfl

end

theorem Part.wantedOff_traced {p : Part} {l : LoadId} (hw : (p.load l).wanted = true) (hl : isLightChannel l = false)
    (hs : (p.chan l).switching ≠ .on) :
    (p.wantedOff l).traced = (p.setLoad l { p.load l with state := .off, motorClass := none }).traced := by
  rw [Part.wantedOff_of_wanted hw hl, Part.postLoad, Part.post_traced, Part.orderOff_of_ne]
  · exact Part.setLoad_traced (p.leave_traced l) _ _
  · rw [Part.setLoad_chan_read, Part.chan_of_traced (p.leave_traced l)]
    exact hs

theorem Part.Metered.stalled {r p : Part} (h : r.Metered p) (m : Motion) : r.Metered (p.stalled m) := by
  unfold Part.stalled
  split
  · exact (h.stopDrive m).setMot _
  · exact h.endMotion m .blocked

/-- The motion of the axis `a` has ended BLOCKED, and its load is OFF. -/
structure Part.EndedBlocked (q : Part) (a : Axis) : Prop where
  active : q.mot.active = none
  timeout : q.mot.timeout = none
  state : (q.axis a).state = .blocked
  lastResult : (q.axis a).lastResult = some .blocked
  load : (q.load (motorOf a)).state = .off

theorem Part.axis_of_traced {p q : Part} (h : q.traced = p.traced) (a : Axis) : q.axis a = p.axis a := by
  cases a <;> simp only [Part.axis, Part.mot_of_traced h]

theorem Part.EndedBlocked.of_traced {q q' : Part} {a : Axis} (h : q.EndedBlocked a) (e : q'.traced = q.traced) :
    q'.EndedBlocked a := by
  have hm := Part.mot_of_traced e
  have ha := Part.axis_of_traced e a
  exact ⟨hm ▸ h.active, hm ▸ h.timeout, ha ▸ h.state, ha ▸ h.lastResult, Part.load_of_traced e _ ▸ h.load⟩

/-- The part whose axis has been taken out of the active slot, in state BLOCKED. -/
def Part.blockedAt (p : Part) (a : Axis) : Part :=
  ({ p with mot := { p.mot with active := none, timeout := none } } : Part).setAxis a { p.axis a with state := .blocked }

/-- The part whose axis has the result BLOCKED. -/
def Part.noted (p : Part) (a : Axis) : Part := p.setAxis a { p.axis a with lastResult := some .blocked }

theorem Part.blockedAt_kept (p : Part) (a : Axis) : (p.blockedAt a).mot.active = none ∧ (p.blockedAt a).mot.timeout = none ∧
    (p.blockedAt a).mot.pend = p.mot.pend ∧ ((p.blockedAt a).axis a).state = .blocked ∧
    ∀ l, (p.blockedAt a).load l = p.load l := by
  cases a <;> exact ⟨rfl, rfl, rfl, rfl, fun _ => rfl⟩

theorem Part.noted_kept (p : Part) (a : Axis) : (p.noted a).mot.active = p.mot.active ∧
    (p.noted a).mot.timeout = p.mot.timeout ∧ (p.noted a).mot.pend = p.mot.pend ∧
    ((p.noted a).axis a).state = (p.axis a).state ∧ ((p.noted a).axis a).lastResult = some .blocked ∧
    ∀ l, (p.noted a).load l = p.load l := by
  cases a <;> exact ⟨rfl, rfl, rfl, rfl, rfl, fun _ => rfl⟩

theorem Part.Braked.blockedAt {p q : Part} {a : Axis} (h : p.Braked q a) : p.Braked (q.blockedAt a) a := by
  obtain ⟨hb, hd, ht, hw, hoff, ho⟩ := h
  cases a <;> exact ⟨hb, hd, ht, hw, hoff, ho⟩

theorem Part.Braked.noted {p q : Part} {a : Axis} (h : p.Braked q a) : p.Braked (q.noted a) a := by
  obtain ⟨hb, hd, ht, hw, hoff, ho⟩ := h
  cases a <;> exact ⟨hb, hd, ht, hw, hoff, ho⟩

/-- The ending of a drive BLOCKED, step by step (R169). -/
theorem Part.endMotion_blocked_eq {p : Part} {m : Motion} (hd : m.driving = true) : p.endMotion m .blocked =
    (((((p.stopDrive m).blockedAt m.axis).wantedOff (motorOf m.axis)).noted m.axis).postMotion m.axis .blocked).stepFive
      m.axis := by
  have hset (q : Part) : ({ q with mot := { q.mot with active := none, timeout := none } } : Part).setAxisState m.axis .blocked =
      q.blockedAt m.axis := by
    cases m.axis <;> rfl
  have hstate : p.endState m .blocked = .blocked := rfl
  rw [Part.endMotion, Part.endCore, hstate, Part.endAs, if_pos hd]
  dsimp only
  rw [hset]
  rfl

section

variable {p : Part} {m : Motion} (hs : (p.chan (motorOf m.axis)).switching ≠ .tripped)

include hs in
theorem Part.stalled_parked (hr : m.dir = .retract) (hp : p.parked = true) : p.Braked (p.stalled m) m.axis ∧
    (p.stalled m).mot.active = some { m with stage := .backoffWait } ∧ (p.stalled m).mot.timeout = p.mot.timeout ∧
    ((p.stalled m).axis m.axis).state = (p.axis m.axis).state ∧ ∀ l, (p.stalled m).load l = p.load l := by
  obtain ⟨_, htime, _, hst, hload⟩ := p.stopDrive_kept m
  obtain ⟨hb, hd, ht, hw, hoff, ho⟩ := Part.stopDrive_braked hs
  rw [Part.stalled, if_pos ⟨hr, hp⟩]
  refine ⟨⟨hb, hd, ht, hw, hoff, ho⟩, rfl, htime, ?_, hload⟩
  rw [← hst]
  cases m.axis <;> rfl

include hs in
theorem Part.endMotion_blocked (hd : m.driving = true) (hpend : p.mot.pend = none) (hon : (p.load (motorOf m.axis)).state = .on) :
    p.Braked (p.endMotion m .blocked) m.axis ∧ (p.endMotion m .blocked).EndedBlocked m.axis := by
  obtain ⟨_, _, hp, _, hload⟩ := p.stopDrive_kept m
  have hr := (Part.stopDrive_braked hs).blockedAt
  obtain ⟨ract, rtime, rpend, rstate, rload⟩ := (p.stopDrive m).blockedAt_kept m.axis
  have hlight : isLightChannel (motorOf m.axis) = false := by cases m.axis <;> rfl
  rw [Part.endMotion_blocked_eq hd]
  generalize (p.stopDrive m).blockedAt m.axis = r at *
  have hwanted : (r.load (motorOf m.axis)).wanted = true := by rw [rload, hload]; exact LoadRec.wanted_of_on hon
  have hoffed := Part.wantedOff_traced hwanted hlight (by rw [hr.off]; decide)
  have hw : p.Braked (r.wantedOff (motorOf m.axis)) m.axis :=
    Part.Braked.of_traced (q := r.setLoad _ _) ⟨hr.bridge, hr.dead, hr.tick, hr.watch, hr.off, hr.outbox⟩ hoffed
  have hwmot : (r.wantedOff (motorOf m.axis)).mot = r.mot := (Part.mot_of_traced hoffed).trans rfl
  have hwload : ((r.wantedOff (motorOf m.axis)).load (motorOf m.axis)).state = .off := by
    rw [Part.load_of_traced hoffed, Part.load_setLoad]
  generalize r.wantedOff (motorOf m.axis) = w at *
  have hwstate : (w.axis m.axis).state = .blocked := by
    rw [← rstate]
    cases m.axis <;> simp only [Part.axis, hwmot]
  obtain ⟨zact, ztime, zpend, zstate, zresult, zload⟩ := w.noted_kept m.axis
  have hz := hw.noted
  have hended : (w.noted m.axis).EndedBlocked m.axis :=
    ⟨by rw [zact, hwmot, ract], by rw [ztime, hwmot, rtime], zstate.trans hwstate, zresult, by rw [zload]; exact hwload⟩
  have hzpend : (w.noted m.axis).mot.pend = none := by rw [zpend, hwmot, rpend, hp, hpend]
  have hpost : ((w.noted m.axis).postMotion m.axis .blocked).traced = (w.noted m.axis).traced := Part.post_traced ..
  rw [Part.stepFive_of_empty _ _ (by rw [Part.mot_of_traced hpost]; exact hended.active)
    (by rw [Part.mot_of_traced hpost]; exact hzpend)]
  exact ⟨hz.of_traced hpost, hended.of_traced hpost⟩

include hs in
theorem Part.stalled_ends (hn : m.dir = .extend ∨ p.parked = false) (hd : m.driving = true) (hpend : p.mot.pend = none)
    (hon : (p.load (motorOf m.axis)).state = .on) :
    p.Braked (p.stalled m) m.axis ∧ (p.stalled m).EndedBlocked m.axis := by
  rw [Part.stalled, if_neg (by rcases hn with h | h <;> simp [h])]
  exact Part.endMotion_blocked hs hd hpend hon

/-- What the third stall of a driving motion leaves (R171): an extension and an unparked retraction end BLOCKED, a parked retraction
waits for its back-off. -/
structure Part.ThirdStall (p q : Part) (m : Motion) : Prop where
  braked : p.Braked q m.axis
  params : q.params = p.params
  bnk : q.bnk = p.bnk
  ended : m.dir = .extend ∨ p.parked = false → q.EndedBlocked m.axis
  parked : m.dir = .retract → p.parked = true → q.mot.active = some { m with stage := .backoffWait } ∧
    q.mot.timeout = p.mot.timeout ∧ (q.axis m.axis).state = (p.axis m.axis).state ∧
    (q.load (motorOf m.axis)).state = (p.load (motorOf m.axis)).state

include hs in
theorem Part.stalled_third (hd : m.driving = true) (hpend : p.mot.pend = none) (hon : (p.load (motorOf m.axis)).state = .on) :
    p.ThirdStall (p.stalled m) m := by
  have hmeters := (Part.Metered.refl p).stalled m
  refine ⟨?braked, hmeters.params, hmeters.bnk, fun hn => (Part.stalled_ends hs hn hd hpend hon).2,
    fun hr hp => ?_⟩
  case braked =>
    by_cases hr : m.dir = .retract ∧ p.parked = true
    · exact (Part.stalled_parked hs hr.1 hr.2).1
    · refine (Part.stalled_ends hs ?_ hd hpend hon).1
      cases hdir : m.dir with
      | extend => exact .inl rfl
      | retract => exact .inr (by simpa [hdir] using hr)
  obtain ⟨_, ha, ht, hst, hl⟩ := Part.stalled_parked hs hr hp
  exact ⟨ha, ht, hst, congrArg _ (hl _)⟩

theorem Part.ThirdStall.of_traced {p q q' : Part} {m : Motion} (h : p.ThirdStall q m) (e : q'.traced = q.traced) :
    p.ThirdStall q' m := by
  refine ⟨h.braked.of_traced e, (Part.params_of_traced e).trans h.params, (Part.bnk_of_traced e).trans h.bnk,
    fun hn => (h.ended hn).of_traced e, fun hr hp => ?_⟩
  rw [Part.mot_of_traced e, Part.axis_of_traced e, Part.load_of_traced e]
  exact h.parked hr hp

/-- The third stall goes by these fields of the part alone. -/
theorem Part.ThirdStall.of_left {p p' q : Part} {m : Motion} (h : p'.ThirdStall q m) (ho : p'.outbox = p.outbox)
    (hp : p'.params = p.params) (hb : p'.bnk = p.bnk) (hk : p'.parked = p.parked) (ht : p'.mot.timeout = p.mot.timeout)
    (ha : (p'.axis m.axis).state = (p.axis m.axis).state)
    (hl : (p'.load (motorOf m.axis)).state = (p.load (motorOf m.axis)).state) : p.ThirdStall q m := by
  obtain ⟨hbr, hpa, hbn, he, hpk⟩ := h
  rw [hp] at hpa
  rw [hb] at hbn
  rw [hk] at he hpk
  rw [ht, ha, hl] at hpk
  exact ⟨{ hbr with outbox := hbr.outbox.trans ho }, hpa, hbn, he, hpk⟩

end

end Sys2Proof.Machine
end

section
/-! PROOFS. What any completion of a measurement leaves (R84), and the statement on the completions and the channel timers (O33). -/

namespace Sys2Proof.Machine

/-! ### What a completion leaves of the readings -/

section

variable {r p : Part}

theorem Part.Metered.counterTrips (h : r.Metered p) (c : LoadId) : r.Metered (p.counterTrips c) := by
  have hl : r.Metered (if 8 ≤ (p.chan c).openCount then p.latchOnly c .openLoad else p) := by
    split
    · exact h.latchOnly c .openLoad
    · exact h
  have htrip (q : Part) (hq : r.Metered q) : r.Metered (if 8 ≤ (q.chan c).overCount then q.trip c .overcurrent else q) := by
    split
    · exact hq.trip c .overcurrent
    · exact hq
  exact htrip _ hl

theorem Part.Metered.dryMeasured (h : r.Metered p) (l : LoadId) : r.Metered (p.dryMeasured l) := by
  unfold Part.dryMeasured
  split
  · exact h.setWat _
  · exact h

theorem Part.Metered.trackingResult (h : r.Metered p) (m : Motion) (ma : Nat) : r.Metered (p.trackingResult m ma) := by
  unfold Part.trackingResult
  split
  · split
    · dsimp only
      split
      · exact ((h.setMot _).setAxis _ _).stalled m
      · exact (h.setMot _).setAxis _ _
    · exact h.setMot _
  · exact h

theorem Part.Metered.motReached (h : r.Metered p) (m : Measuring) (ma : Nat) : r.Metered (p.motReached m ma) := by
  unfold Part.motReached Part.motorMeasured
  split
  next a _ =>
    have ha := h.setAxis a { p.axis a with lastCurrent := some ma }
    dsimp only
    split
    · split
      · exact ha.trackingResult _ ma
      · exact ha
    · exact ha
  next => exact h

theorem Part.Metered.hostReached (h : r.Metered p) (m : Measuring) (ma : Nat) : r.Metered (p.hostReached m ma) := by
  unfold Part.hostReached
  split
  · obtain ⟨_, _, _, e⟩ := p.completeHead_cases .ok (p.spotPayload m.channel ma)
    rw [e]
    exact h.setLnk _
  · exact h

theorem Part.Metered.converterFree (h : r.Metered p) (m : Measuring) : r.Metered (p.converterFree m) :=
  Part.Metered.arbiter (h.other rfl)

theorem Part.Metered.measured {l : LoadId} {ma : Nat} (h : r.Metered (p.drawn l ma)) : r.Metered (p.measured l ma) := by
  unfold Part.measured
  rw [← Part.drawn]
  dsimp only
  split
  · exact h.overloadCheck _
  · exact h

end

/-- A completion outside the zero calibration, in its four steps. -/
theorem Part.measureDone_eq (p : Part) (m : Measuring) (raw : Int) : p.measureDone m raw =
    let ma := (p.chan m.channel).reading raw
    ((((((((p.storeReading m.channel ma m.onThroughout).counterTrips m.channel).delivered).measured m.channel ma).dryMeasured
      m.channel).motReached m ma).hostReached m ma).converterFree m) := rfl

/-- Whatever a completion trips, sheds or ends, the channel and the load hold the fresh reading at its end. -/
theorem measurement_kept {s : State} {m : Measuring} {raw : Int} (hrun : s.part.out.running = some m)
    (hz : s.part.out.zeroPass = none) : ∃ t, exec (.measurementComplete raw) s = .next t ∧ t.pending = s.pending ∧
      (t.part.chan m.channel).last = some ((s.part.chan m.channel).reading raw) ∧ (t.part.chan m.channel).fresh = true ∧
      (t.part.load m.channel).measured = some ((s.part.chan m.channel).reading raw) ∧ (t.part.load m.channel).fresh = true ∧
      t.part.params = s.part.params ∧ t.part.bnk = s.part.bnk := by
  generalize hma : (s.part.chan m.channel).reading raw = ma
  have hstep : s.part.measurementDone raw = s.part.measureDone m raw := by simp only [Part.measurementDone, hrun, hz]
  have hstored := (Part.Metered.refl (s.part.storeReading m.channel ma m.onThroughout)).counterTrips m.channel |>.delivered
  refine ⟨⟨(s.part.measurementDone raw).finish, s.pending⟩, rfl, rfl, ?_⟩
  rw [hstep, Part.measureDone_eq, hma]
  dsimp only
  generalize ((s.part.storeReading m.channel ma m.onThroughout).counterTrips m.channel).delivered = b at hstored
  have hdone := (Part.Metered.refl (b.drawn m.channel ma)).measured.dryMeasured m.channel |>.motReached m ma
    |>.hostReached m ma |>.converterFree m |>.finish
  generalize Part.finish _ = t at hdone
  have hchan : (t.chan m.channel).meter = ((s.part.storeReading m.channel ma m.onThroughout).chan m.channel).meter :=
    (hdone.chan _).trans (hstored.chan _)
  have hload : (t.load m.channel).meter = (some ma, true) := (hdone.load _).trans (congrArg _ (Part.load_setLoad ..))
  rw [Part.storeReading_eq, Part.chan_setChan] at hchan
  simp only [Channel.meter, Prod.mk.injEq, LoadRec.meter] at hchan hload
  obtain ⟨_, _, hlast, hfresh, _⟩ := hchan
  obtain ⟨hmeasured, hloadFresh⟩ := hload
  exact ⟨hlast, hfresh, hmeasured, hloadFresh, hdone.params.trans hstored.params, hdone.bnk.trans hstored.bnk⟩

/-! ### The timers of the channels (R83, R85, R88) -/

theorem Part.passExpiry_of_free {p : Part} (ht : p.out.passTimer.isSome = true) (hr : p.out.running = none)
    (hs : p.out.OnlySweep) : p.passExpiry = { p with out := { p.out with
      passTimer := some 1000, sweepHeld := false
      running := some ⟨p.out.sweepPos, .sweep, false, decide ((p.chan p.out.sweepPos).switching = .on),
        if p.out.lastGroup = some (groupOf p.out.sweepPos) then 1 else 3⟩ } } := by
  rw [Part.passExpiry, if_pos ht,
    Part.arbiter_sweeps (p := { p with out := { p.out with passTimer := some 1000, sweepHeld := false } }) hr hs]
  rfl

theorem Part.passExpiry_of_busy {p : Part} (ht : p.out.passTimer.isSome = true) (hr : p.out.running.isSome = true) :
    p.passExpiry = { p with out := { p.out with passTimer := some 1000, sweepHeld := false } } := by
  rw [Part.passExpiry, if_pos ht]
  exact if_pos hr

/-! ### The completions that trip nothing, as the statement writes them -/

theorem axisOf_eq_none {c : LoadId} (h : c.val < 18) : axisOf? c = none := by rw [axisOf?, if_neg (by omega), if_neg (by omega)]

theorem Part.motReached_of_no_motor {p : Part} {m : Measuring} (h : m.channel.val < 18) (ma : Nat) : p.motReached m ma = p := by
  simp only [Part.motReached, axisOf_eq_none h]

theorem Part.taken_eq (p : Part) (c : LoadId) (ma : Nat) (onThroughout : Bool) : p.taken c ma onThroughout =
    (let q := (p.readAt c ma onThroughout).setLoad c { p.load c with measured := some ma, fresh := true }
     if p.params.loadWith .pump = some c ∧ q.dryCondition = false then { q with wat := { p.wat with dryTimer := 0 } } else q) := by
  obtain ⟨cs, k, e, _⟩ := p.readAt_rest c ma onThroughout
  rw [Part.taken, Part.dryMeasured, e]
  rfl

theorem Part.setAxis_mot (p : Part) (a : Axis) (x : AxisRec) : ∃ w, p.setAxis a x = { p with mot := w } := by
  cases a <;> exact ⟨_, rfl⟩

/-- The records of the motions, the settings and the reports stay as they were. -/
theorem Part.taken_kept (p : Part) (c : LoadId) (ma : Nat) (onThroughout : Bool) :
    (p.taken c ma onThroughout).mot = p.mot ∧ (p.taken c ma onThroughout).params = p.params ∧
    (p.taken c ma onThroughout).bnk = p.bnk ∧ (p.taken c ma onThroughout).parked = p.parked ∧
    (p.taken c ma onThroughout).outbox = p.outbox ∧ ((p.taken c ma onThroughout).load c).state = (p.load c).state ∧
    ((p.taken c ma onThroughout).chan c).switching = (p.chan c).switching := by
  obtain ⟨cs, ls, w, k, e, hsw, hst⟩ := p.taken_rest c ma onThroughout
  rw [e]
  exact ⟨rfl, rfl, rfl, rfl, rfl, hst, hsw⟩

theorem Part.stallCounted_kept (p : Part) (a : Axis) (ma : Nat) : (p.stallCounted a ma).params = p.params ∧
    (p.stallCounted a ma).bnk = p.bnk ∧ (p.stallCounted a ma).parked = p.parked ∧ (p.stallCounted a ma).outbox = p.outbox ∧
    (p.stallCounted a ma).mot.timeout = p.mot.timeout ∧ (p.stallCounted a ma).mot.pend = p.mot.pend ∧
    ((p.stallCounted a ma).axis a).state = (p.axis a).state ∧ (∀ l, (p.stallCounted a ma).load l = p.load l) ∧
    ∀ c, (p.stallCounted a ma).chan c = p.chan c := by
  cases a <;> exact ⟨rfl, rfl, rfl, rfl, rfl, rfl, rfl, fun _ => rfl, fun _ => rfl⟩

/-- The third stall of the axis that drives, up to the end of the event (R171). -/
theorem Part.Untripped.stalls {s : State} {m : Measuring} {raw : Int} {mo : Motion}
    (h : s.part.Untripped m ((s.part.chan m.channel).reading raw)) (hhost : m.host = false) (ht : m.source = .tracking)
    (hact : s.part.mot.active = some mo) (hc : m.channel = motorOf mo.axis) (hdrive : mo.stage = .drive)
    (h3 : 3 ≤ s.part.stallsAt mo.axis ((s.part.chan m.channel).reading raw)) (hpend : s.part.mot.pend = none)
    (hon : (s.part.load m.channel).state = .on) (hs : (s.part.chan m.channel).switching ≠ .tripped) :
    ∃ t, exec (.measurementComplete raw) s = .next t ∧ t.pending = s.pending ∧ s.part.ThirdStall t.part mo := by
  refine ⟨⟨(s.part.measurementDone raw).finish, s.pending⟩, rfl, rfl, ?_⟩
  rw [Part.measurementDone_of_untripped h]
  dsimp only
  obtain ⟨hmot, hparams, hbnk, hparked, hbox, hload, hchan⟩ :=
    s.part.taken_kept m.channel ((s.part.chan m.channel).reading raw) m.onThroughout
  generalize (s.part.chan m.channel).reading raw = ma at *
  generalize s.part.taken m.channel ma m.onThroughout = d at *
  have haxis : d.axis mo.axis = s.part.axis mo.axis := by cases mo.axis <;> simp only [Part.axis, hmot]
  have hcount : d.stallsAt mo.axis ma = s.part.stallsAt mo.axis ma := by
    rw [Part.stallsAt, Part.stallsAt, haxis, hmot, hparams]
  rw [hc] at hload hchan hon hs
  obtain ⟨hzparams, hzbnk, hzparked, hzbox, hztime, hzpend, hzaxis, hzload, hzchan⟩ := d.stallCounted_kept mo.axis ma
  have hdriving : mo.driving = true := by simp [Motion.driving, hdrive]
  have hstall : s.part.ThirdStall ((d.stallCounted mo.axis ma).stalled mo) mo := by
    refine (Part.stalled_third ?_ hdriving ?_ ?_).of_left (hzbox.trans hbox) (hzparams.trans hparams) (hzbnk.trans hbnk)
      (hzparked.trans hparked) (by rw [hztime, hmot]) (by rw [hzaxis, haxis]) (by rw [hzload, hload])
    · rw [hzchan, hchan]
      exact hs
    · rw [hzpend, hmot]
      exact hpend
    · rw [hzload, hload]
      exact hon
  have hfree := ((d.stallCounted mo.axis ma).stalled mo).converterFree_traced m
  rw [Part.motReached_of_active ma hc ht (by rw [hmot]; exact hact) rfl, Part.trackingResult_of_drive d ma hdrive,
    if_pos (hcount ▸ h3), Part.hostReached_of_not hhost]
  refine hstall.of_traced ((Part.finish_traced ?_).trans hfree)
  exact (Part.outbox_of_traced hfree).trans (hstall.braked.outbox.trans h.outbox)

/-- Settles O33: the completions that trip nothing, what every completion leaves of the reading, and the channel timers. -/
theorem measurementsAreStoredAndExpire : Obligations.MeasurementsAreStoredAndExpire := by
  refine ⟨?_, ?_, ?_⟩
  · intro s m raw p c r b ma swept next overs opened stored q₀ q dry granted ho hrun hz hsource hhost htrack hspot hheld hstay
      hnoTrip hquiet
    have hcount : r.overCounted ma (p.params.tripCurrent c) m.onThroughout = overs := Channel.overCounted_eq ..
    have hstored : p.reads c ma m.onThroughout = stored := by
      rw [Part.reads, hcount]
      rfl
    have hread : p.readAt c ma m.onThroughout = q₀ := by
      rw [Part.readAt, hstored]
    have hdry : p.taken c ma m.onThroughout = dry := by
      rw [Part.taken_eq, hread]
    obtain ⟨cs, k, e, _⟩ := p.readAt_rest c ma m.onThroughout
    have hq : (p.readAt c ma m.onThroughout).drawn c ma = q := by
      have hl : q₀.load c = p.load c := by
        rw [← hread, e]
        rfl
      rw [Part.drawn, hread, hl]
    have h : p.Untripped m ma := by
      refine ⟨ho, hrun, hz, ?_, fun hon => ?_⟩
      · rw [hstored]
        exact hnoTrip
      · rw [hq, e]
        rw [e] at hon
        exact hquiet hon
    have honly : p.out.OnlySweep := .inr ⟨htrack, hspot⟩
    have leads {x : Part} (hx : dry.motReached m ma = x) (hw : ∃ w, x = { dry with mot := w }) :
        LeadsTo (.measurementComplete raw) s (granted x) := by
      rw [← hdry] at hx hw
      exact h.leadsTo hhost honly hheld hstay hx hw
    obtain ⟨hmot, hparams, _⟩ := p.taken_kept c ma m.onThroughout
    rw [hdry] at hmot hparams
    refine ⟨fun hc => leads (Part.motReached_of_no_motor hc ma) ⟨_, rfl⟩, ?_⟩
    intro a hc x
    have haxis : dry.axis a = p.axis a := by cases a <;> simp only [Part.axis, hmot]
    have hsensed : dry.sensed a ma = dry.setAxis a x := by rw [Part.sensed, haxis]
    refine ⟨fun hidle => ?_, ?_⟩
    · refine leads ((Part.motReached_of_idle ma hc ?_).trans hsensed) (dry.setAxis_mot a x)
      rw [hmot]
      intro ht mo hact
      refine hidle.resolve_left ?_ mo hact
      rw [ht]
      decide
    · intro mo ht hact hax watched
      subst hax
      have hactive : dry.mot.active = some mo := by rw [hmot]; exact hact
      have htrack := Part.motReached_of_active ma hc ht hactive rfl
      refine ⟨fun hw => ?_, fun hb => ?_, fun hdrive => ?_⟩
      · exact leads ((htrack.trans (Part.trackingResult_of_waits _ ma hw)).trans hsensed) (dry.setAxis_mot _ x)
      · refine leads ((htrack.trans (Part.trackingResult_of_backoff _ ma hb)).trans ?_) (watched.setAxis_mot _ x)
        rw [Part.sensed_watched, haxis]
        rfl
      · intro count
        have hstalls : dry.stallsAt mo.axis ma = count := by
          rw [Part.stallsAt, hmot, hparams, haxis]
          rfl
        have hcounted : dry.stallCounted mo.axis ma = watched.setAxis mo.axis { x with stall := count } := by
          rw [Part.stallCounted, hstalls, haxis]
          rfl
        rw [Part.trackingResult_of_drive dry ma hdrive, hstalls] at htrack
        refine ⟨fun hlt => ?_, fun h3 hpend hon hs => ?_⟩
        · exact leads ((htrack.trans (if_neg (by omega))).trans hcounted) (watched.setAxis_mot _ _)
        · obtain ⟨t, hexec, hpending, hstall⟩ := h.stalls hhost ht hact hc hdrive h3 hpend hon hs
          obtain ⟨hb, hparams, hbnk, hended, hparked⟩ := hstall
          refine ⟨t, hexec, hpending, hb.bridge, hb.dead, hb.tick, hb.watch, hc ▸ hb.off, hparams, hbnk, fun hn => ?_,
            fun hr hp => ?_⟩
          · obtain ⟨ha, htm, hst, hlr, hl⟩ := hended hn
            exact ⟨ha, htm, hst, hlr, hc ▸ hl⟩
          · obtain ⟨ha, htm, hst, hl⟩ := hparked hr hp
            rw [← hc] at hl
            exact ⟨ha, htm, hst, hl.trans hon⟩
  · exact fun s m raw hrun hz => measurement_kept hrun hz
  · intro s c a ho p m
    refine ⟨fun hf => leadsTo_of_event (f := fun p => p.channelStale c) rfl (if_pos hf) ho,
      leadsTo_of_event (f := fun p => p.channelInrushOver a) rfl rfl ho, fun ht hr => ?_, fun ht hr hz htr hs => ?_⟩
    · exact leadsTo_of_event (f := Part.passExpiry) rfl (Part.passExpiry_of_busy ht hr) ho
    · exact leadsTo_of_event (f := Part.passExpiry) rfl (Part.passExpiry_of_free ht hr (.inr ⟨htr, hs⟩)) ho

end Sys2Proof.Machine
end

section
/-! PROOFS. The zero calibration (R86, R194): the sums of the OFF channels, the passes, the offsets at the end of the 8th, and the
end of START (O35). -/

namespace Sys2Proof.Machine

/-! ### The sums and the offsets -/

theorem Part.setChan_self (p : Part) (c : LoadId) : p.setChan c (p.chan c) = p := by
  have hset : p.out.channels.set c.val (p.chan c) = p.out.channels := Vector.set_getElem_self c.isLt
  rw [Part.setChan, hset]

/-- The sum of a channel once the raw reading of channel `c` has joined those it joins. -/
def Part.sumAt (p : Part) (c : LoadId) (raw : Int) (x : LoadId) : Int :=
  (p.chan x).calSum + if x = c ∧ (p.chan x).switching = .off ∧ (p.chan x).calTakes = true then raw else 0

/-- The part whose channel `c` has its sum. -/
def Part.summed (p : Part) (c : LoadId) (raw : Int) : Part := p.setChan c { p.chan c with calSum := p.sumAt c raw c }

theorem Part.summed_eq (p : Part) (c : LoadId) (raw : Int) : (if (p.chan c).switching = .off ∧ (p.chan c).calTakes then
    p.setChan c { p.chan c with calSum := (p.chan c).calSum + raw } else p) = p.summed c raw := by
  unfold Part.summed Part.sumAt
  by_cases h : (p.chan c).switching = .off ∧ (p.chan c).calTakes = true
  · rw [if_pos h, if_pos ⟨rfl, h⟩]
  · rw [if_neg h, if_neg fun h' => h h'.2, add_zero]
    exact (p.setChan_self c).symm

theorem Part.summed_chan (p : Part) (c : LoadId) (raw : Int) (x : LoadId) :
    (p.summed c raw).chan x = { p.chan x with calSum := p.sumAt c raw x } := by
  by_cases h : x = c
  · subst h
    rw [Part.summed, Part.chan_setChan]
  · rw [Part.summed, Part.chan_setChan_of_ne _ _ h, Part.sumAt, if_neg fun h' => h h'.1, add_zero]

/-- The part with the passes of its calibration counted. -/
def Part.passed (p : Part) (n : Nat) : Part := { p with out := { p.out with zeroPass := some n } }

/-- The part with the offsets of its channels set and the calibration over. -/
def Part.zeroSet (p : Part) : Part :=
  { p with out := { p.out with channels := p.out.channels.map Channel.zeroed, zeroPass := none } }

theorem Part.zeroSet_chan (p : Part) (x : LoadId) : p.zeroSet.chan x = (p.chan x).zeroed := by
  simp [Part.zeroSet, Part.chan]

theorem Channel.zeroed_meter (r : Channel) : r.zeroed.calSum = 0 ∧
    (r.calTakes = true → r.zeroed.zero = max (-200) (min 200 (r.calSum.tdiv 8)) ∧
      r.zeroed.zeroSat = decide (r.calSum.tdiv 8 < -200 ∨ 200 < r.calSum.tdiv 8)) ∧
    (r.calTakes = false → r.zeroed.zero = r.zero ∧ r.zeroed.zeroSat = r.zeroSat) := by
  unfold Channel.zeroed
  cases r.calTakes with
  | true => exact ⟨rfl, fun _ => ⟨clampInt_eq _ _ _ (by decide), (Bool.decide_or ..).symm⟩, by simp⟩
  | false => exact ⟨rfl, by simp, fun _ => ⟨rfl, rfl⟩⟩

/-! ### The completions of a pass -/

section

variable {s : State} {m : Measuring} {raw : Int} {n : Nat} (ho : s.part.outbox = []) (hrun : s.part.out.running = some m)
  (hz : s.part.out.zeroPass = some n) (hsource : m.source = .sweep) (hheld : s.part.out.sweepHeld = false)

include hrun hz in
theorem Part.measurementDone_of_pass (hc : m.channel ≠ 19) :
    s.part.measurementDone raw = (s.part.summed m.channel raw).converterFree m := by
  simp only [Part.measurementDone, hrun, hz, Part.calibrationDone]
  rw [Part.summed_eq, if_neg hc]

include hrun hz in
theorem Part.measurementDone_of_passEnd (hc : m.channel = 19) (hn : n + 1 < 8) : s.part.measurementDone raw =
    ((s.part.summed m.channel raw).passed (n + 1)).converterFree m := by
  simp only [Part.measurementDone, hrun, hz, Part.calibrationDone]
  rw [Part.summed_eq, if_pos hc, if_neg (by omega)]
  rfl

include hrun hz in
theorem Part.measurementDone_of_lastPass (hc : m.channel = 19) (hn : n + 1 = 8) : s.part.measurementDone raw =
    (s.part.summed m.channel raw).zeroSet.zeroCalibrated.converterFree m := by
  simp only [Part.measurementDone, hrun, hz, Part.calibrationDone]
  rw [Part.summed_eq, if_pos hc, if_pos (by omega)]
  rfl

include hsource in
theorem Part.nextPos_of_sweep (p : Part) : p.nextPos m = nextChannel m.channel := if_pos hsource

include ho hrun hz hsource hheld in
/-- Within a pass the sweep goes on. -/
theorem pass_goesOn (h : m.channel.val + 1 < 20) : LeadsTo (.measurementComplete raw) s
    ((s.part.summed m.channel raw).swept m ⟨m.channel.val + 1, h⟩) := by
  have hne : m.channel ≠ 19 := fun e => by rw [e] at h; exact absurd h (by decide)
  have hnext : nextChannel m.channel = ⟨m.channel.val + 1, h⟩ := dif_pos h
  refine leadsTo_of_event (f := fun p => p.measurementDone raw) rfl ?_ ho
  rw [Part.measurementDone_of_pass hrun hz hne,
    Part.converterFree_granted (p := s.part.summed m.channel raw) (.inl (Option.isSome_iff_exists.2 ⟨n, hz⟩)) hheld
    (fun _ e => absurd e hne), Part.nextPos_of_sweep hsource, hnext]

include ho hrun hz hsource hheld in
/-- At the end of passes 1 to 7 the pass is counted and the sweep goes on from position 0. -/
theorem pass_ends (hc : m.channel = 19) (hn : n + 1 < 8) (hm : s.part.mdc.mode ≠ .storage) :
    LeadsTo (.measurementComplete raw) s (((s.part.summed m.channel raw).passed (n + 1)).swept m 0) := by
  have hnext : nextChannel m.channel = 0 := by rw [hc]; rfl
  refine leadsTo_of_event (f := fun p => p.measurementDone raw) rfl ?_ ho
  rw [Part.measurementDone_of_passEnd hrun hz hc hn,
    Part.converterFree_granted (p := (s.part.summed m.channel raw).passed (n + 1)) (.inl rfl) hheld (fun _ _ => hm),
    Part.nextPos_of_sweep hsource, hnext]

end

/-! ### The end of the 8th pass (R194) -/

theorem Part.Metered.zeroCalibrated {r p : Part} (h : r.Metered p) : r.Metered p.zeroCalibrated := by
  unfold Part.zeroCalibrated Part.startDone
  split
  · exact (h.setMdc _).setMode _ _
  · exact h.setMdc _

theorem Part.zeroCalibrated_of_waits {p : Part} (h : p.mdc.mode ≠ .start ∨ p.mdc.bankDone = false) :
    p.zeroCalibrated = { p with mdc := { p.mdc with zeroDone := true } } := by
  refine if_neg fun h' => ?_
  rcases h with h | h
  · exact h h'.1
  · exact absurd h'.2.1 (by simp [h])

/-- The second done mark is the same event whichever it is. -/
theorem Part.zeroCalibrated_eq {p : Part} (hm : p.mdc.mode = .start) (hb : p.mdc.bankDone = true) :
    p.zeroCalibrated = ({ p with mdc := { p.mdc with zeroDone := true } } : Part).bankCalibrated := by
  have hmarks : ({ p.mdc with zeroDone := true, bankDone := true } : Mdc) = { p.mdc with zeroDone := true } := by rw [← hb]
  rw [Part.zeroCalibrated, Part.bankCalibrated, if_pos hm]
  dsimp only
  rw [hmarks]

theorem Part.BlockWork.converterFree {r p : Part} (h : r.BlockWork p) (m : Measuring) : r.BlockWork (p.converterFree m) :=
  Part.BlockWork.arbiter (h.other rfl)

/-- Of the channels, the end of START changes none of what the calibration has set. -/
theorem lastPass_ends {s : State} {m : Measuring} {raw : Int} {n : Nat} (hrun : s.part.out.running = some m)
    (hz : s.part.out.zeroPass = some n) (hc : m.channel = 19) (hn : n + 1 = 8) :
    ∃ t, exec (.measurementComplete raw) s = .next t ∧ t.pending = s.pending ∧ t.part.out.zeroPass = none ∧
      (s.part.mdc.mode ≠ .start ∨ s.part.mdc.bankDone = false → t.part.mdc = { s.part.mdc with zeroDone := true }) ∧
      (s.part.mdc.mode = .start → s.part.mdc.bankDone = true → StartEnds s.part t.part) ∧
      ∀ x, (t.part.chan x).meter = ((s.part.summed m.channel raw).chan x).zeroed.meter := by
  have hstep := Part.measurementDone_of_lastPass (raw := raw) hrun hz hc hn
  have hmeters := (Part.Metered.refl (s.part.summed m.channel raw).zeroSet).zeroCalibrated.converterFree m |>.finish
  refine ⟨⟨(s.part.measurementDone raw).finish, s.pending⟩, rfl, rfl, ?_⟩
  rw [hstep]
  refine ⟨hmeters.zeroPass, fun hw => ?_, fun hm hb => ?_, fun x => ?_⟩
  · obtain ⟨q, k, hq, e, _⟩ := Part.finish_cases ((s.part.summed m.channel raw).zeroSet.zeroCalibrated.converterFree m)
    have hwork := ((Part.BlockWork.refl _).converterFree m).trans hq
    rw [e]
    refine hwork.mdc.trans ?_
    rw [Part.zeroCalibrated_of_waits (p := (s.part.summed m.channel raw).zeroSet) hw]
    rfl
  · generalize hp : ({ (s.part.summed m.channel raw).zeroSet with
      mdc := { s.part.mdc with zeroDone := true } } : Part) = p
    have hcal : (s.part.summed m.channel raw).zeroSet.zeroCalibrated = p.bankCalibrated := by
      rw [← hp]
      exact Part.zeroCalibrated_eq (p := (s.part.summed m.channel raw).zeroSet) hm hb
    have hmode : p.mdc.mode = .start := by rw [← hp]; exact hm
    have hdone : p.mdc.zeroDone = true := by rw [← hp]
    have hfree := (Part.BlockWork.refl p.bankCalibrated).converterFree m
    obtain ⟨_, _, hlnk, _⟩ := (p.bankCalibrated_endWork.trans hfree.endWork).lnk
    rw [hcal]
    obtain ⟨q, k, hq, e, hk⟩ := Part.finish_cases (p.bankCalibrated.converterFree m)
    have hends := Part.bankCalibrated_startEnds hmode hdone (hfree.trans hq) fun hears => hk (by rw [hlnk]; exact hears.1)
    rw [e]
    subst hp
    exact hends
  · rw [← Part.zeroSet_chan]
    exact hmeters.chan x

/-- Settles O35: the completions within a pass, at the end of passes 1 to 7, and at the end of the 8th. -/
theorem zeroCalibrationSumsAndSetsOffsets : Obligations.ZeroCalibrationSumsAndSetsOffsets := by
  intro s m raw n ho hrun hz hsource hheld p c sums
  refine ⟨fun h => ?_, fun hc hn hm => ?_, fun hc hn => ?_⟩
  · have hgo := pass_goesOn (raw := raw) ho hrun hz hsource hheld h
    rw [Part.swept, Part.summed_chan] at hgo
    exact hgo
  · have hgo := pass_ends (raw := raw) ho hrun hz hsource hheld hc hn hm
    have hchan : ((p.summed c raw).passed (n + 1)).chan 0 = _ := p.summed_chan c raw 0
    rw [Part.swept, hchan] at hgo
    exact hgo
  · obtain ⟨t, he, hp, hpass, hwait, hend, hchan⟩ := lastPass_ends (raw := raw) hrun hz hc hn
    refine ⟨t, he, hp, hpass, hwait, hend, fun x => ?_⟩
    have hx := hchan x
    obtain ⟨hsum, hset, hkept⟩ := ((p.summed c raw).chan x).zeroed_meter
    simp only [Channel.meter, Prod.mk.injEq] at hx
    obtain ⟨hzero, hsat, _, _, hcal, _⟩ := hx
    rw [Part.summed_chan] at hsum hset hkept
    rw [hzero, hsat, hcal, Part.summed_chan]
    exact ⟨hsum, hset, hkept⟩

end Sys2Proof.Machine
end

section
/-! PROOFS. OUTPUT_STATUS with clear on one channel (R93, R65; O37). -/

namespace Sys2Proof.Machine

theorem OutLatches.isEmpty_iff {x : OutLatches} : x.isEmpty = true ↔ x = OutLatches.none := by
  rw [OutLatches.isEmpty, beq_iff_eq]

theorem channelsArg_ofNat (c : LoadId) : channelsArg (BitVec.ofNat 8 c.val) = some [c] := by
  have hne : BitVec.ofNat 8 c.val ≠ 0xFF#8 := fun h => by
    have hn : c.val % 256 = 255 := by simpa using congrArg BitVec.toNat h
    have hlt := c.isLt
    omega
  rw [channelsArg, if_neg hne, loadArg_ofNat]
  rfl

/-- The condition of OPEN (R93): ON, with a last reading below the level. -/
theorem Part.outCondition_open (p : Part) (c : LoadId) : p.outCondition c .openLoad = true ↔
    (p.chan c).switching = .on ∧ ∃ ma, (p.chan c).last = some ma ∧ ma < p.openLevel c := by
  unfold Part.outCondition
  cases (p.chan c).last <;> simp

/-- The record of a channel after a clear (R93). -/
def Part.clearedRec (p : Part) (c : LoadId) : Channel := { p.chan c with
  latched := p.keptLatches c
  overCount := if (p.chan c).latched.overcurrent = true ∧ (p.keptLatches c).overcurrent = false then 0 else (p.chan c).overCount
  openCount := if (p.chan c).latched.openLoad = true ∧ (p.keptLatches c).openLoad = false then 0 else (p.chan c).openCount }

/-- The part with a cleared channel switched to OFF. -/
def Part.clearedOff (p : Part) (c : LoadId) : Part := { p.setChan c { p.clearedRec c with switching := .off } with
  out := { (p.setChan c { p.clearedRec c with switching := .off }).out with
    running := p.out.running.map fun m : Measuring => if m.channel = c then { m with onThroughout := false } else m } }

theorem Part.clearChannel_eq (p : Part) (c : LoadId) : p.clearChannel c =
    if (p.chan c).switching = .tripped ∧ p.keptLatches c = OutLatches.none then (p.clearedOff c).loadCleared c
    else p.setChan c (p.clearedRec c) := by
  have hrec : ({ p.chan c with
      latched := p.keptLatches c
      overCount := if (p.chan c).latched.overcurrent && !(p.keptLatches c).overcurrent then 0 else (p.chan c).overCount
      openCount := if (p.chan c).latched.openLoad && !(p.keptLatches c).openLoad then 0 else (p.chan c).openCount } : Channel) =
        p.clearedRec c := by
    simp only [Part.clearedRec, Bool.and_eq_true, Bool.not_eq_true']
  unfold Part.clearChannel
  dsimp only
  rw [hrec, Part.setSwitching, Part.chan_setChan, Part.setChan_setChan]
  simp only [OutLatches.isEmpty_iff]
  rfl

/-- A FAULTED load of the host whose output has returned to OFF (R65). -/
theorem Part.loadCleared_of_general {p : Part} {l : LoadId} (hl : l.val < 12) (hr : p.params.role l = .general)
    (hf : (p.load l).state = .faulted) :
    p.loadCleared l = (p.setLoad l { p.load l with state := .off, motorClass := none }).postLoad l .faultCleared := by
  rw [Part.loadCleared, if_pos hf, Part.setLoadState, if_neg (by decide), Part.tellOwner_of_general (p := p.setLoad l _) hl _ hr]

theorem Part.channelPayload_congr {p q : Part} (h : q.out = p.out) (c : LoadId) : q.channelPayload c = p.channelPayload c := by
  simp only [Part.channelPayload, Part.chan_of_out h, h]

/-- OUTPUT_STATUS with clear, for one channel whose clear is known whole. -/
theorem clear_replies {s : State} {c : LoadId} {q x : Part} (hr : s.part.Ready)
    (hc : (s.part.queued (.outputStatus (BitVec.ofNat 8 c.val) 1#8)).clearChannel c =
      q.queued (.outputStatus (BitVec.ofNat 8 c.val) 1#8)) (ho : q.outbox = []) (hw : s.part.BlockWork q) (hx : q.out = x.out) :
    Replies (.outputStatus (BitVec.ofNat 8 c.val) 1#8) s q .ok (listField x.channelPayload [c]) := by
  refine replies_of_effect (f := fun q => listField q.channelPayload [c]) hr rfl ?_ ho hw ?_
  · have hflag : flagArg 1#8 = some true := rfl
    rw [Part.handle, Part.outputStatus, channelsArg_ofNat, hflag]
    exact congrArg (fun b => Part.answer b .ok fun q => listField q.channelPayload [c]) hc
  · exact congrArg (fun b => listField (fun _ => b) [c]) (Part.channelPayload_congr (p := x) hx c)

/-- Settles O37: the clear leaves the channel TRIPPED while a cause stands, and returns it and its load to OFF otherwise. -/
theorem clearRemovesAbsentCauses : Obligations.ClearRemovesAbsentCauses := by
  intro s c hr hc hg p r on opened kept cleared q off i
  refine ⟨p.outCondition_open c, fun h => ?_, fun ht hk hf => ?_⟩
  · refine clear_replies (q := q) hr ?_ hr.1 ((Part.BlockWork.refl p).setChan c _) rfl
    rw [Part.clearChannel_eq, if_neg fun h' => ?_]
    · rfl
    · exact h.elim (fun h => h h'.1) fun h => h h'.2
  · have hoff := (Part.BlockWork.refl p).other (q := off) rfl
    refine clear_replies hr ?_ ?_ ((hoff.setLoad c _).postLoad c .faultCleared) ?_
    · rw [Part.clearChannel_eq, if_pos ⟨ht, hk⟩,
        Part.loadCleared_of_general (p := (p.queued _).clearedOff c) hc hg hf]
      exact Part.queued_postLoad (off.setLoad c { p.load c with state := .off, motorClass := none }) _ _ _
    · rw [Part.postLoad, Part.post_outbox]
      exact hr.1
    · rw [Part.postLoad, Part.post_out]
      rfl

end Sys2Proof.Machine
end

section
/-! PROOFS. EXERCISE (R94, R95, R65; O39): its refusals in order, the selection of an OFF load of the host, the release. -/

namespace Sys2Proof.Machine

/-! ### The refusals (R94) -/

/-- The request of an EXERCISE that selects. -/
abbrev exerciseOf (c : LoadId) (x : Byte) : Request := .exercise (BitVec.ofNat 8 c.val) (some x)

section

variable {p : Part} {c : LoadId}

theorem Part.serviceRefusal_of_wrong (h : p.mdc.mode = .active ∨ p.mdc.mode = .storage) :
    p.serviceRefusal = some .wrongMode := by
  rcases h with h | h <;> rw [Part.serviceRefusal, h]

theorem Part.serviceRefusal_of_service (h : p.mdc.mode = .service) : p.serviceRefusal = none := by rw [Part.serviceRefusal, h]

theorem Part.exerciseRefusal_of_owned (h : p.params.role c = .frostValve ∨ 18 ≤ c.val) :
    p.exerciseRefusal c = some .owned := if_pos (h.imp id fun h => decide_eq_true h)

section

variable (hr : p.params.role c ≠ .frostValve) (hc : c.val < 18)
include hr hc

theorem Part.exerciseRefusal_of_host : p.exerciseRefusal c =
    if p.out.exercise.any (· != c) then some .exerciseActive
    else if (p.chan c).switching = .tripped then some .faulted
    else if (p.load c).wanted then some .loadActive
    else none := by
  refine if_neg fun h => h.elim hr fun h => ?_
  have : 18 ≤ c.val := of_decide_eq_true h
  omega

theorem Part.exerciseRefusal_of_other {c' : LoadId} (he : p.out.exercise = some c') (hne : c' ≠ c) :
    p.exerciseRefusal c = some .exerciseActive := by
  rw [Part.exerciseRefusal_of_host hr hc, he]
  exact if_pos (bne_iff_ne.2 hne)

variable (he : p.out.exercise = none ∨ p.out.exercise = some c)
include he

theorem Part.exerciseRefusal_of_free : p.exerciseRefusal c =
    if (p.chan c).switching = .tripped then some .faulted else if (p.load c).wanted then some .loadActive else none := by
  rw [Part.exerciseRefusal_of_host hr hc]
  refine if_neg ?_
  rcases he with he | he <;> simp [he]

theorem Part.exerciseRefusal_of_tripped (ht : (p.chan c).switching = .tripped) : p.exerciseRefusal c = some .faulted := by
  rw [Part.exerciseRefusal_of_free hr hc he, if_pos ht]

theorem Part.exerciseRefusal_of_wanted (ht : (p.chan c).switching ≠ .tripped)
    (hl : (p.load c).state = .on ∨ (p.load c).state = .shed) : p.exerciseRefusal c = some .loadActive := by
  have hw : (p.load c).wanted = true := hl.elim LoadRec.wanted_of_on LoadRec.wanted_of_shed
  rw [Part.exerciseRefusal_of_free hr hc he, if_neg ht, if_pos hw]

end

/-! ### The request in the queue -/

theorem Part.handle_exercise_wrongMode {x : Byte} (hx : x.toNat ≤ 1) (h : p.mdc.mode = .active ∨ p.mdc.mode = .storage) :
    p.handle (exerciseOf c x) = p.refuse .wrongMode := by
  obtain ⟨on, ho⟩ := switchArg_of_le hx
  simp only [Part.handle, Part.exercise, Part.exerciseSet, loadArg_ofNat, ho, Part.serviceRefusal_of_wrong h]

theorem Part.handle_exercise_refused {x : Byte} {e : Status} (hx : x.toNat ≤ 1) (hm : p.mdc.mode = .service)
    (h : p.exerciseRefusal c = some e) : p.handle (exerciseOf c x) = p.refuse e := by
  obtain ⟨on, ho⟩ := switchArg_of_le hx
  simp only [Part.handle, Part.exercise, Part.exerciseSet, loadArg_ofNat, ho, Part.serviceRefusal_of_service hm, h]

theorem Part.handle_exercise {x : Byte} {on : Bool} (ho : switchArg x = some on) (hm : p.mdc.mode = .service)
    (h : p.exerciseRefusal c = none) :
    p.handle (exerciseOf c x) = (p.exerciseSelect c on).answer .ok Part.exercisePayload := by
  simp only [Part.handle, Part.exercise, Part.exerciseSet, loadArg_ofNat, ho, Part.serviceRefusal_of_service hm, h]

theorem Part.handle_exerciseNone (hm : p.mdc.mode = .service) :
    p.handle (.exercise 0xFF#8 none) = p.exerciseRelease.answer .ok Part.exercisePayload := by
  simp only [Part.handle, Part.exercise, if_true, Part.exerciseNone, Part.serviceRefusal_of_service hm]

end

theorem Part.exercisePayload_congr {p q : Part} (h : q.out = p.out) : q.exercisePayload = p.exercisePayload := by
  simp only [Part.exercisePayload, h, Part.chan_of_out h]

/-! ### The selection and the release of a load of the host (R94, R95, R65) -/

/-- The part with a selection for exercise, or none. -/
def Part.marked (p : Part) (e : Option LoadId) : Part := { p with out := { p.out with exercise := e } }

/-- The part with a load of the host selected, its channel not yet switched. -/
def Part.selected (p : Part) (c : LoadId) : Part :=
  ((p.marked (some c)).setLoad c { p.load c with state := .exercised, motorClass := none }).postLoad c .exercised

/-- The part with the selection over and the load of the host OFF again. -/
def Part.released (p : Part) (c : LoadId) : Part :=
  (((p.orderOff c).marked none).setLoad c { p.load c with state := .off, motorClass := none }).postLoad c .released

section

variable {p : Part} {c : LoadId} (hc : c.val < 12) (hr : p.params.role c = .general)
include hc hr

theorem Part.loadExercised_of_general (hl : (p.load c).state = .off) : p.loadExercised c =
    (p.setLoad c { p.load c with state := .exercised, motorClass := none }).postLoad c .exercised := by
  rw [Part.loadExercised, if_pos hl, Part.setLoadState, if_neg (by decide),
    Part.tellOwner_of_general (p := p.setLoad c _) hc _ hr]

theorem Part.loadReleased_of_general (hl : (p.load c).state = .exercised) : p.loadReleased c =
    (p.setLoad c { p.load c with state := .off, motorClass := none }).postLoad c .released := by
  rw [Part.loadReleased, if_pos hl, Part.setLoadState, if_neg (by decide),
    Part.tellOwner_of_general (p := p.setLoad c _) hc _ hr]

theorem Part.exerciseSelect_of_general (he : p.out.exercise = none) (hl : (p.load c).state = .off) (on : Bool) :
    p.exerciseSelect c on = (p.selected c).exerciseSwitch c on := by
  have hlight : isLightChannel c = false := by simp [isLightChannel, hc]
  have hload : (p.marked (some c)).loadExercised c = p.selected c :=
    Part.loadExercised_of_general (p := p.marked (some c)) hc hr hl
  rw [Part.exerciseSelect, if_neg (by simp [he]), ← Part.marked]
  simp only [hload, hlight]
  rfl

theorem Part.exerciseRelease_of_general (he : p.out.exercise = some c) (hl : (p.load c).state = .exercised) :
    p.exerciseRelease = p.released c := by
  have hsame : (p.orderOff c).params = p.params ∧ ∀ l, (p.orderOff c).load l = p.load l := by
    obtain ⟨o, e, _⟩ := p.orderOff_cases c
    rw [e]
    exact ⟨rfl, fun _ => rfl⟩
  obtain ⟨hps, hload⟩ := hsame
  have hfreed := Part.loadReleased_of_general (p := (p.orderOff c).marked none) hc (hps ▸ hr) ((congrArg _ (hload c)).trans hl)
  rw [Part.exerciseRelease, he]
  refine hfreed.trans ?_
  rw [Part.released, ← hload c]
  rfl

end

theorem Part.queued_released (p : Part) (c : LoadId) (r : Request) : (p.queued r).released c = (p.released c).queued r := by
  rw [Part.released, Part.queued_orderOff]
  exact Part.queued_postLoad (((p.orderOff c).marked none).setLoad c { p.load c with state := .off, motorClass := none }) ..

theorem Part.queued_selected (p : Part) (c : LoadId) (r : Request) : (p.queued r).selected c = (p.selected c).queued r :=
  Part.queued_postLoad ((p.marked (some c)).setLoad c { p.load c with state := .exercised, motorClass := none }) ..

theorem Part.selected_chan (p : Part) (c : LoadId) : (p.selected c).chan c = p.chan c := by
  rw [Part.selected, Part.postLoad, Part.post_chan_read]
  rfl

theorem Part.queued_exerciseSwitch {p : Part} {c : LoadId} (h : (p.chan c).switching ≠ .tripped) (on : Bool) (r : Request) :
    (p.queued r).exerciseSwitch c on = (p.exerciseSwitch c on).queued r := by
  cases on with
  | true => exact Part.queued_orderOn _ _ h
  | false => exact Part.queued_orderOff ..

/-- The selection of a load of the host is answered OK. -/
theorem exercise_selects {s : State} {c : LoadId} {x : Byte} {on : Bool} (hready : s.part.Ready) (hx : switchArg x = some on)
    (hm : s.part.mdc.mode = .service) (hc : c.val < 12) (hr : s.part.params.role c = .general)
    (he : s.part.out.exercise = none) (ht : (s.part.chan c).switching ≠ .tripped) (hl : (s.part.load c).state = .off) :
    Replies (.exercise (BitVec.ofNat 8 c.val) (some x)) s ((s.part.selected c).exerciseSwitch c on) .ok
      ((s.part.selected c).exerciseSwitch c on).exercisePayload := by
  have hts : ((s.part.selected c).chan c).switching ≠ .tripped := by rw [Part.selected_chan]; exact ht
  have hfree : (s.part.queued (exerciseOf c x)).exerciseRefusal c = none := by
    refine (Part.exerciseRefusal_of_free (p := s.part.queued (exerciseOf c x)) (fun h => ?_) (by omega) (.inl he)).trans ?_
    · exact absurd (hr.symm.trans h) (by decide)
    · refine (if_neg ht).trans (if_neg ?_)
      exact Bool.eq_false_iff.1 (LoadRec.wanted_of_off hl)
  have hselect := Part.exerciseSelect_of_general (p := s.part.queued (exerciseOf c x)) hc hr he hl on
  rw [Part.queued_selected, Part.queued_exerciseSwitch hts] at hselect
  have hwork : s.part.BlockWork ((s.part.selected c).exerciseSwitch c on) := by
    have hsel : s.part.BlockWork (s.part.selected c) :=
      (((Part.BlockWork.refl s.part).other (q := s.part.marked (some c)) rfl).setLoad c _).postLoad c .exercised
    cases on with
    | true => exact hsel.orderOn c
    | false => exact hsel.orderOff c
  refine replies_of_effect hready rfl ?_ ?_ hwork (Part.exercisePayload_congr rfl)
  · refine (Part.handle_exercise (p := s.part.queued _) hx hm hfree).trans ?_
    rw [hselect]
    rfl
  · have hbox : (s.part.selected c).outbox = [] := (Part.post_outbox ..).trans hready.1
    cases on with
    | true => exact (Part.orderOn_outbox hts).trans hbox
    | false => exact (Part.orderOff_outbox ..).trans hbox

/-- EXERCISE NONE is answered OK, with nothing selected. -/
theorem exerciseNone_replies {s : State} {q : Part} (hready : s.part.Ready) (hm : s.part.mdc.mode = .service)
    (hq : (s.part.queued (.exercise 0xFF#8 none)).exerciseRelease = q.queued (.exercise 0xFF#8 none)) (ho : q.outbox = [])
    (hw : s.part.BlockWork q) (he : q.out.exercise = none) : Replies (.exercise 0xFF#8 none) s q .ok [0#8] := by
  refine replies_of_effect (f := Part.exercisePayload) hready rfl ?_ ho hw ?_
  · refine (Part.handle_exerciseNone (p := s.part.queued _) hm).trans ?_
    rw [hq]
    rfl
  · simp only [Part.exercisePayload, he]
    rfl

/-- Settles O39: each refusal by the first check that fails, the selection and the release of a load of the host. -/
theorem exerciseSelectsAndReleases : Obligations.ExerciseSelectsAndReleases := by
  intro s c x hready hx p i payload
  refine ⟨fun hm => replies_of_refuse hready rfl (Part.handle_exercise_wrongMode hx hm), fun hm => ?_⟩
  have refused {e : Status} (h : (p.queued (exerciseOf c x)).exerciseRefusal c = some e) : Replies i s p e [] :=
    replies_of_refuse hready rfl (Part.handle_exercise_refused hx hm h)
  refine ⟨fun h => refused (Part.exerciseRefusal_of_owned h), fun hr hc => ⟨fun c' he hne => ?_, fun he ht => ?_,
    fun he ht hl => ?_⟩, fun hc hr he ht hl => ?_, fun he => ?_, fun hc hr he ht hl => ?_⟩
  · exact refused (Part.exerciseRefusal_of_other hr hc he hne)
  · exact refused (Part.exerciseRefusal_of_tripped hr hc he ht)
  · exact refused (Part.exerciseRefusal_of_wanted hr hc he ht hl)
  · intro q₁ q₂ q₃
    have h (on : Bool) (ho : switchArg x = some on) := exercise_selects hready ho hm hc hr he ht hl
    by_cases h0 : x = 0#8
    · have hon := h true (by rw [h0]; rfl)
      have hq : q₃ = (p.selected c).orderOn c := if_pos h0
      rw [hq]
      exact hon
    · have hoff := h false (by rw [show x = 1#8 from by bv_omega]; rfl)
      have hq : q₃ = (p.selected c).orderOff c := if_neg h0
      rw [hq]
      exact hoff
  · refine exerciseNone_replies hready hm ?_ hready.1 (Part.BlockWork.refl p) he
    rw [Part.exerciseRelease, show (p.queued _).out.exercise = none from he]
  · intro q₁ q₂
    have hq : (q₂.setLoad c { p.load c with state := .off, motorClass := none }).postLoad c .released = p.released c := rfl
    rw [hq]
    have hwork : p.BlockWork (p.released c) :=
      ((((Part.BlockWork.refl p).orderOff c).other (q := (p.orderOff c).marked none) rfl).setLoad c _).postLoad c .released
    refine exerciseNone_replies hready hm ?_ ?_ hwork ?_
    · rw [← Part.queued_released]
      exact Part.exerciseRelease_of_general (p := p.queued _) hc hr he hl
    · exact (Part.post_outbox ..).trans ((Part.orderOff_outbox ..).trans hready.1)
    · exact congrArg Out.exercise (Part.post_out ..)

end Sys2Proof.Machine
end

section
/-! PROOFS. SPOT_CHECK (R82, R84, R96; O38): refused, queued, joined or granted, and the completion that answers it. -/

namespace Sys2Proof.Machine

/-! ### The request (R82, R96) -/

/-- The request of a SPOT_CHECK. -/
abbrev spotOf (c : LoadId) : Request := .spotCheck (BitVec.ofNat 8 c.val)

/-- The part whose request `r`, alone in the queue, waits for its completion. -/
def Part.waiting (p : Part) (r : Request) : Part := { p with lnk := { p.lnk with requests := [r], inFlight := true } }

section

variable {p : Part} {c : LoadId}

theorem spotQueue_any_eq_false {q : List SpotEntry} (h : ∀ e ∈ q, e.channel ≠ c) : q.any (·.channel == c) = false := by
  simpa using h

theorem postSpotEntry_new {q : List SpotEntry} (h : ∀ e ∈ q, e.channel ≠ c) (hl : q.length < 4) (host check : Bool) :
    postSpotEntry q c host check = q ++ [⟨c, host, check⟩] := by
  rw [postSpotEntry, spotQueue_any_eq_false h, if_neg (by decide), if_pos hl]

theorem postSpotEntry_join {before after : List SpotEntry} {e : SpotEntry} (he : e.channel = c)
    (h : ∀ x ∈ before ++ after, x.channel ≠ c) :
    postSpotEntry (before ++ e :: after) c true false = before ++ { e with host := true } :: after := by
  have hleave (xs : List SpotEntry) (hx : ∀ x ∈ xs, x.channel ≠ c) : xs.map (fun e =>
      if e.channel = c then { e with host := e.host || true, check := e.check || false } else e) = xs :=
    (List.map_congr_left fun x hm => if_neg (hx x hm)).trans (List.map_id' xs)
  have hb := hleave before fun x hx => h x (List.mem_append_left _ hx)
  have ha := hleave after fun x hx => h x (List.mem_append_right _ hx)
  rw [postSpotEntry, if_pos (by simp [he]), List.map_append, List.map_cons, hb, ha, if_pos he]
  simp only [Bool.or_true, Bool.or_false]

theorem Part.handle_spotCheck_refused {st : Status} (h : p.spotRefusal c = some st) : p.handle (spotOf c) = p.refuse st := by
  simp only [Part.handle, Part.spotCheck, loadArg_ofNat, h]

theorem Part.handle_spotCheck (h : p.spotRefusal c = none) : p.handle (spotOf c) = (p.postHostSpot c).hold := by
  simp only [Part.handle, Part.spotCheck, loadArg_ofNat, h]

theorem Part.spotRefusal_of_calibrating (h : p.out.zeroPass.isSome = true) : p.spotRefusal c = some .starting := if_pos h

variable (hz : p.out.zeroPass = none)
include hz

theorem Part.spotRefusal_of_full (hl : 4 ≤ p.out.spotQueue.length) (h : ∀ e ∈ p.out.spotQueue, e.channel ≠ c) :
    p.spotRefusal c = some .busy := by
  rw [Part.spotRefusal, hz, spotQueue_any_eq_false h, if_neg (by decide)]
  exact if_pos ⟨hl, rfl⟩

theorem Part.spotRefusal_of_accepted (h : p.out.spotQueue.length < 4 ∨ ∃ e ∈ p.out.spotQueue, e.channel = c) :
    p.spotRefusal c = none := by
  rw [Part.spotRefusal, hz, if_neg (by decide)]
  refine if_neg fun ⟨hl, hn⟩ => ?_
  rcases h with h | ⟨e, he, hc⟩
  · omega
  · have hany : p.out.spotQueue.any (·.channel == c) = true := List.any_eq_true.2 ⟨e, he, beq_iff_eq.2 hc⟩
    rw [hany] at hn
    exact absurd hn (by decide)

end

/-- A host's spot check that finds the converter free and nothing waiting is granted at once (R80). -/
theorem Part.postHostSpot_of_free {p : Part} (hz : p.out.zeroPass = none) (hrun : p.out.running = none)
    (ht : p.out.trackingSlot = none) (hq : p.out.spotQueue = []) (c : LoadId) :
    p.postHostSpot c = { p with out := { p.out with
      running := some ⟨c, .spot, true, decide ((p.chan c).switching = .on),
        if p.out.lastGroup = some (groupOf c) then 1 else 3⟩ } } := by
  have hnew : postSpotEntry p.out.spotQueue c true false = [⟨c, true, false⟩] := by rw [hq]; rfl
  rw [Part.postHostSpot, hnew, Part.arbiter]
  simp only [hrun, hz, ht, Option.isSome_none, Bool.false_eq_true, if_false, Part.grant, beq_eq_decide]
  rw [← hq]
  rfl

/-- An accepted SPOT_CHECK is held, its request in flight. -/
theorem spotCheck_held {s : State} {c : LoadId} {q : Part} (hr : s.part.Ready) (h : s.part.spotRefusal c = none)
    (hq : (s.part.queued (spotOf c)).postHostSpot c = q.queued (spotOf c)) (ho : q.outbox = []) :
    LeadsTo (.spotCheck (BitVec.ofNat 8 c.val)) s (q.waiting (spotOf c)) := by
  refine leadsTo_of_event (exec_of_request s (r := spotOf c) rfl) ?_ ho
  rw [Part.takeRequest_of_ready hr, Part.dispatchHead]
  dsimp only
  rw [Part.handle_spotCheck (p := s.part.queued (spotOf c)) h, Part.hold, hq, Part.delivered_of_empty (p := q.queued _) ho]
  rfl

/-! ### The completion on a channel that latches nothing (R84, R96) -/

/-- No counter of low readings latches OPEN. -/
def Part.Unlatched (p : Part) (c : LoadId) (ma : Nat) (onThroughout : Bool) : Prop :=
  (p.chan c).latched.openLoad = true ∨ (p.reads c ma onThroughout).openCount < 8

section

variable {p : Part} {c : LoadId} {ma : Nat} {onThroughout : Bool}

theorem Part.Unlatched.readAt (h : p.Unlatched c ma onThroughout) :
    p.readAt c ma onThroughout = p.setChan c (p.reads c ma onThroughout) := by
  refine if_neg fun ⟨h8, hl⟩ => ?_
  rcases h with h | h
  · exact absurd (h.symm.trans hl) (by decide)
  · omega

theorem Part.dryMeasured_waiting (p : Part) (l : LoadId) (r : Request) :
    (p.waiting r).dryMeasured l = (p.dryMeasured l).waiting r := by
  have hsame : (p.waiting r).params.loadWith .pump = some l ∧ (p.waiting r).dryCondition = false ↔
    p.params.loadWith .pump = some l ∧ p.dryCondition = false := Iff.rfl
  unfold Part.dryMeasured
  by_cases h : p.params.loadWith .pump = some l ∧ p.dryCondition = false
  · rw [if_pos h, if_pos (hsame.2 h)]
    rfl
  · rw [if_neg h, if_neg fun h' => h (hsame.1 h')]

theorem Part.Unlatched.taken_waiting (h : p.Unlatched c ma onThroughout) (r : Request) :
    (p.waiting r).taken c ma onThroughout = (p.taken c ma onThroughout).waiting r := by
  have hw : (p.waiting r).Unlatched c ma onThroughout := h
  rw [Part.taken, Part.taken, hw.readAt, h.readAt, ← Part.dryMeasured_waiting]
  rfl

theorem Part.Unlatched.taken_rest (h : p.Unlatched c ma onThroughout) : ∃ ls w, p.taken c ma onThroughout =
    { p.setChan c (p.reads c ma onThroughout) with ldm := { p.ldm with loads := ls }, wat := w } := by
  rw [Part.taken, h.readAt, Part.dryMeasured]
  split <;> exact ⟨_, _, rfl⟩

end

theorem Part.completeHead_waiting {p : Part} (hq : p.lnk.requests = []) (hf : p.lnk.inFlight = false) (r : Request)
    (st : Status) (payload : List Byte) : (p.waiting r).completeHead st payload = p.withReply r st payload := by
  change ({ p with lnk := { p.lnk with
    requests := [], inFlight := false
    reply := some ⟨replyKind (requestKind r), st, payload, none, 0⟩ } } : Part) = _
  rw [Part.withReply, ← hq, ← hf]

/-- The part whose converter a measurement has left and which has it again at once, or holds. -/
def Part.resumed (p : Part) (m : Measuring) : Part := if p.out.sweepHeld = true then p.freed m else p.swept m p.out.sweepPos

theorem Part.converterFree_resumed {p : Part} {m : Measuring} (hs : p.out.OnlySweep) (hsource : m.source ≠ .sweep) :
    p.converterFree m = p.resumed m := by
  have hnext : p.nextPos m = p.out.sweepPos := if_neg hsource
  have hstay (h : m.source = .sweep) : m.channel = 19 → p.mdc.mode ≠ .storage := absurd h hsource
  unfold Part.resumed
  split
  next h => exact Part.converterFree_held hs h hstay
  next h => rw [Part.converterFree_granted hs (Bool.eq_false_iff.2 h) hstay, hnext]

theorem Part.resumed_withReply (p : Part) {m : Measuring} (hsource : m.source ≠ .sweep) (r : Request) (st : Status)
    (payload : List Byte) : (p.withReply r st payload).resumed m = ({ p with out := { p.out with
      running := if p.out.sweepHeld = true then none else some ⟨p.out.sweepPos, .sweep, false,
        decide ((p.chan p.out.sweepPos).switching = .on), if groupOf p.out.sweepPos = groupOf m.channel then 1 else 3⟩
      lastGroup := some (groupOf m.channel) } } : Part).withReply r st payload := by
  have hnext : (p.withReply r st payload).nextPos m = p.out.sweepPos := if_neg hsource
  by_cases h : p.out.sweepHeld = true
  · rw [if_pos h]
    refine (if_pos h).trans ?_
    rw [Part.freed, hnext]
    rfl
  · rw [if_neg h]
    exact if_neg h

/-- The completion of the spot check for which a request waits. -/
theorem spot_completes {s : State} {m : Measuring} {raw : Int} {ma : Nat} {r : Request}
    (hma : (s.part.chan m.channel).reading raw = ma) (ho : s.part.outbox = []) (hq : s.part.lnk.requests = [])
    (hf : s.part.lnk.inFlight = false) (hrun : s.part.out.running = some m) (hhost : m.host = true) (hsource : m.source = .spot)
    (hc : m.channel.val < 18) (hz : s.part.out.zeroPass = none) (hs : s.part.out.OnlySweep)
    (hn : (s.part.chan m.channel).latched.overcurrent = true ∨ (s.part.reads m.channel ma m.onThroughout).overCount < 8)
    (hl : s.part.Unlatched m.channel ma m.onThroughout)
    (hd : (s.part.load m.channel).state = .on → ma ≤ s.part.committed m.channel) :
    let d := s.part.taken m.channel ma m.onThroughout
    LeadsTo (.measurementComplete raw) { s with part := s.part.waiting r }
      ((d.withReply r .ok (d.spotPayload m.channel ma)).resumed m) := by
  intro d
  obtain ⟨ls, w, e⟩ := hl.taken_rest
  have hu : (s.part.waiting r).Untripped m ma := by
    refine ⟨ho, hrun, hz, hn, fun hon => .inl ?_⟩
    have hr := Part.Unlatched.readAt (p := s.part.waiting r) (c := m.channel) (ma := ma) (onThroughout := m.onThroughout) hl
    rw [hr] at hon ⊢
    exact hd hon
  have hrest : d.lnk = s.part.lnk ∧ d.outbox = [] ∧ d.out.OnlySweep := by
    rw [show d = _ from e]
    exact ⟨rfl, ho, hs⟩
  obtain ⟨hlnk, hbox, honly⟩ := hrest
  have htaken : (s.part.waiting r).taken m.channel ma m.onThroughout = d.waiting r := hl.taken_waiting r
  clear_value d
  refine leadsTo_of_event (f := fun p => p.measurementDone raw) rfl ?_ ?_
  · have hsame : ((s.part.waiting r).chan m.channel).reading raw = ma := hma
    have hstep := Part.measurementDone_of_untripped (p := s.part.waiting r) (by rw [hsame]; exact hu)
    have hanswer := Part.completeHead_waiting (by rw [hlnk]; exact hq) (by rw [hlnk]; exact hf) r .ok
      (d.spotPayload m.channel ma)
    have hpay : (d.waiting r).spotPayload m.channel ma = d.spotPayload m.channel ma := rfl
    dsimp only at hstep
    rw [hsame, htaken, Part.motReached_of_no_motor hc, Part.hostReached, if_pos ⟨hsource, hhost⟩, hpay,
      hanswer] at hstep
    exact hstep.trans (Part.converterFree_resumed honly (by rw [hsource]; decide))
  · unfold Part.resumed
    split <;> exact hbox

theorem Part.spotPayload_eq (p : Part) {c : LoadId} (hc : c.val < 18) (ma : Nat) : p.spotPayload c ma =
    n8 c.val ++ n16 ma ++ n8 (p.chan c).switching.code ++ n8 (p.chan c).latched.bits ++
      if 12 ≤ c.val then n16 (p.chan c).duty else [] := by
  unfold Part.spotPayload
  by_cases h : 12 ≤ c.val
  · rw [if_pos h, if_pos (isLightChannel_iff.2 ⟨h, hc⟩)]
  · rw [if_neg h, if_neg fun h' => h (isLightChannel_iff.1 h').1]

/-- Settles O38: the refusals in order, the entry queued, joined or granted at once, and the completion with its reply. -/
theorem spotCheckQueuesAndWaits : Obligations.SpotCheckQueuesAndWaits := by
  intro s c hready p i held
  refine ⟨fun hz => ?_, fun hz hl h => ?_, fun hz hrun hl h => ?_, fun hz hrun before e after hq he h => ?_,
    fun hz hrun ht hq => ?_, ?_⟩
  · exact replies_of_refuse hready rfl (Part.handle_spotCheck_refused (p := p.queued _) (Part.spotRefusal_of_calibrating hz))
  · exact replies_of_refuse hready rfl (Part.handle_spotCheck_refused (p := p.queued _) (Part.spotRefusal_of_full hz hl h))
  · refine spotCheck_held hready (Part.spotRefusal_of_accepted hz (.inl hl)) ?_ hready.1
    rw [Part.postHostSpot, postSpotEntry_new h hl]
    exact if_pos hrun
  · refine spotCheck_held hready (Part.spotRefusal_of_accepted hz (.inr ⟨e, by rw [hq]; simp, he⟩)) ?_ hready.1
    rw [Part.postHostSpot, show (p.queued _).out.spotQueue = _ from hq, postSpotEntry_join he h]
    exact if_pos hrun
  · refine spotCheck_held hready (Part.spotRefusal_of_accepted hz (.inl (by rw [hq]; decide))) ?_ hready.1
    rw [Part.postHostSpot_of_free (p := p.queued _) hz hrun ht hq]
    rfl
  · intro m raw hrun hhost hsource hmc hc hz hq ht u r ma overs opened hn hl hd q₁ q₂ switching next granted
    subst hmc
    have hcount : r.overCounted ma (p.params.tripCurrent m.channel) m.onThroughout = overs := Channel.overCounted_eq ..
    have hopen : p.Unlatched m.channel ma m.onThroughout := hl
    have hdry : p.taken m.channel ma m.onThroughout = q₂ := by
      rw [Part.taken_eq, hopen.readAt, Part.reads, hcount]
      rfl
    have hdone := spot_completes (raw := raw) (r := spotOf m.channel) (ma := ma) rfl hready.1 hready.2.2.1 hready.2.2.2.1 hrun
      hhost hsource hc hz (.inr ⟨ht, hq⟩) (by rw [Part.reads, hcount]; exact hn) hopen hd
    obtain ⟨ls, w, e⟩ := hopen.taken_rest
    rw [hdry] at hdone e
    have hrec : q₂.chan m.channel = p.reads m.channel ma m.onThroughout := by
      rw [e]
      exact Part.chan_setChan ..
    have hpay : q₂.spotPayload m.channel ma = n8 m.channel.val ++ n16 ma ++ n8 switching ++ n8 r.latched.bits ++
        if 12 ≤ m.channel.val then n16 r.duty else [] := by
      rw [Part.spotPayload_eq _ hc, hrec]
      rfl
    have hswitching (x : LoadId) : (q₂.chan x).switching = (p.chan x).switching := by
      by_cases hx : x = m.channel
      · rw [hx, hrec]
        rfl
      · rw [e]
        exact congrArg Channel.switching (Part.chan_setChan_of_ne _ _ hx)
    have hout : q₂.out.sweepHeld = p.out.sweepHeld ∧ q₂.out.sweepPos = p.out.sweepPos := by
      rw [e]
      exact ⟨rfl, rfl⟩
    obtain ⟨hheld, hpos⟩ := hout
    dsimp only at hdone
    rw [hpay] at hdone
    generalize (n8 m.channel.val ++ n16 ma ++ n8 switching ++ n8 r.latched.bits ++
      if 12 ≤ m.channel.val then n16 r.duty else []) = payload at hdone ⊢
    have hnext : (q₂.withReply (spotOf m.channel) .ok payload).resumed m =
        ({ q₂ with out := { q₂.out with
            running := if p.out.sweepHeld = true then none else some granted
            lastGroup := some (groupOf m.channel) } } : Part).withReply (spotOf m.channel) .ok payload := by
      rw [Part.resumed_withReply _ (by rw [hsource]; decide), hpos, hheld, hswitching]
    rw [hnext] at hdone
    exact hdone

end Sys2Proof.Machine
end

section
/-! PROOFS. The drivers' reports (R90 to R92, R118, R65; O36): a backfeed, the withdrawals, and the temperature warning of a group,
which trips its channels one by one. -/

namespace Sys2Proof.Machine

/-! ### What the trip of one channel leaves (`Part.TripWork`) -/

/-- The records that the trips of a group are about. -/
def Part.tripView (p : Part) := (p.mot, p.ldm.loads, p.out.channels, p.out.groupHot, p.outbox)

/-- From `p` to `q` nothing of these records has changed but channel `c`, its load, and reports of a motor's trip. -/
structure Part.TripWork (c : LoadId) (p q : Part) : Prop where
  chan : ∀ m, m ≠ c → q.chan m = p.chan m
  load : ∀ m, m ≠ c → q.load m = p.load m
  mot : q.mot = p.mot
  hot : q.out.groupHot = p.out.groupHot
  reports : ∃ xs, q.outbox = p.outbox ++ xs ∧ ∀ x ∈ xs, ∃ a, x = Report.motorFaulted a

theorem Part.leave_tripView (p : Part) (l : LoadId) : (p.leave l).tripView = p.tripView := by
  have hpost (q : Part) (k : NoticeKind) (n : Nat) (d : List Byte) : (q.post k n d).tripView = q.tripView := by
    unfold Part.post
    split <;> rfl
  have hbus (q : Part) (b : BusName) (x : BusRec) : (q.setBus b x).tripView = q.tripView := by cases b <;> rfl
  unfold Part.leave
  split
  · exact hbus ..
  · unfold Part.leaveStack Part.depthJudge
    dsimp only
    split
    · split
      · exact hbus ..
      · exact (hpost ..).trans ((hbus ..).trans (hbus ..))
    · exact (hbus ..).trans (hbus ..)
  · rfl

namespace Part.TripWork

variable {r p q : Part} {c : LoadId}

theorem refl (p : Part) : p.TripWork c p := ⟨fun _ _ => rfl, fun _ _ => rfl, rfl, rfl, [], by simp⟩

theorem trans (h : r.TripWork c p) (k : p.TripWork c q) : r.TripWork c q := by
  obtain ⟨hc, hl, hm, hh, xs, ho, hx⟩ := h
  obtain ⟨kc, kl, km, kh, ys, ko, ky⟩ := k
  refine ⟨fun m e => (kc m e).trans (hc m e), fun m e => (kl m e).trans (hl m e), km.trans hm, kh.trans hh, xs ++ ys,
    by rw [ko, ho, List.append_assoc], fun x hm => ?_⟩
  exact (List.mem_append.1 hm).elim (hx x) (ky x)

/-- A change of the other records alone. -/
theorem other (h : r.TripWork c p) (e : q.tripView = p.tripView) : r.TripWork c q := by
  simp only [Part.tripView, Prod.mk.injEq] at e
  obtain ⟨e1, e2, e3, e4, e5⟩ := e
  refine h.trans ⟨fun m _ => ?_, fun m _ => ?_, e1, e4, [], by simp [e5]⟩
  · simp only [Part.chan, e3]
  · simp only [Part.load, e2]

theorem setChan (h : r.TripWork c p) (x : Channel) : r.TripWork c (p.setChan c x) :=
  h.trans ⟨fun _ e => Part.chan_setChan_of_ne _ _ e, fun _ _ => rfl, rfl, rfl, [], by simp⟩

theorem setLoad (h : r.TripWork c p) (x : LoadRec) : r.TripWork c (p.setLoad c x) :=
  h.trans ⟨fun _ _ => rfl, fun _ e => Part.load_setLoad_of_ne _ _ e, rfl, rfl, [], by simp⟩

theorem setSwitching (h : r.TripWork c p) (w : Switching) : r.TripWork c (p.setSwitching c w) := (h.setChan _).other rfl

theorem post (h : r.TripWork c p) (k : NoticeKind) (n : Nat) (d : List Byte) : r.TripWork c (p.post k n d) := by
  refine h.other ?_
  unfold Part.post
  split <;> rfl

theorem leave (h : r.TripWork c p) (l : LoadId) : r.TripWork c (p.leave l) := h.other (p.leave_tripView l)

theorem endExerciseOf (h : r.TripWork c p) (l : LoadId) : r.TripWork c (p.endExerciseOf l) := by
  refine h.other ?_
  unfold Part.endExerciseOf
  split <;> rfl

theorem motorFaulted (h : r.TripWork c p) (a : Axis) : r.TripWork c (p.report (.motorFaulted a)) :=
  h.trans ⟨fun _ _ => rfl, fun _ _ => rfl, rfl, rfl, [.motorFaulted a], rfl, by simp⟩

end Part.TripWork

/-! ### A light that goes dark, a load whose owner hears of the trip (R182, R65) -/

/-- From `p` to `q` the record of the channel has taken another duty at most. -/
def Part.Redutied (c : LoadId) (p q : Part) : Prop := ∃ d, q.chan c = { p.chan c with duty := d }

theorem Part.Redutied.refl (p : Part) (c : LoadId) : p.Redutied c p := ⟨(p.chan c).duty, rfl⟩

/-- The work of an owner on a report of a trip: a new duty of the channel, or a report to the Motion Unit. -/
def Part.Told (c : LoadId) (p q : Part) : Prop := p.TripWork c q ∧ p.Redutied c q ∧ ∀ l, q.load l = p.load l

theorem Part.darken_told (p : Part) (i : LightId) : p.Told (lightLoad i) (p.darken i) := by
  have hset : p.Told (lightLoad i) (p.setPresent i 0) := by
    have hl : p.TripWork (lightLoad i) (p.setLight i { p.light i with present := 0 }) := (Part.TripWork.refl p).other rfl
    unfold Part.setPresent
    dsimp only
    split
    · exact ⟨hl, .refl _ _, fun _ => rfl⟩
    · exact ⟨hl.setChan _, ⟨_, Part.chan_setChan ..⟩, fun _ => rfl⟩
  obtain ⟨hw, hd, hl⟩ := hset
  exact ⟨hw.other rfl, hd, hl⟩

/-- A load that is no unit's: an output of the host, the step light's, a motor's. -/
def Pages.Unowned (ps : Pages) (c : LoadId) : Prop := ps.role c = .general ∨ ps.role c = .stepLight ∨ ps.role c = .motor

theorem Part.tellOwner_told {p : Part} {c : LoadId} (h : p.params.Unowned c) : p.Told c (p.tellOwner c .faulted) := by
  have hself : p.Told c p := ⟨.refl p, .refl p c, fun _ => rfl⟩
  unfold Part.tellOwner
  split
  next i hi =>
    have hc : lightLoad i = c := by
      unfold lightOf? at hi
      split at hi
      next hb =>
        cases hi
        exact Fin.ext (by simp only [lightLoad]; omega)
      next => cases hi
    rw [← hc]
    exact p.darken_told i
  next =>
    split
    · exact ⟨(Part.TripWork.refl p).motorFaulted _, .refl _ _, fun _ => rfl⟩
    · rcases h with h | h | h <;> rw [h] <;> exact hself

/-! ### The trip of one channel (R91, R92) -/

theorem Part.loadTrip_work {p : Part} {c : LoadId} (h : p.params.Unowned c) :
    p.TripWork c (p.loadTrip c) ∧ p.Redutied c (p.loadTrip c) ∧ ((p.loadTrip c).load c).state = .faulted := by
  unfold Part.loadTrip
  split
  next hf => exact ⟨.refl p, .refl p c, hf⟩
  next =>
    have hleft := ((Part.TripWork.refl p).leave c).setLoad (c := c)
      { (p.leave c).load c with state := .faulted, motorClass := none }
    have hstate : (p.leave c).setLoadState c .faulted =
        (p.leave c).setLoad c { (p.leave c).load c with state := .faulted, motorClass := none } := rfl
    have hps : ((p.leave c).setLoadState c .faulted).params = p.params :=
      (((Part.BlockWork.refl p).leave c).setLoadState c .faulted).params
    have hchan : ((p.leave c).setLoadState c .faulted).chan c = p.chan c := Part.chan_of_traced (p.leave_traced c) c
    obtain ⟨hw, ⟨d, hd⟩, hl⟩ := Part.tellOwner_told (p := (p.leave c).setLoadState c .faulted) (by rw [hps]; exact h)
    refine ⟨?_, ⟨d, ?_⟩, ?_⟩
    · rw [hstate] at hw ⊢
      exact (hleft.trans hw).post _ _ _
    · rw [Part.postLoad, Part.post_chan_read, hd, hchan]
    · rw [Part.postLoad, Part.post_load_read, hl, hstate, Part.load_setLoad]

/-- The trip of one channel of a hot group. -/
structure Part.Heated (c : LoadId) (p q : Part) : Prop where
  latched : (q.chan c).latched = { (p.chan c).latched with hot := true }
  tripped : (p.chan c).latched.hot = false → (q.chan c).switching = .tripped ∧ ((p.chan c).switching ≠ .tripped →
    (q.chan c).tripCount = min 255 ((p.chan c).tripCount + 1) ∧ (q.chan c).openCount = 0 ∧ (q.load c).state = .faulted)

theorem Part.trip_heated {p : Part} {c : LoadId} (h : p.params.Unowned c) :
    p.TripWork c (p.trip c .hot) ∧ p.Heated c (p.trip c .hot) := by
  unfold Part.trip
  split
  next hl =>
    have hl : (p.chan c).latched.hot = true := hl
    refine ⟨.refl p, ?_, fun hn => ?_⟩
    · rw [← hl]
    · rw [hl] at hn
      cases hn
  next hl =>
    have hshut : p.TripWork c (p.shut c .hot) := ((Part.TripWork.refl p).setSwitching .tripped).setChan _
    dsimp only
    rw [← Part.shut]
    split
    next hs =>
      refine ⟨hshut.post _ _ _, ?_, fun _ => ⟨?_, fun hn => absurd hs hn⟩⟩
      · rw [Part.postOutputFault, Part.post_chan_read, Part.shut_chan, Channel.tripped, if_pos hs]
        rfl
      · rw [Part.postOutputFault, Part.post_chan_read, Part.shut_chan, Channel.tripped, if_pos hs]
        exact hs
    next hs =>
      have hps : ((p.shut c .hot).endExerciseOf c).params = p.params := by
        unfold Part.endExerciseOf
        split <;> rfl
      have hchan : ((p.shut c .hot).endExerciseOf c).chan c = (p.chan c).tripped .hot :=
        (Part.chan_of_traced (Part.endExerciseOf_traced ..) c).trans (Part.shut_chan ..)
      obtain ⟨hw, ⟨d, hd⟩, hload⟩ := Part.loadTrip_work (p := (p.shut c .hot).endExerciseOf c) (by rw [hps]; exact h)
      rw [hchan, Channel.tripped, if_neg hs] at hd
      refine ⟨((hshut.endExerciseOf c).trans hw).post _ _ _, ?_, fun _ => ⟨?_, fun _ => ⟨?_, ?_, ?_⟩⟩⟩
      · rw [Part.postOutputFault, Part.post_chan_read, hd]
        rfl
      · rw [Part.postOutputFault, Part.post_chan_read, hd]
      · rw [Part.postOutputFault, Part.post_chan_read, hd]
      · rw [Part.postOutputFault, Part.post_chan_read, hd]
      · rw [Part.postOutputFault, Part.post_load_read, hload]

/-! ### The trips of a group, one upon the other (R91) -/

theorem Part.BlockWork.trip {r p : Part} (h : r.BlockWork p) (c : LoadId) (x : OutCause) : r.BlockWork (p.trip c x) := by
  have hshut : r.BlockWork (p.shut c x) := h.other rfl
  unfold Part.trip
  split
  · exact h
  · dsimp only
    rw [← Part.shut]
    refine Part.BlockWork.post ?_ _ trivial
    split
    · exact hshut
    · refine Part.BlockWork.loadTrip ?_ c
      unfold Part.endExerciseOf
      split
      · exact hshut.other rfl
      · exact hshut

/-- The channels of a list have been tripped, and nothing else that the trips are about has changed. -/
structure Part.AllHeated (cs : List LoadId) (p q : Part) : Prop where
  heated : ∀ c ∈ cs, p.Heated c q
  chan : ∀ m, m ∉ cs → q.chan m = p.chan m
  load : ∀ m, m ∉ cs → q.load m = p.load m
  mot : q.mot = p.mot
  hot : q.out.groupHot = p.out.groupHot
  reports : ∃ xs, q.outbox = p.outbox ++ xs ∧ ∀ x ∈ xs, ∃ a, x = Report.motorFaulted a
  work : p.BlockWork q

theorem Part.Heated.of_eq {p q q' : Part} {c : LoadId} (h : p.Heated c q) (hc : q'.chan c = q.chan c) (hl : q'.load c = q.load c) :
    p.Heated c q' := by
  obtain ⟨h1, h2⟩ := h
  exact ⟨by rw [hc]; exact h1, by rw [hc, hl]; exact h2⟩

theorem Part.Heated.of_left {p p' q : Part} {c : LoadId} (h : p'.Heated c q) (hc : p'.chan c = p.chan c) : p.Heated c q := by
  obtain ⟨h1, h2⟩ := h
  rw [hc] at h1 h2
  exact ⟨h1, h2⟩

theorem Part.foldl_trip_heated {cs : List LoadId} (hn : cs.Nodup) {p : Part} (h : ∀ c ∈ cs, p.params.Unowned c) :
    p.AllHeated cs (cs.foldl (fun q c => q.trip c .hot) p) := by
  induction cs generalizing p with
  | nil => exact ⟨by simp, fun _ _ => rfl, fun _ _ => rfl, rfl, rfl, ⟨[], by simp⟩, .refl p⟩
  | cons c cs ih =>
    obtain ⟨hnotin, hrest⟩ := List.nodup_cons.1 hn
    obtain ⟨⟨hchan, hload, hmot, hhot, xs, hout, hxs⟩, hheated⟩ := Part.trip_heated (h c List.mem_cons_self)
    have hwork := (Part.BlockWork.refl p).trip c .hot
    have hps := hwork.params
    obtain ⟨kheated, kchan, kload, kmot, khot, ⟨ys, kout, kys⟩, kwork⟩ :=
      ih hrest (p := p.trip c .hot) fun m hm => by rw [hps]; exact h m (List.mem_cons_of_mem c hm)
    refine ⟨fun m hm => ?_, fun m hm => ?_, fun m hm => ?_, kmot.trans hmot, khot.trans hhot,
      ⟨xs ++ ys, ?_, fun x hx => (List.mem_append.1 hx).elim (hxs x) (kys x)⟩, hwork.trans kwork⟩
    · rcases List.mem_cons.1 hm with rfl | hm
      · exact hheated.of_eq (kchan m hnotin) (kload m hnotin)
      · exact (kheated m hm).of_left (hchan m fun e => hnotin (e ▸ hm))
    · rw [List.mem_cons, not_or] at hm
      exact (kchan m hm.2).trans (hchan m hm.1)
    · rw [List.mem_cons, not_or] at hm
      exact (kload m hm.2).trans (hload m hm.1)
    · rw [List.foldl_cons, kout, hout, List.append_assoc]

/-- With the bridge at rest, the reports of a motor's trip change nothing. -/
theorem Part.deliver_of_motors {p : Part} (ha : p.mot.active = none) (h : ∀ x ∈ p.outbox, ∃ a, x = Report.motorFaulted a)
    (n : Nat) : p.deliver n = { p with outbox := [] } := by
  induction n generalizing p with
  | zero => rfl
  | succ n ih =>
    unfold Part.deliver
    split
    next ho => rw [← ho]
    next x rest ho =>
      obtain ⟨a, rfl⟩ := h x (by rw [ho]; exact List.mem_cons_self)
      have htake : ({ p with outbox := rest } : Part).takeReport (.motorFaulted a) = { p with outbox := rest } := by
        simp only [Part.takeReport, Part.motorReported, ha]
      rw [htake, ih (p := { p with outbox := rest }) ha fun x hx => h x (by rw [ho]; exact List.mem_cons_of_mem _ hx)]

/-- The end of an event whose reports change nothing. -/
theorem Part.finish_of_motors {p : Part} (ha : p.mot.active = none) (h : ∀ x ∈ p.outbox, ∃ a, x = Report.motorFaulted a) :
    ∃ w k, p.finish = { p with wat := w, lnk := k, outbox := [] } := by
  obtain ⟨k, e⟩ := p.delivered.dryCheck.transmit_only_link
  rw [Part.finish, e]
  rcases p.delivered.dryCheck_cases with ⟨_, e⟩ | ⟨_, e⟩ <;> rw [e, Part.delivered, Part.deliver_of_motors ha h]
  · exact ⟨_, k, rfl⟩
  · exact ⟨_, k, rfl⟩

theorem mem_groupChannels {c : LoadId} {g : GroupId} : c ∈ groupChannels g ↔ groupOf c = g := by
  simp [groupChannels]

/-- Settles O36: the backfeed and the withdrawals by what they change, the warning by the trips of its group. -/
theorem driverReportsLatchAndTrip : Obligations.DriverReportsLatchAndTrip := by
  refine ⟨fun s c g ho => ?_, fun s g ho ha hroles => ?_⟩
  · intro p r
    refine ⟨fun hon => ?_, fun hon hl => ?_, fun hon hl => ?_, ?_, ?_, ?_⟩
    · exact leadsTo_of_event (f := fun p => p.backfeed c) rfl (if_pos hon) ho
    · refine leadsTo_of_event (f := fun p => p.backfeed c) rfl ((if_neg hon).trans ?_)
        ((Part.post_outbox ..).trans ho)
      rw [Part.latchOnly, Part.chan_setChan, Part.setChan_setChan]
      exact if_neg (Bool.eq_false_iff.1 hl)
    · refine leadsTo_of_event (f := fun p => p.backfeed c) rfl ((if_neg hon).trans ?_) ho
      rw [Part.latchOnly, Part.chan_setChan]
      exact if_pos hl
    · exact leadsTo_of_event (f := fun p => p.backfeedOver c) rfl rfl ho
    · exact leadsTo_of_event (f := fun p => p.groupHotOver g) rfl rfl ho
    · exact leadsTo_of_event rfl rfl ho
  · refine ⟨⟨(s.part.groupHotRaised g).finish, s.pending⟩, rfl, rfl, ?_⟩
    generalize hp : ({ s.part with out := { s.part.out with groupHot := s.part.out.groupHot.set g true } } : Part) = p
    have hnodup : (groupChannels g).Nodup := (List.nodup_finRange 20).filter _
    have hps : p.params = s.part.params := by rw [← hp]
    have hheated := Part.foldl_trip_heated hnodup (p := p) fun c hc => by rw [hps]; exact hroles c (mem_groupChannels.1 hc)
    rw [Part.groupHotRaised, hp]
    generalize (groupChannels g).foldl (fun q c => q.trip c .hot) p = q at hheated
    obtain ⟨hh, hchan, hload, hmot, hhot, ⟨xs, hout, hxs⟩, hwork⟩ := hheated
    obtain ⟨w, k, e⟩ := Part.finish_of_motors (p := q) (by rw [hmot, ← hp]; exact ha) (by
      rw [hout, ← hp, ho]
      exact hxs)
    rw [e]
    subst hp
    refine ⟨?_, fun c hc => ?_, fun c hc => ?_, hwork.params, hwork.bnk, hwork.sli, hwork.mdc⟩
    · show q.out.groupHot[g] = true
      rw [hhot]
      simp
    · obtain ⟨hl, ht⟩ := hh c (mem_groupChannels.2 hc)
      exact ⟨hl, ht⟩
    · have hn : c ∉ groupChannels g := fun h => hc (mem_groupChannels.1 h)
      exact ⟨hchan c hn, hload c hn⟩

end Sys2Proof.Machine
end

section
/-! PROOFS. The part's own clock (log 2; O2): what 1 ms makes of the records that stand in tables, and the step on an empty queue. -/

namespace Sys2Proof.Machine

/-! ### One millisecond on the records -/

@[simp] theorem Part.tick_chan (p : Part) (c : LoadId) : p.tick.chan c = (p.chan c).tick := by
  simp [Part.chan, Part.tick, Out.tick]

@[simp] theorem Part.tick_light (p : Part) (c : LightId) : p.tick.light c = (p.light c).ticked := by
  simp [Part.light, Part.tick]

@[simp] theorem Part.tick_line (p : Part) (l : LineId) : p.tick.line l = (p.line l).tick (p.params.lineMode l) := by
  simp [Part.line, Part.tick, Sli.tick]

/-- The count-up timers of a line count while their conditions hold (R109, R112, R117). -/
theorem LineRec.tick_eq (r : LineRec) (m : LineMode) : r.tick m = { r with
    settle := tickDown r.settle, rateTimer := tickDown r.rateTimer, age := r.age.map fun a => min 3600000 (a + 1)
    nodataTimer := if r.enabled = true ∧ m ≠ .pulse then min 3600000 (r.nodataTimer + 1) else r.nodataTimer
    standstillTimer := if r.supply = .on ∧ m = .pulse then min 3600000 (r.standstillTimer + 1) else r.standstillTimer
    openTimer := if r.supply = .on ∧ r.current < 20 then min 20 (r.openTimer + 1) else r.openTimer } := by
  simp [LineRec.tick]

theorem Part.unknownRuns_eq (p : Part) : p.unknownRuns = (p.mdc.mode != .start && p.clm.bay == none &&
    (p.clm.guard == .safe || p.clm.guard == .watch || p.clm.guard == .risk)) := by
  unfold Part.unknownRuns
  cases p.clm.bay <;> rfl

/-! ### The step on an empty queue -/

theorem step_of_due {s : State} {i : Instr} (hq : s.pending = []) (h : s.part.due = some i) : step s = exec i s := by
  simp only [step, hq, State.clock, h]

theorem step_of_not_due {s : State} (hq : s.pending = []) (h : s.part.due = none) :
    step s = .next { s with part := s.part.tick } := by
  simp only [step, hq, State.clock, h]

/-- Settles O2: the clock takes what is due; with nothing due each block's record is the ticked one. -/
theorem emptyQueueTurnsTheClock : Obligations.EmptyQueueTurnsTheClock := by
  refine fun s hq => ⟨fun i hi => step_of_due hq hi, fun hd => ?_⟩
  refine ⟨_, step_of_not_due hq hd, hq, rfl, rfl, rfl, rfl, rfl, rfl, rfl, rfl, fun c => s.part.tick_chan c, rfl,
    fun l => (s.part.tick_line l).trans (LineRec.tick_eq _ _), rfl, ?_, rfl, fun c => s.part.tick_light c, rfl, rfl⟩
  show s.part.clm.tick s.part.unknownRuns = _
  rw [Part.unknownRuns_eq]
  rfl

end Sys2Proof.Machine
end

section
/-! PROOFS. The records of the sensor lines (R99 to R118): one line record written after another, what a latch leaves, and the
learning of the ADAPTIVE method with the end of a window (O42). -/

namespace Sys2Proof.Machine

variable (p : Part)

/-! ### One line record after another -/

@[simp] theorem Part.setLine_setLine (l : LineId) (r r' : LineRec) : (p.setLine l r).setLine l r' = p.setLine l r' := by
  simp [Part.setLine]

@[simp] theorem Part.setLine_line (l : LineId) : p.setLine l (p.line l) = p := by simp [Part.setLine, Part.line]

/-! ### Latches (R115) -/

theorem LineLatches.add_of_has {x : LineLatches} {c : LineCause} (h : x.has c = true) : x.add c = x := by
  cases x
  cases c <;> cases h <;> rfl

theorem Part.latchLine_of_latched {l : LineId} {c : LineCause} (h : (p.line l).latched.has c = true) : p.latchLine l c = p :=
  if_pos h

theorem Part.latchLine_of_new {l : LineId} {c : LineCause} (h : (p.line l).latched.has c = false) : p.latchLine l c =
    (p.setLine l { p.line l with latched := (p.line l).latched.add c }).post .lineFault l.val
      (n8 c.code ++ n16 ((p.line l).latched.add c).bits ++ n8 (p.line l).supply.code ++ n8 (p.params.lineRole l).code) := by
  simp [Part.latchLine, h]

/-- A latch changes the latches of its line and the notices. -/
theorem Part.latchLine_only_link (l : LineId) (c : LineCause) : ∃ k, p.latchLine l c =
    { p.setLine l { p.line l with latched := (p.line l).latched.add c } with lnk := k } := by
  cases h : (p.line l).latched.has c with
  | true =>
    rw [p.latchLine_of_latched h, LineLatches.add_of_has h]
    exact ⟨p.lnk, (p.setLine_line l).symm⟩
  | false =>
    obtain ⟨_, _, e, _⟩ := Part.post_cases _ _ _ _
    exact ⟨_, (p.latchLine_of_new h).trans e⟩

section

variable (l : LineId) (c : LineCause)

@[simp] theorem Part.line_latchLine :
    (p.latchLine l c).line l = { p.line l with latched := (p.line l).latched.add c } := by
  obtain ⟨k, e⟩ := p.latchLine_only_link l c
  rw [e]
  exact Part.line_setLine ..

theorem Part.line_latchLine_of_ne {l' : LineId} (h : l' ≠ l) : (p.latchLine l c).line l' = p.line l' := by
  obtain ⟨k, e⟩ := p.latchLine_only_link l c
  rw [e]
  exact Part.line_setLine_of_ne _ _ h

@[simp] theorem Part.latchLine_params : (p.latchLine l c).params = p.params := by
  obtain ⟨k, e⟩ := p.latchLine_only_link l c; rw [e]; rfl
@[simp] theorem Part.latchLine_bnk : (p.latchLine l c).bnk = p.bnk := by
  obtain ⟨k, e⟩ := p.latchLine_only_link l c; rw [e]; rfl
@[simp] theorem Part.latchLine_chg : (p.latchLine l c).chg = p.chg := by
  obtain ⟨k, e⟩ := p.latchLine_only_link l c; rw [e]; rfl
@[simp] theorem Part.latchLine_ldm : (p.latchLine l c).ldm = p.ldm := by
  obtain ⟨k, e⟩ := p.latchLine_only_link l c; rw [e]; rfl
@[simp] theorem Part.latchLine_out : (p.latchLine l c).out = p.out := by
  obtain ⟨k, e⟩ := p.latchLine_only_link l c; rw [e]; rfl
@[simp] theorem Part.latchLine_wat : (p.latchLine l c).wat = p.wat := by
  obtain ⟨k, e⟩ := p.latchLine_only_link l c; rw [e]; rfl
@[simp] theorem Part.latchLine_clm : (p.latchLine l c).clm = p.clm := by
  obtain ⟨k, e⟩ := p.latchLine_only_link l c; rw [e]; rfl
@[simp] theorem Part.latchLine_mdc : (p.latchLine l c).mdc = p.mdc := by
  obtain ⟨k, e⟩ := p.latchLine_only_link l c; rw [e]; rfl
@[simp] theorem Part.latchLine_outbox : (p.latchLine l c).outbox = p.outbox := by
  obtain ⟨k, e⟩ := p.latchLine_only_link l c; rw [e]; rfl

end

/-! ### Learning (R102 to R105) -/

theorem outside_eq (lo hi x : Int) : outside lo hi x = decide (x < lo ∨ hi < x) := (Bool.decide_or ..).symm

theorem amplitudeLimits_le (n : Nat) : (amplitudeLimits n).1 ≤ (amplitudeLimits n).2 := by
  unfold amplitudeLimits; split <;> decide

section

variable {ps : Pages} {l : LineId} (r : LineRec) (mean : Nat)

/-- With the FIXED method nothing is learned. -/
theorem LineRec.learn_of_fixed (h : ps.adaptive l = false) :
    r.learnBase ps l mean = r ∧ r.learnA1 ps l mean = r ∧ r.learnA2 ps l mean = r := by
  have hn : ¬ ps.adaptive l = true := by simp [h]
  exact ⟨if_neg hn, if_neg hn, if_neg hn⟩

theorem LineRec.derived_of_adaptive (h : ps.adaptive l = true) :
    r.derived ps l = { r with thr := adaptiveThresholds r.ib r.a1 r.a2 } := by
  rw [LineRec.derived, if_pos h]

theorem LineRec.learnBase_of_adaptive (h : ps.adaptive l = true) :
    let lo : Int := ps.lineField l 7
    let hi : Int := lo + ps.lineField l 8
    let x := r.ib + ((mean : Int) - r.ib).tdiv 8
    r.learnBase ps l mean = { r with
      ib := max lo (min hi x), baseSat := decide (x < lo ∨ hi < x)
      thr := adaptiveThresholds (max lo (min hi x)) r.a1 r.a2 } := by
  rw [LineRec.learnBase, if_pos h]
  simp only [LineRec.derived_of_adaptive _ h, learnStep, outside_eq]
  rw [clampInt_eq _ _ _ (by omega)]

theorem LineRec.learnA1_of_adaptive (h : ps.adaptive l = true) :
    let lim := amplitudeLimits (ps.lineField l 9)
    let x := r.a1 + ((mean : Int) - r.ib - r.a1).tdiv 4
    r.learnA1 ps l mean = { r with
      a1 := max lim.1 (min lim.2 x), a1Sat := decide (x < lim.1 ∨ lim.2 < x)
      thr := adaptiveThresholds r.ib (max lim.1 (min lim.2 x)) r.a2 } := by
  rw [LineRec.learnA1, if_pos h]
  simp only [LineRec.derived_of_adaptive _ h, learnStep, outside_eq]
  rw [clampInt_eq _ _ _ (amplitudeLimits_le _)]

theorem LineRec.learnA2_of_adaptive (h : ps.adaptive l = true) :
    let lim := amplitudeLimits (ps.lineField l 10)
    let x := r.a2 + ((mean : Int) - r.ib - r.a1 - r.a2).tdiv 4
    r.learnA2 ps l mean = { r with
      a2 := max lim.1 (min lim.2 x), a2Sat := decide (x < lim.1 ∨ lim.2 < x)
      thr := adaptiveThresholds r.ib r.a1 (max lim.1 (min lim.2 x)) } := by
  rw [LineRec.learnA2, if_pos h]
  simp only [LineRec.derived_of_adaptive _ h, learnStep, outside_eq]
  rw [clampInt_eq _ _ _ (amplitudeLimits_le _)]

end

/-! ### The end of a window (R101, R104, R117) -/

/-- What the window shows of a line, and the base that it has learned. -/
def LineRec.windowed (r : LineRec) (ps : Pages) (l : LineId) (mean current : Nat) : LineRec :=
  let x := if r.supply = .settling ∨ r.windowBase = true then r.learnBase ps l mean else r
  { x with
    windowMean := mean, current := current, windowBase := decide (x.level = .base)
    openTimer := if x.supply = .on ∧ (20 ≤ current ∨ 20 ≤ mean) then 0 else x.openTimer }

variable {p}

theorem Part.windowEnd_of_dark {l : LineId} (h : (p.line l).supply = .off ∨ (p.line l).supply = .fault) (mean current : Nat) :
    p.windowEnd l mean current = p := by
  have hp : (p.line l).powered = false := by rcases h with h | h <;> simp [LineRec.powered, h]
  simp [Part.windowEnd, hp]

/-- The window's record, as `windowEnd` forms it. -/
theorem LineRec.windowed_eq (r : LineRec) (ps : Pages) (l : LineId) (mean current : Nat) :
    let x := if r.supply = .settling ∨ r.windowBase = true then r.learnBase ps l mean else r
    { x.observed current (max current mean) with windowMean := mean, windowBase := x.level == .base } =
      r.windowed ps l mean current := by
  simp only [LineRec.windowed, LineRec.observed, le_max_iff, beq_eq_decide]

theorem Part.windowEnd_of_settling {l : LineId} (h : (p.line l).supply = .settling) (mean current : Nat) :
    p.windowEnd l mean current = p.setLine l ((p.line l).windowed p.params l mean current) := by
  rw [← LineRec.windowed_eq]
  simp [Part.windowEnd, LineRec.powered, h, LineRec.observed]

theorem Part.windowEnd_of_on {l : LineId} (h : (p.line l).supply = .on) (mean current : Nat) :
    p.windowEnd l mean current =
      let count := highCounted (p.line l).highCount mean
      let q := p.setLine l { (p.line l).windowed p.params l mean current with highCount := count }
      if 16 ≤ count then q.latchLine l .currentHigh else q := by
  rw [← LineRec.windowed_eq]
  simp [Part.windowEnd, LineRec.powered, h, LineRec.observed]

/-- Settles O42: the learning by the method of the line, the window by the supply state and the counter. -/
theorem baseWindowsLearnAndCount : Obligations.BaseWindowsLearnAndCount := by
  refine ⟨fun ps l r mean => ?_, fun s l mean current ho => ?_⟩
  · exact ⟨r.learn_of_fixed mean, fun h => ⟨r.learnBase_of_adaptive mean h, r.learnA1_of_adaptive mean h,
      r.learnA2_of_adaptive mean h⟩⟩
  · have event {q : Part} (hq : s.part.windowEnd l mean current = q) (ho : q.outbox = []) :
        LeadsTo (.lineWindowEnd l mean current) s q := leadsTo_of_event rfl hq ho
    refine ⟨fun h => event (Part.windowEnd_of_dark h ..) ho, fun h => event (Part.windowEnd_of_settling h ..) ho,
      fun h hc => event ((Part.windowEnd_of_on h ..).trans (if_neg (Nat.not_le.2 hc))) ho,
      fun h hc => event ((Part.windowEnd_of_on h ..).trans (if_pos hc)) ?_⟩
    rw [Part.latchLine_outbox]
    exact ho

end Sys2Proof.Machine
end

section
/-! PROOFS. The crossings of a line that is ON, row by row of the table of R100, and its syncs (R99, R100, R105, R108, R110; O41). -/

namespace Sys2Proof.Machine

/-! ### What a crossing shows of an ON line (log 29; R117) -/

section

variable {r : LineRec} (h : r.supply = .on)
include h

theorem LineRec.raised_on (threshold : Nat) : r.raised threshold = { r with
    current := max r.current (threshold + 1), windowBase := false
    openTimer := if 20 ≤ max r.current (threshold + 1) then 0 else r.openTimer } := by
  simp [LineRec.raised, LineRec.observed, h]

theorem LineRec.lowered_on (threshold mean : Nat) : r.lowered threshold mean = { r with
    current := min r.current threshold, openTimer := if 20 ≤ mean then 0 else r.openTimer } := by
  simp [LineRec.lowered, LineRec.observed, h]

/-- The end of a sync on a LEVEL line teaches A2 and begins a frame (R105, R106). -/
theorem LineRec.leaveTier2_of_sync {ps : Pages} {l : LineId} (hs : r.sync = some true) (hm : ps.lineMode l = .level) (mean : Nat) :
    r.leaveTier2 ps l mean = { (r.lowered r.thr.fall2 mean).learnA2 ps l mean with
      level := .tier1, sync := none, frame := some [] } := by
  rw [LineRec.leaveTier2, LineRec.lowered_on h, if_pos ⟨hs, hm⟩]

/-- The end of any other stay in TIER2 teaches nothing. -/
theorem LineRec.leaveTier2_of_other {ps : Pages} {l : LineId} (hs : r.sync ≠ some true ∨ ¬ ps.lineMode l = .level) (mean : Nat) :
    r.leaveTier2 ps l mean = { r.lowered r.thr.fall2 mean with level := .tier1, sync := none } := by
  rw [LineRec.leaveTier2, LineRec.lowered_on h, if_neg (not_and_or.2 hs)]

end

theorem LineRec.learnA1_supply (r : LineRec) (ps : Pages) (l : LineId) (mean : Nat) :
    (r.learnA1 ps l mean).supply = r.supply := by
  unfold LineRec.learnA1; split <;> rfl

theorem LineRec.learnA2_keeps (r : LineRec) (ps : Pages) (l : LineId) (mean : Nat) :
    (r.learnA2 ps l mean).supply = r.supply ∧ (r.learnA2 ps l mean).widthStart = r.widthStart := by
  unfold LineRec.learnA2; split <;> exact ⟨rfl, rfl⟩

theorem LineRec.leaveTier2_keeps {r : LineRec} (ps : Pages) (l : LineId) (mean : Nat) :
    (r.leaveTier2 ps l mean).supply = r.supply ∧ (r.leaveTier2 ps l mean).widthStart = r.widthStart := by
  unfold LineRec.leaveTier2
  dsimp only
  split
  · exact LineRec.learnA2_keeps ..
  · exact ⟨rfl, rfl⟩

/-! ### The return to BASE (R105, R110) -/

/-- The record of a line that has returned to BASE: the mean of the plateau has shown and, after a tier-1 pulse, taught A1. -/
def LineRec.returned (r : LineRec) (ps : Pages) (l : LineId) (mean : Nat) : LineRec :=
  let y := r.lowered r.thr.fall1 mean
  { (if y.pulse = some false then y.learnA1 ps l mean else y) with
    level := .base, pulse := none, sync := none, widthStart := none, overflow := false }

variable {p : Part} {l : LineId}

/-- Without a width under way the return to BASE is that of the line's record. -/
theorem Part.enterBase_of_none (h : (p.line l).widthStart = none) (date mean : Nat) :
    p.enterBase l date mean = p.setLine l ((p.line l).returned p.params l mean) := by
  unfold Part.enterBase; dsimp only; split
  next start hs => cases hs.symm.trans h
  next => rfl

/-- A width under way is measured at the return to BASE. -/
theorem Part.enterBase_of_start {start : Nat} (h : (p.line l).widthStart = some start) (date mean : Nat) :
    p.enterBase l date mean =
      (p.setLine l ((p.line l).returned p.params l mean)).widthMeasured l (min 511 ((date - start) / 5)) := by
  unfold Part.enterBase; dsimp only; split
  next start' hs => cases hs.symm.trans h; rfl
  next hs => cases hs.symm.trans h

/-! ### The table of R100 -/

theorem Part.crossing_of_not_on (h : (p.line l).supply ≠ .on) (c : Crossing) (date mean : Nat) :
    p.crossing l c date mean = p := if_pos h

section

variable (h : (p.line l).supply = .on) (date mean : Nat)
include h

section

variable (hl : (p.line l).level = .base)
include hl

theorem Part.crossing_base_risingT1 : p.crossing l .risingT1 date mean = p.enterTier1 l date := by
  simp [Part.crossing, h, hl]

theorem Part.crossing_base_highAtOn (tier2 : Bool) :
    p.crossing l (.highAtOn tier2) date mean = p.setLine l ((p.line l).highAtOn tier2) := by
  simp [Part.crossing, h, hl]

theorem Part.crossing_base_other {c : Crossing} (hc : c = .risingT2 ∨ c = .fallingT1 ∨ c = .fallingT2) :
    p.crossing l c date mean = p := by
  rcases hc with rfl | rfl | rfl <;> simp [Part.crossing, h, hl]

end

section

variable (hl : (p.line l).level = .tier1)
include hl

theorem Part.crossing_tier1_risingT2 : p.crossing l .risingT2 date mean = p.setLine l (p.line l).enterTier2 := by
  simp [Part.crossing, h, hl]

theorem Part.crossing_tier1_fallingT1 : p.crossing l .fallingT1 date mean = p.enterBase l date mean := by
  simp [Part.crossing, h, hl]

theorem Part.crossing_tier1_other {c : Crossing} (hc : c = .risingT1 ∨ c = .fallingT2 ∨ ∃ tier2, c = .highAtOn tier2) :
    p.crossing l c date mean = p := by
  rcases hc with rfl | rfl | ⟨_, rfl⟩ <;> simp [Part.crossing, h, hl]

end

section

variable (hl : (p.line l).level = .tier2)
include hl

theorem Part.crossing_tier2_fallingT2 :
    p.crossing l .fallingT2 date mean = p.setLine l ((p.line l).leaveTier2 p.params l mean) := by
  simp [Part.crossing, h, hl]

theorem Part.crossing_tier2_fallingT1 :
    p.crossing l .fallingT1 date mean = (p.setLine l ((p.line l).leaveTier2 p.params l mean)).enterBase l date mean := by
  simp [Part.crossing, h, hl]

/-- A fall to BASE past TIER1, with no width under way. -/
theorem Part.crossing_tier2_to_base (hw : (p.line l).widthStart = none) : p.crossing l .fallingT1 date mean =
    p.setLine l (((p.line l).leaveTier2 p.params l mean).returned p.params l mean) := by
  rw [Part.crossing_tier2_fallingT1 h date mean hl, Part.enterBase_of_none, Part.line_setLine, Part.setLine_setLine,
    Part.setLine_params]
  rw [Part.line_setLine]
  exact (LineRec.leaveTier2_keeps ..).2.trans hw

theorem Part.crossing_tier2_other {c : Crossing} (hc : c = .risingT1 ∨ c = .risingT2 ∨ ∃ tier2, c = .highAtOn tier2) :
    p.crossing l c date mean = p := by
  rcases hc with rfl | rfl | ⟨_, rfl⟩ <;> simp [Part.crossing, h, hl]

end

end

/-- The rise from BASE on a line that is not PULSE (R100, R110). -/
theorem Part.enterTier1_of_not_pulse (hm : p.params.lineMode l ≠ .pulse) (date : Nat) :
    p.enterTier1 l date = p.setLine l { (p.line l).raised (p.line l).thr.t1 with
      level := .tier1, pulse := some false, widthStart := if p.params.lineMode l = .width then some date else none } := if_neg hm

/-! ### Syncs (R100, R108) -/

theorem LineRec.synced_of_none {r : LineRec} (h : r.sync = none) : r.synced = r := by simp [LineRec.synced, h]

theorem LineRec.synced_of_idle {r : LineRec} (h : r.sync.isSome = true) (hf : r.frame = none) :
    r.synced = { r with sync := some true } := by
  obtain ⟨b, hb⟩ := Option.isSome_iff_exists.1 h
  simp [LineRec.synced, hb, hf]

theorem LineRec.synced_of_frame {r : LineRec} {slots : List Bool} (h : r.sync.isSome = true) (hf : r.frame = some slots) :
    r.synced = { r with sync := some true, frame := none, bits := slots.length, complete := false } := by
  obtain ⟨b, hb⟩ := Option.isSome_iff_exists.1 h
  simp [LineRec.synced, hb, hf]

/-! ### The obligation -/

/-- Settles O41: the crossings row by row, by what each shows of the current; the sync by whether a frame is under way. -/
theorem crossingsMoveTheLevelState : Obligations.CrossingsMoveTheLevelState := by
  intro s l date mean ho
  have event {c : Crossing} {q : Part} (hq : s.part.crossing l c date mean = q) (hoq : q.outbox = []) :
      LeadsTo (.crossingRecognized l c date mean) s q := leadsTo_of_event (f := (·.crossing l c date mean)) rfl hq hoq
  have synced {x : LineRec} (hx : (s.part.line l).synced = x) : LeadsTo (.syncRecognized l) s (s.part.setLine l x) :=
    leadsTo_of_event (f := fun p => p.setLine l (p.line l).synced) rfl (by rw [hx]) ho
  refine ⟨fun h c => event (Part.crossing_of_not_on h c date mean) ho, fun h => ⟨fun hl => ?_, fun hl => ?_, fun hl => ?_⟩,
    fun hs hf => synced (LineRec.synced_of_idle hs hf), fun _ hs hf => synced (LineRec.synced_of_frame hs hf), fun hs => ?_⟩
  case refine_4 => simpa only [Part.setLine_line] using synced (LineRec.synced_of_none hs)
  · refine ⟨fun hm => event ?_ ho, fun tier2 => event ?_ ho, fun c hc => event (Part.crossing_base_other h date mean hl hc) ho⟩
    · rw [Part.crossing_base_risingT1 h date mean hl, Part.enterTier1_of_not_pulse hm, LineRec.raised_on h]
    · rw [Part.crossing_base_highAtOn h date mean hl, LineRec.highAtOn, LineRec.raised_on h]
  · refine ⟨event ?_ ho, fun hw => event ?_ ho, fun c hc => event (Part.crossing_tier1_other h date mean hl hc) ho⟩
    · rw [Part.crossing_tier1_risingT2 h date mean hl, LineRec.enterTier2, LineRec.raised_on h]
    · rw [Part.crossing_tier1_fallingT1 h date mean hl, Part.enterBase_of_none hw, LineRec.returned, LineRec.lowered_on h]
  · have hsupply := (LineRec.leaveTier2_keeps (r := s.part.line l) s.part.params l mean).1.trans h
    refine ⟨fun hs hm => ⟨event ?_ ho, fun hw => event ?_ ho⟩, fun hs => ⟨event ?_ ho, fun hw => event ?_ ho⟩,
      fun c hc => event (Part.crossing_tier2_other h date mean hl hc) ho⟩
    · rw [Part.crossing_tier2_fallingT2 h date mean hl, LineRec.leaveTier2_of_sync h hs hm, LineRec.lowered_on h]
    · rw [Part.crossing_tier2_to_base h date mean hl hw, LineRec.returned, LineRec.lowered_on hsupply,
        LineRec.leaveTier2_of_sync h hs hm, LineRec.lowered_on h]
    · rw [Part.crossing_tier2_fallingT2 h date mean hl, LineRec.leaveTier2_of_other h hs, LineRec.lowered_on h]
    · rw [Part.crossing_tier2_to_base h date mean hl hw, LineRec.returned, LineRec.lowered_on hsupply,
        LineRec.leaveTier2_of_other h hs, LineRec.lowered_on h]

end Sys2Proof.Machine
end

section
/-! PROOFS. The timed data of the lines: widths, pulses, rates, standstill and no data (R109 to R112; O44). -/

namespace Sys2Proof.Machine

variable {p : Part} {l : LineId}

/-! ### Hand-overs that change nothing (R114) -/

theorem Part.handValue_of_none (h : p.params.lineRole l = .none) (v : LineValue) : p.handValue l v = p := by
  simp only [Part.handValue, h]

/-- The roles whose holders follow the supply of their line. -/
def supplyRoles : List LineRole := [.freshLevel, .greyLevel, .cabinTemp, .bayTemp, .battTemp]

theorem Part.handSupply_of_not (h : p.params.lineRole l ∉ supplyRoles) : p.handSupply l = p := by
  cases hr : p.params.lineRole l <;> simp_all [Part.handSupply, supplyRoles]

theorem not_supplyRole_of_none {r : LineRole} (h : r = .none) : r ∉ supplyRoles := by
  subst h; decide

theorem Part.handNodata_of_none (h : p.params.lineRole l = .none) : p.handNodata l = p := by
  simp only [Part.handNodata, h]

/-! ### Widths (R110, R111) -/

/-- A width count as it is kept. -/
def widthKept (count : Nat) : Nat := max 80 (min 410 count)

/-- The record of a line with a completed width. -/
def LineRec.measured (r : LineRec) (count : Nat) : LineRec := { r with
  width := some count, value := some (.temp ((widthKept count : Int) - 160)), age := some 0, nodataTimer := 0, nodata := false
  clampedValue := decide (widthKept count ≠ count) }

/-- The part with a completed width, not yet handed to the role holder. -/
def Part.withWidth (p : Part) (l : LineId) (count : Nat) : Part :=
  let q := p.setLine l ((p.line l).measured count)
  if widthKept count = count then q else q.latchLine l .outOfRange

theorem widthKept_eq (count : Nat) :
    (if count < 80 then 80 else if 410 < count then 410 else count) = widthKept count := by
  unfold widthKept
  split
  · omega
  · split <;> omega

theorem Part.widthMeasured_eq (p : Part) (l : LineId) (count : Nat) :
    p.widthMeasured l count = (p.withWidth l count).handValue l (.temp ((widthKept count : Int) - 160)) := by
  have hclamped : (widthKept count != count) = decide (widthKept count ≠ count) := by simp [bne, beq_eq_decide]
  simp only [Part.widthMeasured, Part.storeValue, widthKept_eq, Part.withWidth, Part.line_setLine, Part.setLine_setLine, hclamped,
    decide_eq_true_eq, ite_not]
  rfl

@[simp] theorem Part.withWidth_params (p : Part) (l : LineId) (count : Nat) : (p.withWidth l count).params = p.params := by
  unfold Part.withWidth; dsimp only; split <;> simp

@[simp] theorem Part.withWidth_outbox (p : Part) (l : LineId) (count : Nat) : (p.withWidth l count).outbox = p.outbox := by
  unfold Part.withWidth; dsimp only; split <;> simp

/-- The learning of A1 goes by the learned values alone. -/
theorem LineRec.learnA1_congr {r x : LineRec} (ps : Pages) (l : LineId) (mean : Nat)
    (h : x = { r with level := x.level, sync := x.sync }) :
    x.learnA1 ps l mean = { r.learnA1 ps l mean with level := x.level, sync := x.sync } := by
  rw [h]
  unfold LineRec.learnA1
  split <;> rfl

/-- The record of a line with a width under way that has fallen to BASE, from TIER2 past TIER1 or from TIER1. -/
def LineRec.landed (r : LineRec) (ps : Pages) (l : LineId) (mean : Nat) : LineRec :=
  let fallen : LineRec := { r with
    current := min (if r.level = .tier2 then min r.current r.thr.fall2 else r.current) r.thr.fall1
    openTimer := if 20 ≤ mean then 0 else r.openTimer }
  { (if r.pulse = some false then fallen.learnA1 ps l mean else fallen) with
    level := .base, pulse := none, sync := none, widthStart := none, overflow := false }

theorem LineRec.returned_of_tier1 {r : LineRec} (h : r.supply = .on) (hl : r.level = .tier1) (ps : Pages) (l : LineId)
    (mean : Nat) : r.returned ps l mean = r.landed ps l mean := by
  rw [LineRec.returned, LineRec.lowered_on h, LineRec.landed, hl]
  rfl

/-- A line that is not LEVEL falls from TIER2 with nothing taught on the way. -/
theorem LineRec.returned_of_tier2 {r : LineRec} (h : r.supply = .on) (hl : r.level = .tier2) {ps : Pages} {l : LineId}
    (hm : ps.lineMode l ≠ .level) (mean : Nat) : (r.leaveTier2 ps l mean).returned ps l mean = r.landed ps l mean := by
  have hon := (LineRec.leaveTier2_keeps (r := r) ps l mean).1.trans h
  have hlow : (r.leaveTier2 ps l mean).lowered (r.leaveTier2 ps l mean).thr.fall1 mean = { r with
      current := min (min r.current r.thr.fall2) r.thr.fall1, openTimer := if 20 ≤ mean then 0 else r.openTimer
      level := .tier1, sync := none } := by
    rw [LineRec.lowered_on hon, LineRec.leaveTier2_of_other h (.inr hm), LineRec.lowered_on h]
    by_cases hmean : 20 ≤ mean <;> simp [hmean]
  rw [LineRec.returned, hlow, LineRec.landed, if_pos hl]
  dsimp only
  split
  · rw [LineRec.learnA1_congr (r := { r with
      current := min (min r.current r.thr.fall2) r.thr.fall1, openTimer := if 20 ≤ mean then 0 else r.openTimer }) ps l mean rfl]
  · rfl

/-- The fall to BASE of a line that is ON, with a width under way. -/
theorem Part.crossing_ends_width (h : (p.line l).supply = .on) {start : Nat} (hw : (p.line l).widthStart = some start)
    (hl : (p.line l).level = .tier1 ∨ (p.line l).level = .tier2 ∧ p.params.lineMode l = .width) (date mean : Nat) :
    p.crossing l .fallingT1 date mean =
      (p.setLine l ((p.line l).landed p.params l mean)).widthMeasured l (min 511 ((date - start) / 5)) := by
  rcases hl with hl | ⟨hl, hm⟩
  · rw [Part.crossing_tier1_fallingT1 h date mean hl, Part.enterBase_of_start hw, LineRec.returned_of_tier1 h hl]
  · have hw' : ((p.setLine l ((p.line l).leaveTier2 p.params l mean)).line l).widthStart = some start := by
      rw [Part.line_setLine]
      exact (LineRec.leaveTier2_keeps ..).2.trans hw
    rw [Part.crossing_tier2_fallingT1 h date mean hl, Part.enterBase_of_start hw', Part.line_setLine, Part.setLine_setLine,
      Part.setLine_params, LineRec.returned_of_tier2 h hl (by simp [hm])]

/-- A width that runs too long ends without a value (R110). -/
theorem Part.widthOverflow_of_some (h : (p.line l).widthStart.isSome = true) : p.widthOverflow l =
    (p.setLine l { p.line l with widthStart := none, overflow := true }).latchLine l .pulseOverflow := by
  obtain ⟨start, hs⟩ := Option.isSome_iff_exists.1 h
  simp only [Part.widthOverflow, hs]

/-! ### Pulses and rates (R112) -/

/-- The record of a PULSE line that has risen from BASE. -/
def LineRec.pulsed (r : LineRec) : LineRec := { r.raised r.thr.t1 with
  level := .tier1, pulse := some false, widthStart := none, pulseTotal := r.pulseTotal + 1, secondCount := r.secondCount + 1
  standstillTimer := 0, standstill := false }

theorem Part.enterTier1_of_pulse (hm : p.params.lineMode l = .pulse) (date : Nat) : p.enterTier1 l date =
    if p.params.lineRole l = .flow then (p.setLine l (p.line l).pulsed).flowPulse else p.setLine l (p.line l).pulsed := by
  simp only [Part.enterTier1, Part.pulseCounted, hm, Part.setLine_params, Part.line_setLine, Part.setLine_setLine, if_true,
    reduceCtorEq, if_false]
  rfl

/-- The record of a line whose rate countdown has expired. -/
def LineRec.rated (r : LineRec) : LineRec := { r with
  value := some (.rate r.secondCount), age := some 0, secondCount := 0, rateTimer := some 1000, clampedValue := false }

theorem Part.rateExpired_of_some (h : (p.line l).rateTimer.isSome = true) : p.rateExpired l =
    (p.setLine l (p.line l).rated).handValue l (.rate (p.line l).secondCount) := if_pos h

theorem Part.standstillAt_of_on (hm : p.params.lineMode l = .pulse) (h : (p.line l).supply = .on) : p.standstillAt l =
    p.setLine l { p.line l with
      standstill := true, standstillTimer := max (p.line l).standstillTimer p.params.standstillMs } := if_pos ⟨hm, h⟩

/-! ### No data (R109) -/

/-- The record of a line at its no-data limit of 1 s. -/
def LineRec.silenced (r : LineRec) : LineRec := { r with nodata := true, nodataTimer := max r.nodataTimer 1000 }

/-- Outside STORAGE the no-data limit is 1 s; a NODATA that is new is handed over. -/
theorem Part.nodataAt_of_enabled (he : (p.line l).enabled = true) (hm : p.params.lineMode l ≠ .pulse)
    (hs : p.mdc.mode ≠ .storage) : p.nodataAt l =
      if (p.line l).nodata = true then p.setLine l (p.line l).silenced
      else (p.setLine l (p.line l).silenced).handNodata l := by
  have hu : p.usesNodata l = true := by simp [Part.usesNodata, he, hm]
  have hlim : p.nodataLimit l = 1000 := if_neg fun h => hs h.1
  rw [Part.nodataAt, if_pos hu, hlim]
  rfl

/-! ### The obligation on the timed data -/

/-- Settles O44: each datum by the lemma about its event; without a role nothing is handed over. -/
theorem widthsPulsesAndSilence : Obligations.WidthsPulsesAndSilence := by
  intro s l date mean ho hr
  have event {c : Crossing} {q : Part} (hq : s.part.crossing l c date mean = q) (hoq : q.outbox = []) :
      LeadsTo (.crossingRecognized l c date mean) s q := leadsTo_of_event (f := (·.crossing l c date mean)) rfl hq hoq
  refine ⟨fun h hm hl => event ?_ ho, fun start h hl hw => ?_, fun hw => ?_, fun h hm hl => event ?_ ho, fun ht => ?_,
    fun hm h => ?_, fun he hm hs => ?_⟩
  · rw [Part.crossing_base_risingT1 h date mean hl, Part.enterTier1_of_not_pulse (by simp [hm]), if_pos hm, LineRec.raised_on h]
  · have hx := Part.crossing_ends_width h hw hl date mean
    rw [Part.widthMeasured_eq, Part.handValue_of_none (by rwa [Part.withWidth_params])] at hx
    have hleads := event hx ((Part.withWidth_outbox ..).trans ho)
    rw [Part.withWidth, Part.line_setLine, Part.setLine_setLine] at hleads
    exact hleads
  · exact leadsTo_of_event (f := (·.widthOverflow l)) rfl (Part.widthOverflow_of_some hw) ((Part.latchLine_outbox ..).trans ho)
  · rw [Part.crossing_base_risingT1 h date mean hl, Part.enterTier1_of_pulse hm, hr, if_neg (by decide), LineRec.pulsed,
      LineRec.raised_on h]
  · refine leadsTo_of_event (f := (·.rateExpired l)) rfl ((Part.rateExpired_of_some ht).trans ?_) ho
    exact Part.handValue_of_none (p := s.part.setLine l (s.part.line l).rated) hr _
  · exact leadsTo_of_event (f := (·.standstillAt l)) rfl (Part.standstillAt_of_on hm h) ho
  · refine leadsTo_of_event (f := (·.nodataAt l)) rfl ((Part.nodataAt_of_enabled he hm hs).trans ?_) ho
    rw [Part.handNodata_of_none (p := s.part.setLine l (s.part.line l).silenced) hr]
    exact ite_self _

end Sys2Proof.Machine
end

section
/-! PROOFS. The faults of the lines' supplies (R115 to R118; O45), and one event after the other at every line. -/

namespace Sys2Proof.Machine

variable {p : Part} {l : LineId}

/-! ### One event after the other at every line -/

/-- An event that keeps `I` and makes of its line what `g` says of the record, leaving the other lines, does so at every line. -/
theorem foldl_lines {I : Part → Prop} {f : Part → LineId → Part} {g : LineId → LineRec → LineRec}
    (hI : ∀ p s, I p → I (f p s)) (hf : ∀ p s, I p → (f p s).line s = g s (p.line s))
    (hn : ∀ p s s', I p → s' ≠ s → (f p s).line s' = p.line s') {ls : List LineId} (hd : ls.Nodup) {p : Part} (hp : I p) :
    I (ls.foldl f p) ∧ (∀ s ∈ ls, (ls.foldl f p).line s = g s (p.line s)) ∧ ∀ s ∉ ls, (ls.foldl f p).line s = p.line s := by
  induction ls generalizing p with
  | nil => exact ⟨hp, by simp, fun _ _ => rfl⟩
  | cons s ls ih =>
    obtain ⟨hs, hd⟩ := List.nodup_cons.1 hd
    obtain ⟨kI, kin, kout⟩ := ih hd (hI p s hp)
    refine ⟨kI, fun m hm => ?_, fun m hm => ?_⟩
    · rcases List.mem_cons.1 hm with rfl | hm
      · exact (kout m hs).trans (hf p m hp)
      · exact (kin m hm).trans (congrArg (g m) (hn p s m hp fun e => hs (e ▸ hm)))
    · rw [List.mem_cons, not_or] at hm
      exact (kout m hm.2).trans (hn p s m hp hm.1)

/-- The same over all six lines. -/
theorem foldl_all_lines {I : Part → Prop} {f : Part → LineId → Part} {g : LineId → LineRec → LineRec}
    (hI : ∀ p s, I p → I (f p s)) (hf : ∀ p s, I p → (f p s).line s = g s (p.line s))
    (hn : ∀ p s s', I p → s' ≠ s → (f p s).line s' = p.line s') {p : Part} (hp : I p) :
    I ((List.finRange 6).foldl f p) ∧ ∀ s, ((List.finRange 6).foldl f p).line s = g s (p.line s) := by
  obtain ⟨h, hin, _⟩ := foldl_lines hI hf hn (List.nodup_finRange 6) hp
  exact ⟨h, fun s => hin s (List.mem_finRange s)⟩

/-! ### Faults (R116 to R118) -/

theorem LineRec.powered_iff (r : LineRec) : r.powered = true ↔ r.supply = .settling ∨ r.supply = .on := by
  simp [LineRec.powered]

theorem LineRec.not_powered_iff (r : LineRec) : r.powered = false ↔ ¬ (r.supply = .settling ∨ r.supply = .on) := by
  rw [← LineRec.powered_iff, Bool.not_eq_true]

theorem Part.supplyFault_of_powered (h : (p.line l).powered = true) (c : LineCause) :
    p.supplyFault l c = ((p.setLine l ((p.line l).unpowered .fault)).latchLine l c).handSupply l := if_pos h

theorem Part.supplyFault_of_dark (h : (p.line l).powered = false) (c : LineCause) : p.supplyFault l c = p.latchLine l c :=
  if_neg (by simp [h])

/-- A supply fault of a powered line whose role's holder does not follow the supply. -/
theorem Part.supplyFault_unheard (h : (p.line l).powered = true) (hr : p.params.lineRole l ∉ supplyRoles) (c : LineCause) :
    p.supplyFault l c = (p.setLine l ((p.line l).unpowered .fault)).latchLine l c := by
  rw [Part.supplyFault_of_powered h]
  refine Part.handSupply_of_not ?_
  rwa [Part.latchLine_params, Part.setLine_params]

/-- A supply fault of a line whose record has just been written. -/
theorem Part.supplyFault_setLine {r : LineRec} (h : r.powered = true) (c : LineCause) : (p.setLine l r).supplyFault l c =
    ((p.setLine l (r.unpowered .fault)).latchLine l c).handSupply l := by
  rw [Part.supplyFault_of_powered (by rwa [Part.line_setLine]), Part.line_setLine, Part.setLine_setLine]

theorem Part.supplyFault_setLine_unheard {r : LineRec} (h : r.powered = true) (hr : p.params.lineRole l ∉ supplyRoles)
    (c : LineCause) : (p.setLine l r).supplyFault l c = (p.setLine l (r.unpowered .fault)).latchLine l c := by
  rw [Part.supplyFault_setLine h, Part.handSupply_of_not]
  rwa [Part.latchLine_params, Part.setLine_params]

/-- What a short to ground shows of the current, which is above 2 mA (R117). -/
theorem LineRec.observed_of_short {current : Nat} (h : 600 < current) (r : LineRec) :
    r.observed current current = { r with current := current, openTimer := if r.supply = .on then 0 else r.openTimer } := by
  have : 20 ≤ current := by omega
  simp [LineRec.observed, this]

theorem Part.shortToGround_of_short (h : (p.line l).powered = true) {current : Nat} (hc : 600 < current) :
    p.shortToGround l current = (p.setLine l ((p.line l).observed current current)).supplyFault l .shortGnd := if_pos ⟨h, hc⟩

theorem Part.shortToGround_of_none {current : Nat} (h : (p.line l).powered = false ∨ current ≤ 600) :
    p.shortToGround l current = p := if_neg fun ⟨hp, hc⟩ => by
  rcases h with h | h
  · simp [h] at hp
  · omega

theorem Part.openReached_of_open (h : (p.line l).supply = .on) (hc : (p.line l).current < 20) :
    p.openReached l = (p.setLine l { p.line l with openTimer := 20 }).latchLine l .openWire := if_pos ⟨h, hc⟩

/-- The record of a line under the driver's warning (R118). -/
def LineRec.heated (r : LineRec) : LineRec :=
  let x : LineRec := { r with latched := { r.latched with hot := true } }
  if x.supply = .settling ∨ x.supply = .on then x.unpowered .fault else x

theorem Part.supplyFault_hot_line (hr : p.params.lineRole l ∉ supplyRoles) :
    (p.supplyFault l .hot).line l = (p.line l).heated := by
  cases hp : (p.line l).powered with
  | true =>
    have hs := (LineRec.powered_iff _).1 hp
    rw [Part.supplyFault_unheard hp hr, Part.line_latchLine, Part.line_setLine, LineRec.heated]
    exact (if_pos hs).symm
  | false =>
    have hs := (LineRec.not_powered_iff _).1 hp
    rw [Part.supplyFault_of_dark hp, Part.line_latchLine, LineRec.heated]
    exact (if_neg hs).symm

theorem Part.supplyFault_line_of_ne (hr : p.params.lineRole l ∉ supplyRoles) (c : LineCause) {l' : LineId} (h : l' ≠ l) :
    (p.supplyFault l c).line l' = p.line l' := by
  cases hp : (p.line l).powered with
  | true => rw [Part.supplyFault_unheard hp hr, Part.line_latchLine_of_ne _ _ _ h, Part.line_setLine_of_ne _ _ h]
  | false => rw [Part.supplyFault_of_dark hp, Part.line_latchLine_of_ne _ _ _ h]

/-- What a supply fault leaves of a part whose holders do not follow the supply. -/
structure Part.FaultWork (p q : Part) : Prop where
  params : q.params = p.params
  bnk : q.bnk = p.bnk
  out : q.out = p.out
  ldm : q.ldm = p.ldm
  outbox : q.outbox = p.outbox
  hot : q.sli.driverHot = p.sli.driverHot

theorem Part.latchLine_driverHot (p : Part) (l : LineId) (c : LineCause) :
    (p.latchLine l c).sli.driverHot = p.sli.driverHot := by
  obtain ⟨k, e⟩ := p.latchLine_only_link l c
  rw [e]
  rfl

theorem Part.FaultWork.supplyFault {p q : Part} (h : p.FaultWork q) {l : LineId} (hr : p.params.lineRole l ∉ supplyRoles)
    (c : LineCause) : p.FaultWork (q.supplyFault l c) := by
  obtain ⟨hp, hb, ho, hl, hx, hh⟩ := h
  rw [← hp] at hr
  have hfault : ∃ r, q.supplyFault l c = (q.setLine l r).latchLine l c := by
    cases hpow : (q.line l).powered with
    | true => exact ⟨_, Part.supplyFault_unheard hpow hr c⟩
    | false => exact ⟨q.line l, by rw [Part.supplyFault_of_dark hpow, Part.setLine_line]⟩
  obtain ⟨r, e⟩ := hfault
  rw [e]
  exact ⟨(Part.latchLine_params ..).trans hp, (Part.latchLine_bnk ..).trans hb, (Part.latchLine_out ..).trans ho,
    (Part.latchLine_ldm ..).trans hl, (Part.latchLine_outbox ..).trans hx, (Part.latchLine_driverHot ..).trans hh⟩

/-- The driver's warning at every line. -/
theorem Part.linesHot_work (hr : ∀ l, p.params.lineRole l ∉ supplyRoles) :
    ({ p with sli := { p.sli with driverHot := true } } : Part).FaultWork p.linesHot ∧
      ∀ l, p.linesHot.line l = (p.line l).heated := by
  set q : Part := { p with sli := { p.sli with driverHot := true } }
  have hq (e : Part) (he : q.FaultWork e) (s : LineId) : e.params.lineRole s ∉ supplyRoles := by
    rw [he.params]
    exact hr s
  exact foldl_all_lines (I := q.FaultWork) (f := fun q s => q.supplyFault s .hot) (g := fun _ => LineRec.heated) (p := q)
    (fun e s he => he.supplyFault (hr s) .hot) (fun e s he => Part.supplyFault_hot_line (hq e he s))
    (fun e s s' he hne => Part.supplyFault_line_of_ne (hq e he s) .hot hne) ⟨rfl, rfl, rfl, rfl, rfl, rfl⟩

/-! ### The end of an event that leaves no report -/

/-- The dry timer and the link are all that the end of such an event touches. -/
theorem Part.dryCheck_transmit_eq (p : Part) : ∃ n k, p.dryCheck.transmit =
    { p with wat := { p.wat with dryTimer := n }, lnk := k } := by
  obtain ⟨k, e⟩ := p.dryCheck.transmit_only_link
  rw [e]
  rcases p.dryCheck_cases with ⟨_, e⟩ | ⟨_, e⟩ <;> rw [e]
  · exact ⟨p.wat.dryTimer, k, rfl⟩
  · exact ⟨0, k, rfl⟩

/-- The end of an event that leaves no report. -/
theorem Part.finish_eq_of_empty (h : p.outbox = []) : ∃ n k, p.finish =
    { p with wat := { p.wat with dryTimer := n }, lnk := k } := by
  rw [Part.finish, Part.delivered_of_empty h]
  exact p.dryCheck_transmit_eq

/-! ### The obligation -/

/-- Settles O45: each fault by whether the line is powered, the driver's heat line by line; a latch by whether it is new. -/
theorem lineFaultsLatchAndUnpower : Obligations.LineFaultsLatchAndUnpower := by
  refine ⟨fun s l current over' ho hr => ?_, fun p l cause => ⟨p.latchLine_of_latched, p.latchLine_of_new⟩⟩
  have gnd {q : Part} (hq : s.part.shortToGround l current = q) (hoq : q.outbox = []) : LeadsTo (.lineShortGnd l current) s q :=
    leadsTo_of_event (f := (·.shortToGround l current)) rfl hq hoq
  have bat {q : Part} (hq : s.part.shortToBattery l over' = q) (hoq : q.outbox = []) : LeadsTo (.lineShortBat l over') s q :=
    leadsTo_of_event (f := (·.shortToBattery l over')) rfl hq hoq
  have latched (r : LineRec) (c : LineCause) : ((s.part.setLine l r).latchLine l c).outbox = [] :=
    (Part.latchLine_outbox ..).trans ho
  have judged (hc : 500 < over') : s.part.shortToBattery l over' =
      (s.part.setLine l { s.part.line l with overRail := over' }).supplyFault l .shortBat := if_pos hc
  refine ⟨fun hp hc => gnd ?_ (latched _ _), fun h => gnd (Part.shortToGround_of_none ?_) ho,
    fun hp hc => bat ((judged hc).trans ?_) (latched _ _), fun hp hc => bat ((judged hc).trans ?_) (latched _ _),
    fun hc => bat (if_neg (Int.not_lt.2 hc)) ho, fun h hc => ?_, fun hall => ?_⟩
  · have hp' := (LineRec.powered_iff _).2 hp
    rw [Part.shortToGround_of_short hp' hc, LineRec.observed_of_short hc]
    refine Part.supplyFault_setLine_unheard ?_ hr _
    exact hp'
  · exact h.imp_left (LineRec.not_powered_iff _).2
  · have hp' := (LineRec.powered_iff _).2 hp
    refine Part.supplyFault_setLine_unheard ?_ hr _
    exact hp'
  · have hp' := (LineRec.not_powered_iff _).2 hp
    exact Part.supplyFault_of_dark (by rwa [Part.line_setLine]) _
  · exact leadsTo_of_event (f := (·.openReached l)) rfl (Part.openReached_of_open h hc) (latched _ _)
  · obtain ⟨⟨hps, hb, hout, hldm, hx, hh⟩, hlines⟩ := Part.linesHot_work hall
    refine ⟨⟨s.part.linesHot.finish, s.pending⟩, rfl, rfl, ?_⟩
    generalize s.part.linesHot = q at hps hb hout hldm hx hh hlines
    obtain ⟨n, k, e⟩ := Part.finish_eq_of_empty (p := q) (hx.trans ho)
    rw [e]
    exact ⟨hh, hlines, fun c => by simp only [Part.chan, hout], fun m => by simp only [Part.load, hldm], hb, hps⟩

end Sys2Proof.Machine
end

section
/-! PROOFS. LINE_CONTROL and LINE_GET with clear (R119, R120, R122; O47). -/

namespace Sys2Proof.Machine

variable {p : Part} {l : LineId}

/-! ### The requests in the queue -/

/-- A request whose effect is known whole and leaves the queue of requests. -/
theorem replies_of_done {i : Instr} {r : Request} {s : State} {q : Part} {st : Status} {f : Part → List Byte} {payload : List Byte}
    (hr : s.part.Ready) (hi : i.request? = some r) (hh : (s.part.queued r).handle r = ⟨q.queued r, some (st, f)⟩)
    (ho : q.outbox = []) (hq : q.lnk.requests = s.part.lnk.requests) (hw : q.lnk.inFlight = s.part.lnk.inFlight)
    (hf : f (q.queued r) = payload) : Replies i s q st payload := by
  have ⟨_, _, hreq, hfly, _⟩ := hr
  have h := replies_of_handle hr hi hh ho rfl (hw.trans hfly)
  rwa [Part.queued_left (hq.trans hreq), hf] at h

theorem linesArg_ofNat (l : LineId) : linesArg (BitVec.ofNat 8 l.val) = some [l] := by
  have hne : BitVec.ofNat 8 l.val ≠ 0xFF#8 := fun e => by
    have := congrArg BitVec.toNat e
    rw [BitVec.toNat_ofNat] at this
    change l.val % 256 = 255 at this
    omega
  rw [linesArg, if_neg hne, lineArg_ofNat, Option.map_some]

/-! ### The stored enable (R120, R121) -/

/-- The part with the stored enable of a line written. -/
def Part.enableStored (p : Part) (l : LineId) (w : Word) : Part := { p with
  params := p.params.set 5 (11 * l.val) w
  lnk := { p.lnk with unsaved := p.lnk.unsaved || p.params.get 5 (11 * l.val) != w } }

theorem Part.writeEnable_eq (p : Part) (l : LineId) (w : Word) : p.writeSetting 5 (11 * l.val) w = p.enableStored l w :=
  p.writeSetting_eq _ _ w

theorem Pages.lineRole_set_enable (ps : Pages) (l : LineId) (w : Word) : (ps.set 5 (11 * l.val) w).lineRole l = ps.lineRole l := by
  rw [Pages.lineRole, Pages.lineField, Pages.nat, Pages.get_set_of_ne w (.inr (by omega))]
  rfl

theorem Part.enableStored_role (w : Word) (h : p.params.lineRole l = .none) : (p.enableStored l w).params.lineRole l = .none :=
  (Pages.lineRole_set_enable ..).trans h

/-! ### LINE_CONTROL of a line without a role (R120, R122) -/

/-- The record of a line that is enabled or taken out of FAULT: SETTLING, or OFF where STORAGE holds it. -/
def LineRec.begun (r : LineRec) (m : Mode) : LineRec := if m = .storage then r.unpowered .off else r.settling

theorem Part.heldByStorage_of_none (h : p.params.lineRole l = .none) : p.heldByStorage l = (p.mdc.mode == .storage) := by
  simp [Part.heldByStorage, Part.isDuty, h]

theorem Part.powerLine_setLine (h : p.params.lineRole l = .none) (r : LineRec) :
    (p.setLine l r).powerLine l = p.setLine l ((r.initial p.params l).begun p.mdc.mode) := by
  have hand (r : LineRec) : (p.setLine l r).handSupply l = p.setLine l r := Part.handSupply_of_not (not_supplyRole_of_none h)
  have hheld (r : LineRec) : (p.setLine l r).heldByStorage l = (p.mdc.mode == .storage) := Part.heldByStorage_of_none h
  simp only [Part.powerLine, Part.setLine_params, Part.darkenLine, Part.settleLine, Part.line_setLine, Part.setLine_setLine, hheld,
    hand, LineRec.begun, beq_iff_eq]
  split <;> rfl

section

variable (hr : p.params.lineRole l = .none)
include hr

theorem Part.lineOn_of_disabled (h : (p.line l).enabled = false) : p.lineOn l = (p.enableStored l 1).setLine l
    ((({ p.line l with enabled := true, nodataTimer := 0 } : LineRec).initial (p.enableStored l 1).params l).begun p.mdc.mode) := by
  have hline : ((p.enableStored l 1).line l).enabled = false := h
  rw [Part.lineOn, Part.writeEnable_eq, hline, Bool.not_false, if_pos rfl]
  exact Part.powerLine_setLine (Part.enableStored_role 1 hr) _

theorem Part.lineOn_of_fault (h : (p.line l).enabled = true) (hf : (p.line l).supply = .fault) : p.lineOn l =
    (p.enableStored l 1).setLine l (((p.line l).initial (p.enableStored l 1).params l).begun p.mdc.mode) := by
  have hline : ((p.enableStored l 1).line l).enabled = true := h
  have hsupply : ((p.enableStored l 1).line l).supply = .fault := hf
  have hpower := Part.powerLine_setLine (Part.enableStored_role 1 hr) ((p.enableStored l 1).line l)
  rw [Part.setLine_line] at hpower
  rw [Part.lineOn, Part.writeEnable_eq, hline, Bool.not_true, if_neg Bool.false_ne_true, if_pos hsupply]
  exact hpower

omit hr in
theorem Part.lineOn_of_enabled (h : (p.line l).enabled = true) (hf : (p.line l).supply ≠ .fault) :
    p.lineOn l = p.enableStored l 1 := by
  have hline : ((p.enableStored l 1).line l).enabled = true := h
  rw [Part.lineOn, Part.writeEnable_eq, hline, Bool.not_true, if_neg Bool.false_ne_true]
  exact if_neg hf

theorem Part.lineOff_of_none : p.lineOff l = (p.enableStored l 0).setLine l (p.line l).disabled := by
  rw [Part.lineOff, Part.writeEnable_eq]
  exact Part.handSupply_of_not (not_supplyRole_of_none (Part.enableStored_role 0 hr))

end

theorem LineRec.controlFaulted_iff (r : LineRec) : r.controlFaulted = true ↔
    r.latched.shortGnd = true ∨ r.latched.shortBat = true ∨ r.latched.hot = true := by
  simp [LineRec.controlFaulted, or_assoc]

/-- The request of a LINE_CONTROL. -/
abbrev controlOf (l : LineId) (x : Byte) : Request := .lineControl (BitVec.ofNat 8 l.val) x

/-- The fields of a LINE_CONTROL reply (R120). -/
def Part.controlFields (q : Part) (l : LineId) : List Byte := [BitVec.ofNat 8 l.val] ++
  [BitVec.ofNat 8 (q.line l).enabled.toNat, BitVec.ofNat 8 (q.line l).supply.code] ++ n16 (q.line l).latched.bits

section

variable {s : State} (hr : s.part.Ready) (hm : s.part.mdc.mode ≠ .start)
include hr hm

theorem lineControl_faulted (hf : (s.part.line l).controlFaulted = true) :
    Replies (.lineControl (BitVec.ofNat 8 l.val) 0) s s.part .faulted [] := by
  refine replies_of_refuse (r := controlOf l 0) hr rfl ?_
  have hs : switchArg 0 = some true := rfl
  have hline : ((s.part.queued (controlOf l 0)).line l).controlFaulted = true := hf
  simp only [Part.handle, Part.lineControl, lineArg_ofNat, hs, if_neg hm, hline, if_true]

/-- An accepted ON, as the line's work leaves the part. -/
theorem lineControl_on {q : Part} (hf : (s.part.line l).controlFaulted ≠ true)
    (hh : (s.part.queued (controlOf l 0)).lineOn l = q.queued (controlOf l 0)) (ho : q.outbox = [])
    (hq : q.lnk.requests = s.part.lnk.requests) (hw : q.lnk.inFlight = s.part.lnk.inFlight) :
    Replies (.lineControl (BitVec.ofNat 8 l.val) 0) s q .ok (q.controlFields l) := by
  refine replies_of_done (r := controlOf l 0) (f := (·.lineControlPayload l)) hr rfl ?_ ho hq hw rfl
  have hs : switchArg 0 = some true := rfl
  have hline : ((s.part.queued (controlOf l 0)).line l).controlFaulted ≠ true := hf
  simp only [Part.handle, Part.lineControl, lineArg_ofNat, hs, if_neg hm, if_neg hline, hh, if_true]
  rfl

/-- An OFF, as the line's work leaves the part. -/
theorem lineControl_off {q : Part} (hh : (s.part.queued (controlOf l 1)).lineOff l = q.queued (controlOf l 1))
    (ho : q.outbox = []) (hq : q.lnk.requests = s.part.lnk.requests) (hw : q.lnk.inFlight = s.part.lnk.inFlight) :
    Replies (.lineControl (BitVec.ofNat 8 l.val) 1) s q .ok (q.controlFields l) := by
  refine replies_of_done (r := controlOf l 1) (f := (·.lineControlPayload l)) hr rfl ?_ ho hq hw rfl
  have hs : switchArg 1 = some false := rfl
  simp only [Part.handle, Part.lineControl, lineArg_ofNat, hs, if_neg hm, hh]
  rfl

end

/-! ### LINE_GET with clear (R119) -/

theorem Part.keptLineLatches_has (p : Part) (l : LineId) (c : LineCause) :
    (p.keptLineLatches l).has c = ((p.line l).latched.has c && p.lineCondition l c) := by
  cases c <;> rfl

/-- The record of a cleared line. -/
def Part.clearedLine (p : Part) (l : LineId) : LineRec := { p.line l with
  latched := p.keptLineLatches l
  openTimer := if (p.line l).latched.openWire = true ∧ p.lineCondition l .openWire = false then 0 else (p.line l).openTimer
  highCount := if (p.line l).latched.currentHigh = true ∧ p.lineCondition l .currentHigh = false then 0
    else (p.line l).highCount }

theorem Part.clearLine_eq (p : Part) (l : LineId) : p.clearLine l = p.setLine l (p.clearedLine l) := by
  have ho : (p.keptLineLatches l).openWire = ((p.line l).latched.openWire && p.lineCondition l .openWire) := rfl
  have hc : (p.keptLineLatches l).currentHigh = ((p.line l).latched.currentHigh && p.lineCondition l .currentHigh) := rfl
  have keep (x y : Bool) : (x && !(x && y)) = true ↔ x = true ∧ y = false := by cases x <;> cases y <;> decide
  simp only [Part.clearLine, Part.clearedLine, ho, hc, keep]

theorem lineGet_clears {s : State} (hr : s.part.Ready) (l : LineId) :
    Replies (.lineGet (BitVec.ofNat 8 l.val) 1) s (s.part.clearLine l) .ok
      (listField (s.part.clearLine l).linePayload [l]) := by
  refine replies_of_done (r := .lineGet (BitVec.ofNat 8 l.val) 1) (f := fun q => listField q.linePayload [l]) hr rfl ?_ hr.1
    rfl rfl rfl
  have hflag : flagArg 1 = some true := rfl
  simp only [Part.handle, Part.lineGet, linesArg_ofNat, hflag, if_true]
  rfl

/-! ### The obligation -/

/-- Settles O47: LINE_CONTROL by the latches, the enable and the supply of the line; the clear by the conditions of its causes. -/
theorem lineControlAndClear : Obligations.LineControlAndClear := by
  intro s l hr
  refine ⟨fun hm hrole => ?_, s.part.clearLine l, lineGet_clears hr l, fun c => ?_, ?_, fun l' hl => ?_, rfl, rfl⟩
  · have faulted := (LineRec.controlFaulted_iff (s.part.line l)).not
    exact ⟨fun h => lineControl_faulted hr hm ((LineRec.controlFaulted_iff _).2 h),
      fun h he hs => lineControl_on hr hm (faulted.2 h) (Part.lineOn_of_enabled (p := s.part.queued _) he hs) hr.1 rfl rfl,
      fun h he => lineControl_on hr hm (faulted.2 h) (Part.lineOn_of_disabled (p := s.part.queued _) hrole he) hr.1 rfl rfl,
      fun h he hs => lineControl_on hr hm (faulted.2 h) (Part.lineOn_of_fault (p := s.part.queued _) hrole he hs) hr.1 rfl rfl,
      lineControl_off hr hm (Part.lineOff_of_none (p := s.part.queued _) hrole) hr.1 rfl rfl⟩
  · rw [Part.clearLine_eq, Part.line_setLine]
    refine (Part.keptLineLatches_has ..).trans ?_
    cases c <;> rfl
  · rw [Part.clearLine_eq, Part.line_setLine]
    rfl
  · rw [Part.clearLine_eq]
    exact Part.line_setLine_of_ne _ _ hl

end Sys2Proof.Machine
end

section
/-! PROOFS. The LEVEL frames (R106, R107) and the tanks that take their levels (R125 to R130, R136; O43). -/

namespace Sys2Proof.Machine

variable {p : Part}

/-! ### What the tanks' work changes: the Water Unit's record and the notices -/

@[simp] theorem Part.setTank_tank (p : Part) (t : Tank) : p.setTank t (p.tank t) = p := by cases t <;> rfl

theorem Part.setTank_setTank (p : Part) (t : Tank) (r r' : TankRec) : (p.setTank t r).setTank t r' = p.setTank t r' := by
  cases t <;> rfl

theorem Part.post_only_link (p : Part) (k : NoticeKind) (n : Nat) (d : List Byte) : ∃ x, p.post k n d = { p with lnk := x } := by
  obtain ⟨_, _, e, _⟩ := p.post_cases k n d
  exact ⟨_, e⟩

/-- From `p` to `q` the Water Unit's record has become `w`, and notices may have been posted. -/
def Part.Watered (p : Part) (w : Wat) (q : Part) : Prop := ∃ k, q = { p with wat := w, lnk := k }

namespace Part.Watered

variable {q : Part} {w : Wat}

theorem refl (p : Part) : p.Watered p.wat p := ⟨p.lnk, rfl⟩

theorem post (h : p.Watered w q) (k : NoticeKind) (n : Nat) (d : List Byte) : p.Watered w (q.post k n d) := by
  obtain ⟨_, rfl⟩ := h
  obtain ⟨x, e⟩ := Part.post_only_link _ k n d
  exact ⟨x, e⟩

theorem trans {w' : Wat} {r : Part} (h : p.Watered w q) (k : q.Watered w' r) : p.Watered w' r := by
  obtain ⟨_, rfl⟩ := h
  obtain ⟨x, rfl⟩ := k
  exact ⟨x, rfl⟩

theorem setTank (p : Part) (t : Tank) (r : TankRec) : p.Watered (p.setTank t r).wat (p.setTank t r) := by
  cases t <;> exact ⟨p.lnk, rfl⟩

theorem wat (h : p.Watered w q) : q.wat = w := by obtain ⟨_, rfl⟩ := h; rfl

theorem sli (h : p.Watered w q) : q.sli = p.sli := by obtain ⟨_, rfl⟩ := h; rfl

theorem params (h : p.Watered w q) : q.params = p.params := by obtain ⟨_, rfl⟩ := h; rfl

theorem mdc (h : p.Watered w q) : q.mdc = p.mdc := by obtain ⟨_, rfl⟩ := h; rfl

theorem outbox (h : p.Watered w q) : q.outbox = p.outbox := by obtain ⟨_, rfl⟩ := h; rfl

end Part.Watered

theorem Part.tank_of_wat {p q : Part} (h : q.wat = p.wat) (t : Tank) : q.tank t = p.tank t := by
  cases t <;> simp only [Part.tank, h]

theorem Part.setTank_wat_congr {p q : Part} (h : q.wat = p.wat) (t : Tank) (r : TankRec) :
    (q.setTank t r).wat = (p.setTank t r).wat := by
  cases t <;> simp only [Part.setTank, h]

/-! ### A sender fault frame (R128) -/

/-- The level state of a tank that is no longer renewed (R125). -/
def TankRec.held (r : TankRec) : TankRec := { r with levelState := if r.levelState = .current then .held else r.levelState }

theorem Part.holdTank_eq (p : Part) (t : Tank) : p.holdTank t = p.setTank t (p.tank t).held := by
  unfold Part.holdTank TankRec.held
  split
  · rfl
  · exact (p.setTank_tank t).symm

theorem Part.setSenderFault_watered (p : Part) (t : Tank) (v : Bool) :
    p.Watered (p.setTank t { p.tank t with senderFault := v }).wat (p.setSenderFault t v) := by
  unfold Part.setSenderFault
  split
  next h =>
    subst h
    exact (congrArg (p.Watered · p) (congrArg Part.wat (p.setTank_tank t))).mpr (.refl p)
  next => exact (Part.Watered.setTank p t _).post ..

theorem Part.senderFaultHanded_watered (p : Part) (t : Tank) :
    p.Watered (p.setTank t { (p.tank t).held with senderFault := true }).wat (p.senderFaultHanded t) := by
  have h := (Part.Watered.setTank p t (p.tank t).held).trans ((p.setTank t (p.tank t).held).setSenderFault_watered t true)
  rw [Part.setTank_setTank, Part.tank_setTank, ← Part.holdTank_eq] at h
  exact h

/-! ### A valid level (R126 to R128, R130, R136) -/

/-- The window of a tank after a level (R127). -/
def Part.windowAt (p : Part) (t : Tank) (level : Nat) : List Nat :=
  if p.parked then (p.tank t).window else windowAppend (p.tank t).window level

/-- The level that a tank publishes (R126, R127). -/
def Part.publishedAt (p : Part) (t : Tank) (level : Nat) : Nat :=
  if p.parked then level else windowMeanOf (p.windowAt t level)

/-- The record of a tank that has taken a valid level. -/
def Part.tankAt (p : Part) (t : Tank) (level : Nat) (st : SenderStatus) : TankRec where
  levelState := .current
  level := some (p.publishedAt t level)
  status := st
  window := p.windowAt t level
  alarm := p.alarmAt t (p.publishedAt t level)
  senderFault := false

theorem Part.judgeAlarm_watered {t : Tank} {level : Nat} (h : (p.tank t).level = some level) :
    p.Watered (p.setTank t { p.tank t with alarm := p.alarmAt t level }).wat (p.judgeAlarm t) := by
  unfold Part.judgeAlarm
  rw [h]
  dsimp only
  split
  next ha =>
    rw [ha]
    exact (congrArg (p.Watered · p) (congrArg Part.wat (p.setTank_tank t))).mpr (.refl p)
  next => exact (Part.Watered.setTank p t _).post ..

theorem Part.clearDry_watered (p : Part) : p.Watered { p.wat with dry := false } p.clearDry := by
  unfold Part.clearDry
  split
  next => exact Part.Watered.post ⟨p.lnk, rfl⟩ ..
  next h =>
    rw [← Bool.eq_false_iff.2 h]
    exact .refl p

/-- DRY after a publication of a level of FRESH (R136). -/
def Part.dryAt (p : Part) (t : Tank) (level : Nat) : Bool :=
  match t with
  | .fresh => if p.params.lowThreshold + 3 ≤ level then false else p.wat.dry
  | .grey => p.wat.dry

theorem Part.judgeDry_watered {t : Tank} {level : Nat} (h : (p.tank t).level = some level) :
    p.Watered { p.wat with dry := p.dryAt t level } (p.judgeDry t) := by
  cases t with
  | grey =>
    unfold Part.judgeDry
    split
    next => contradiction
    next => exact .refl p
  | fresh =>
    unfold Part.judgeDry
    rw [h]
    dsimp only [Part.dryAt]
    split
    · exact p.clearDry_watered
    · exact .refl p

theorem Part.levelHanded_watered (p : Part) (t : Tank) (level : Nat) (st : SenderStatus) :
    p.Watered { (p.setTank t (p.tankAt t level st)).wat with dry := p.dryAt t (p.publishedAt t level) }
      (p.levelHanded t level st) := by
  obtain ⟨k, e⟩ := p.setSenderFault_watered t false
  have htaken : p.Watered (p.setTank t { p.tankAt t level st with alarm := (p.tank t).alarm }).wat
      ((p.setSenderFault t false).setTank t { (p.setSenderFault t false).tank t with
        levelState := .current, level := some (p.publishedAt t level), status := st, window := p.windowAt t level }) := by
    rw [e]
    cases t <;> exact ⟨k, rfl⟩
  have hformed : p.levelHanded t level st = (((p.setSenderFault t false).setTank t { (p.setSenderFault t false).tank t with
      levelState := .current, level := some (p.publishedAt t level), status := st
      window := p.windowAt t level }).judgeAlarm t).judgeDry t := by
    unfold Part.levelHanded
    rw [e]
    cases t <;> rfl
  rw [hformed]
  generalize (p.setSenderFault t false).setTank t _ = q at htaken
  have htank : q.tank t = { p.tankAt t level st with alarm := (p.tank t).alarm } :=
    (Part.tank_of_wat htaken.wat t).trans (Part.tank_setTank ..)
  have halarm (n : Nat) : q.alarmAt t n = p.alarmAt t n := by cases t <;> simp only [Part.alarmAt, htank, htaken.params]
  have hjudged := Part.judgeAlarm_watered (p := q) (t := t) (level := p.publishedAt t level) (by rw [htank]; rfl)
  rw [htank, halarm, Part.setTank_wat_congr htaken.wat, Part.setTank_setTank] at hjudged
  generalize q.judgeAlarm t = x at hjudged
  have hx := htaken.trans hjudged
  have hdry := Part.judgeDry_watered (p := x) (t := t) (level := p.publishedAt t level) (by
    rw [Part.tank_of_wat hx.wat, Part.tank_setTank]
    rfl)
  have hd : x.dryAt t (p.publishedAt t level) = p.dryAt t (p.publishedAt t level) := by
    have hwet : x.wat.dry = p.wat.dry := by rw [hx.wat]; cases t <;> rfl
    cases t <;> simp only [Part.dryAt, hx.params, hwet]
  rw [hd, hx.wat] at hdry
  exact hx.trans hdry

/-! ### Slots and frames (R106, R107) -/

theorem slotsValue_eq_foldr (slots : List Bool) : slotsValue slots = slots.foldr (fun b n => b.toNat + 2 * n) 0 := by
  induction slots with
  | nil => rfl
  | cons b bs ih => exact congrArg (b.toNat + 2 * ·) ih

/-- The slots of a frame with one more sample. -/
def LineRec.sampled (r : LineRec) (slots : List Bool) (current : Nat) : List Bool := slots ++ [decide (r.thr.fall1 < current)]

variable {l : LineId}

theorem Part.slotSample_of_short {slots : List Bool} {current : Nat} (hf : (p.line l).frame = some slots)
    (h : ((p.line l).sampled slots current).length < 10) : p.slotSample l current =
      p.setLine l { (p.line l).observed current current with frame := some ((p.line l).sampled slots current) } := by
  rw [Part.slotSample, hf]
  exact if_neg (Nat.not_le.2 h)

theorem Part.slotSample_of_tenth {slots : List Bool} {current : Nat} (hf : (p.line l).frame = some slots)
    (h : ((p.line l).sampled slots current).length = 10) : p.slotSample l current =
      (p.setLine l { (p.line l).observed current current with frame := some ((p.line l).sampled slots current) }).judgeFrame l
        ((p.line l).sampled slots current) := by
  rw [Part.slotSample, hf]
  exact if_pos (Nat.le_of_eq h.symm)

/-- The status that a frame's slots spell (R106). -/
def frameStatus (slots : List Bool) : Nat := slotsValue ((slots.drop 7).take 2)

/-- The level that a frame's slots spell (R106). -/
def frameLevel (slots : List Bool) : Nat := slotsValue (slots.take 7)

/-- The sender status of a valid frame (R106). -/
def senderStatus (slots : List Bool) : SenderStatus := if frameStatus slots = 1 then .drift else .ok

section

variable (r : LineRec) {slots : List Bool}

theorem Part.judgeFrame_odd (h : slots.count true % 2 = 1) : (p.setLine l r).judgeFrame l slots =
    (p.setLine l { r with frame := none, bits := 10, complete := true }).latchLine l .invalid := by
  rw [Part.judgeFrame, if_pos h, Part.line_setLine, Part.setLine_setLine]

theorem Part.judgeFrame_bad (h : ¬ slots.count true % 2 = 1) (hb : 2 ≤ frameStatus slots ∨ frameLevel slots = 127) :
    (p.setLine l r).judgeFrame l slots =
      ((p.setLine l { r with frame := none, bits := 10, complete := true, lastFault := true }).latchLine l
        .senderFault).handSenderFault l := by
  rw [Part.judgeFrame, Part.line_setLine, Part.setLine_setLine, Part.line_setLine, Part.setLine_setLine]
  exact (if_neg h).trans (if_pos hb)

theorem Part.judgeFrame_valid (h : ¬ slots.count true % 2 = 1) (hb : ¬ (2 ≤ frameStatus slots ∨ frameLevel slots = 127)) :
    (p.setLine l r).judgeFrame l slots =
      (p.setLine l { r with frame := none, bits := 10, complete := true, lastFault := false }).storeValue l
        (.level (min 100 (frameLevel slots)) (senderStatus slots)) (decide (100 < frameLevel slots)) := by
  rw [Part.judgeFrame, Part.line_setLine, Part.setLine_setLine, Part.line_setLine, Part.setLine_setLine]
  refine (if_neg h).trans ((if_neg hb).trans ?_)
  change (if 100 < frameLevel slots then _ else _) = _
  rw [Part.setLine_setLine]
  split
  next hl => rw [decide_eq_true hl, Nat.min_eq_left (Nat.le_of_lt hl)]; rfl
  next hl => rw [decide_eq_false hl, Nat.min_eq_right (Nat.not_lt.1 hl)]; rfl

end

/-! ### A datum stored, and handed to the tank (R109, R114) -/

/-- The part with a datum stored in a line, not yet handed to the role holder. -/
def Part.storedAt (p : Part) (l : LineId) (v : LineValue) (clamped : Bool) : Part :=
  let q := p.setLine l ((p.line l).stored v clamped)
  if clamped then q.latchLine l .outOfRange else q

/-- What a stored datum leaves of the part. -/
theorem Part.storedAt_eq (p : Part) (l : LineId) (v : LineValue) (clamped : Bool) : ∃ x k, p.storedAt l v clamped =
    { p.setLine l { (p.line l).stored v clamped with latched := x } with lnk := k } ∧ (clamped = true → x.outOfRange = true) := by
  cases clamped with
  | false => exact ⟨_, p.lnk, rfl, nofun⟩
  | true =>
    obtain ⟨k, e⟩ := (p.setLine l ((p.line l).stored v true)).latchLine_only_link l .outOfRange
    rw [Part.line_setLine, Part.setLine_setLine] at e
    exact ⟨_, k, e, fun _ => rfl⟩

/-- A level reaches the tank of its line's role, if it has one. -/
theorem Part.handValue_level (p : Part) (l : LineId) (n : Nat) (st : SenderStatus) : p.handValue l (.level n st) =
    match tankOfRole (p.params.lineRole l) with
    | some t => p.levelHanded t n st
    | none => p := by
  unfold Part.handValue
  cases h : p.params.lineRole l <;> rfl

theorem Part.handValue_level_watered (p : Part) (l : LineId) (n : Nat) (st : SenderStatus) :
    ∃ w, p.Watered w (p.handValue l (.level n st)) := by
  rw [Part.handValue_level]
  split
  · exact ⟨_, p.levelHanded_watered _ n st⟩
  · exact ⟨_, .refl p⟩

theorem Part.handSenderFault_watered (p : Part) (l : LineId) : ∃ w, p.Watered w (p.handSenderFault l) := by
  unfold Part.handSenderFault
  split
  · exact ⟨_, p.senderFaultHanded_watered _⟩
  · exact ⟨_, .refl p⟩

theorem Part.handSenderFault_tank {t : Tank} (h : tankOfRole (p.params.lineRole l) = some t) :
    (p.handSenderFault l).tank t = { (p.tank t).held with senderFault := true } := by
  rw [Part.handSenderFault, h]
  exact (Part.tank_of_wat (p.senderFaultHanded_watered t).wat t).trans (Part.tank_setTank ..)

theorem Part.handValue_level_wat {t : Tank} (h : tankOfRole (p.params.lineRole l) = some t) (n : Nat) (st : SenderStatus) :
    (p.handValue l (.level n st)).wat =
      { (p.setTank t (p.tankAt t n st)).wat with dry := p.dryAt t (p.publishedAt t n) } := by
  rw [Part.handValue_level, h]
  exact (p.levelHanded_watered t n st).wat

/-- An event that leaves no report ends with the dry timer and the link alone. -/
theorem event_ends {i : Instr} {s : State} {f : Part → Part} {q : Part} (h : exec i s = s.event f) (hf : f s.part = q)
    (ho : q.outbox = []) :
    ∃ n k, exec i s = .next ⟨{ q with wat := { q.wat with dryTimer := n }, lnk := k }, s.pending⟩ := by
  obtain ⟨n, k, e⟩ := Part.finish_eq_of_empty ho
  refine ⟨n, k, ?_⟩
  rw [h, ← e, ← hf]
  rfl

/-- A sender fault frame: the latch of its line, and what its tank makes of it. -/
theorem Part.senderFault_frame (p : Part) (l : LineId) (r : LineRec) :
    let q := ((p.setLine l r).latchLine l .senderFault).handSenderFault l
    q.outbox = p.outbox ∧ q.line l = { r with latched := { r.latched with senderFault := true } } ∧
      ∀ t, tankOfRole (p.params.lineRole l) = some t → q.tank t = { (p.tank t).held with senderFault := true } := by
  intro q
  obtain ⟨k, e⟩ := (p.setLine l r).latchLine_only_link l .senderFault
  obtain ⟨w, hq⟩ := ((p.setLine l r).latchLine l .senderFault).handSenderFault_watered l
  refine ⟨?_, ?_, fun t ht => ?_⟩
  · rw [hq.outbox, Part.latchLine_outbox]
    rfl
  · show q.sli.lines[l] = _
    rw [hq.sli]
    exact (Part.line_latchLine ..).trans (by rw [Part.line_setLine]; rfl)
  · have htank : ((p.setLine l r).latchLine l .senderFault).tank t = p.tank t := by
      rw [Part.tank_of_wat (Part.latchLine_wat ..)]
      exact Part.setLine_tank_read ..
    refine (Part.handSenderFault_tank ?_).trans (by rw [htank])
    rw [Part.latchLine_params]
    exact ht

/-- A valid frame: the datum in its line, and what its tank makes of it. -/
theorem Part.valid_frame (p : Part) (l : LineId) (r : LineRec) (n : Nat) (st : SenderStatus) (clamped : Bool) :
    let q := (p.setLine l r).storeValue l (.level n st) clamped
    (∃ w, ∃ x k, (clamped = true → x.outOfRange = true) ∧
      q = { p.setLine l { r.stored (.level n st) clamped with latched := x } with wat := w, lnk := k }) ∧
      ∀ t, tankOfRole (p.params.lineRole l) = some t →
        q.wat = { (p.setTank t (p.tankAt t n st)).wat with dry := p.dryAt t (p.publishedAt t n) } := by
  intro q
  obtain ⟨x, k, e, hx⟩ := (p.setLine l r).storedAt_eq l (.level n st) clamped
  rw [Part.line_setLine, Part.setLine_setLine] at e
  refine ⟨?_, fun t ht => ?_⟩
  · obtain ⟨w, k', hq⟩ := ((p.setLine l r).storedAt l (.level n st) clamped).handValue_level_watered l n st
    refine ⟨w, x, k', hx, hq.trans ?_⟩
    rw [e]
  · have hwat := Part.handValue_level_wat (p := (p.setLine l r).storedAt l (.level n st) clamped) (l := l) (t := t)
      (by rw [e]; exact ht) n st
    refine hwat.trans ?_
    rw [e]
    cases t <;> rfl

/-! ### The obligation -/

/-- LOW of FRESH below its threshold, and clear from 3 % above it (R130). -/
theorem lowRule_cases (n low : Nat) (was : Bool) :
    (n ≤ low → lowRule n low was = true) ∧ (low + 3 ≤ n → lowRule n low was = false) := by
  unfold lowRule
  refine ⟨fun h => if_pos h, fun h => ?_⟩
  rw [if_neg (by omega), if_pos h]

/-- Settles O43: the frame by its length, its parity and its status and level; its tank by the record that it takes. -/
theorem levelFrameIsJudgedAtItsTenthSlot : Obligations.LevelFrameIsJudgedAtItsTenthSlot := by
  intro s l current slots ho hf p openTimer all level status odd bad fresh grey
  have hlevel : level = frameLevel all := (slotsValue_eq_foldr _).symm
  have hstatus : status = frameStatus all := (slotsValue_eq_foldr _).symm
  have tenth {q : Part} (h10 : all.length = 10) (hq : (p.setLine l { (p.line l).observed current current with
      frame := some all }).judgeFrame l all = q) : p.slotSample l current = q := (Part.slotSample_of_tenth hf h10).trans hq
  refine ⟨fun h => leadsTo_of_event (f := (·.slotSample l current)) rfl (Part.slotSample_of_short hf h) ho,
    fun h10 hodd => leadsTo_of_event (f := (·.slotSample l current)) rfl (tenth h10 (Part.judgeFrame_odd _ hodd))
      ((Part.latchLine_outbox ..).trans ho), fun h10 hodd hbad => ?_, fun h10 hodd hbad => ?_⟩
  · have hb : 2 ≤ frameStatus all ∨ frameLevel all = 127 := by
      rw [← hstatus, ← hlevel]
      exact hbad
    have hq := tenth h10 (Part.judgeFrame_bad _ hodd hb)
    obtain ⟨hbox, hline, htank⟩ := p.senderFault_frame l { (p.line l).observed current current with
      frame := none, bits := 10, complete := true, lastFault := true }
    generalize ((p.setLine l _).latchLine l _).handSenderFault l = q at hq hbox hline htank
    obtain ⟨n, k, e⟩ := event_ends (i := .levelSlotSample l current) (f := (·.slotSample l current)) rfl hq (hbox.trans ho)
    have hline' : ({ q with wat := { q.wat with dryTimer := n }, lnk := k } : Part).line l = _ := hline
    refine ⟨_, e, rfl, by rw [hline'], by rw [hline']; rfl, by rw [hline'], by rw [hline'], by rw [hline'], fun hr => ?_,
      fun hr => ?_⟩
    · have hfresh : q.wat.fresh = _ := htank .fresh (by rw [hr]; rfl)
      exact ⟨congrArg TankRec.senderFault hfresh, (congrArg TankRec.level hfresh).trans rfl,
        fun hc => (congrArg TankRec.levelState hfresh).trans (if_pos hc)⟩
    · exact htank .grey (by rw [hr]; rfl)
  · have hb : ¬ (2 ≤ frameStatus all ∨ frameLevel all = 127) := by
      rw [← hstatus, ← hlevel]
      exact hbad
    have hq := tenth h10 (Part.judgeFrame_valid _ hodd hb)
    obtain ⟨⟨w, x, k, hx, e⟩, hwat⟩ := p.valid_frame l { (p.line l).observed current current with
      frame := none, bits := 10, complete := true, lastFault := false } (min 100 (frameLevel all)) (senderStatus all)
      (decide (100 < frameLevel all))
    generalize (p.setLine l _).storeValue l _ _ = q at hq e hwat
    subst e
    obtain ⟨n, k', hexec⟩ := event_ends (i := .levelSlotSample l current) (f := (·.slotSample l current)) rfl hq ho
    rw [hlevel, hstatus]
    refine ⟨_, hexec, rfl, ?_, ?_, ?_, ?_, fun hl => ?_, fun l' hl => Part.line_setLine_of_ne _ _ hl, rfl, rfl, fun _ => rfl,
      fun _ => rfl, fun hr => ?_, fun hr => ?_⟩
    · exact congrArg LineRec.value (p.line_setLine l _)
    · exact congrArg LineRec.age (p.line_setLine l _)
    · exact congrArg LineRec.nodataTimer (p.line_setLine l _)
    · exact congrArg LineRec.nodata (p.line_setLine l _)
    · exact (congrArg (fun r : LineRec => r.latched.outOfRange) (p.line_setLine l _)).trans (hx (decide_eq_true hl))
    · have hw : w = _ := hwat .fresh (by rw [hr]; rfl)
      obtain ⟨hlow, hclear⟩ := lowRule_cases (p.publishedAt .fresh (min 100 (frameLevel all))) p.params.lowThreshold fresh.alarm
      subst hw
      exact ⟨rfl, rfl, rfl, rfl, hlow, fun h => ⟨hclear h, if_pos h⟩⟩
    · have hw : w = _ := hwat .grey (by rw [hr]; rfl)
      subst hw
      exact ⟨rfl, rfl, rfl⟩

end Sys2Proof.Machine
end


section
/-! PROOFS. What the blocks' work leaves of Climate's record: the outputs, the lights, the pad and the motions leave it whole, and the
Load Manager reaches no more of it than the heater's state, its minimum times and its held mark (`Clm.judged`). Each operation has one
lemma, which follows its definition. -/

namespace Sys2Proof.Machine

/-- Climate's record without what reports on the heater's load change: the guard, the calls and the temperatures (R142 to R150). -/
def Clm.judged (c : Clm) : Clm := { c with heater := .noHeater, minOn := none, minOff := none, held := .none }

theorem Clm.bay_of_judged {c d : Clm} (h : c.judged = d.judged) : c.bay = d.bay := by
  have e : c.judged.bay = d.judged.bay := by rw [h]
  exact e

section

variable (p : Part)

/-! ### The outputs, the lights and the pad -/

@[simp] theorem Part.postCheck_clm (c : LoadId) : (p.postCheck c).clm = p.clm := by
  obtain ⟨_, e, _⟩ := p.postCheck_cases c
  rw [e]

@[simp] theorem Part.setSwitching_clm (c : LoadId) (w : Switching) : (p.setSwitching c w).clm = p.clm := rfl

@[simp] theorem Part.orderOff_clm (c : LoadId) : (p.orderOff c).clm = p.clm := by
  unfold Part.orderOff; split <;> simp

@[simp] theorem Part.orderOn_clm (c : LoadId) : (p.orderOn c).clm = p.clm := by
  unfold Part.orderOn; split <;> simp

@[simp] theorem Part.setDuty_clm (c : LoadId) (n : Nat) : (p.setDuty c n).clm = p.clm := rfl

@[simp] theorem Part.setPresent_clm (c : LightId) (n : Nat) : (p.setPresent c n).clm = p.clm := by
  unfold Part.setPresent; dsimp only; split <;> simp

@[simp] theorem Part.lightOn_clm (c : LightId) : (p.lightOn c).clm = p.clm := by
  unfold Part.lightOn; split <;> simp

@[simp] theorem Part.lightOff_clm (c : LightId) : (p.lightOff c).clm = p.clm := by
  unfold Part.lightOff; split <;> simp

@[simp] theorem Part.endFade_clm (c : LightId) : (p.endFade c).clm = p.clm := by
  unfold Part.endFade; dsimp only; split <;> simp

@[simp] theorem Part.startFade_clm (c : LightId) (fadeEnd time : Nat) : (p.startFade c fadeEnd time).clm = p.clm := by
  unfold Part.startFade; dsimp only; split
  · split <;> simp
  · split <;> simp

@[simp] theorem Part.darken_clm (c : LightId) : (p.darken c).clm = p.clm := by simp [Part.darken]

@[simp] theorem Part.lightReport_clm (c : LightId) (x : OwnerReport) : (p.lightReport c x).clm = p.clm := by
  cases x <;> simp [Part.lightReport]

@[simp] theorem Part.setPad_clm (st : PadState) : (p.setPad st).clm = p.clm := by
  unfold Part.setPad; dsimp only; split
  · rfl
  · exact Part.post_clm ..

@[simp] theorem Part.padReport_clm (x : OwnerReport) : (p.padReport x).clm = p.clm := by
  unfold Part.padReport; split
  · rfl
  · cases x with
    | off => dsimp only; split <;> simp
    | restored | shed | cut | faulted | cleared | exercised | released => simp

@[simp] theorem Part.pumpReport_clm (x : OwnerReport) : (p.pumpReport x).clm = p.clm := by cases x <;> rfl

@[simp] theorem Part.motorReport_clm (a : Axis) (x : OwnerReport) : (p.motorReport a x).clm = p.clm := by cases x <;> rfl

@[simp] theorem Part.valveReport_clm (x : OwnerReport) : (p.valveReport x).clm = p.clm := by cases x <;> rfl

/-! ### The heater (R145, R146) -/

@[simp] theorem Part.setHeater_judged (x : HeaterState) : (p.setHeater x).clm.judged = p.clm.judged := by
  unfold Part.setHeater; dsimp only; split
  · rfl
  · rw [Part.postHeater, Part.post_clm]
    rfl

@[simp] theorem Part.heaterRunning_judged : p.heaterRunning.clm.judged = p.clm.judged := by
  rw [Part.heaterRunning, Part.setHeater_judged]
  rfl

@[simp] theorem Part.heaterEnded_judged : p.heaterEnded.clm.judged = p.clm.judged := by
  unfold Part.heaterEnded; split <;> rfl

@[simp] theorem Part.heaterReport_judged (x : OwnerReport) : (p.heaterReport x).clm.judged = p.clm.judged := by
  cases x <;> simp [Part.heaterReport]

@[simp] theorem Part.tellOwner_judged (l : LoadId) (x : OwnerReport) : (p.tellOwner l x).clm.judged = p.clm.judged := by
  unfold Part.tellOwner; split
  · simp
  · split
    · simp
    · split <;> simp

/-! ### The Load Manager (R50 to R69) -/

@[simp] theorem Part.postLoad_clm (l : LoadId) (c : LoadCause) : (p.postLoad l c).clm = p.clm := Part.post_clm ..

@[simp] theorem Part.depthJudge_clm (b : BusName) : (p.depthJudge b).clm = p.clm := by
  rcases p.depthJudge_cases b with ⟨e, _⟩ | ⟨e, _⟩ | ⟨e, _⟩ <;> rw [e]
  · rw [Part.postDepth, Part.post_clm, Part.setBus_clm]
  · rw [Part.setBus_clm]

@[simp] theorem Part.leave_clm (l : LoadId) : (p.leave l).clm = p.clm := by
  unfold Part.leave; split <;> simp [Part.leaveList, Part.leaveStack]

@[simp] theorem Part.setLoadState_clm (l : LoadId) (st : LoadState) : (p.setLoadState l st).clm = p.clm := rfl

@[simp] theorem Part.ldmOff_clm (l : LoadId) : (p.ldmOff l).clm = p.clm := by
  rcases p.ldmOff_cases l with e | e <;> simp [e]

@[simp] theorem Part.ldmOn_clm (l : LoadId) : (p.ldmOn l).clm = p.clm := by
  rcases p.ldmOn_cases l with e | e <;> simp [e]

@[simp] theorem Part.shed_judged (b : BusName) (c : ShedCause) (l : LoadId) : (p.shed b c l).clm.judged = p.clm.judged := by
  simp [Part.shed, Part.leaveList]

@[simp] theorem Part.shedAll_judged (b : BusName) (c : ShedCause) (ls : List LoadId) :
    (p.shedAll b c ls).clm.judged = p.clm.judged := by
  induction ls generalizing p with
  | nil => rfl
  | cons l ls ih => exact (ih (p.shed b c l)).trans (p.shed_judged b c l)

@[simp] theorem Part.motorCut_judged (b : BusName) (extra : Nat) : (p.motorCut b extra).clm.judged = p.clm.judged := by
  unfold Part.motorCut; split
  · split <;> simp [Part.cutMotor, Part.leaveList]
  · rfl

@[simp] theorem Part.overloadCheck_judged (b : BusName) : (p.overloadCheck b).clm.judged = p.clm.judged := by
  obtain ⟨_, _, e, _⟩ := p.shedToFit_stages b (p.victims b fun _ => true)
  rw [Part.overloadCheck, Part.motorCut_judged, e, Part.shedAll_judged]

@[simp] theorem Part.threeChecks_judged (b : BusName) : (p.threeChecks b).clm.judged = p.clm.judged := by
  unfold Part.threeChecks; dsimp only
  split <;> simp [Part.floorCheck, Part.undervoltageShed]

@[simp] theorem Part.makeRoom_judged (l : LoadId) (cls draw : Nat) : (p.makeRoom l cls draw).1.clm.judged = p.clm.judged := by
  unfold Part.makeRoom; dsimp only; split
  · rfl
  · split
    · simp
    · split <;> simp

@[simp] theorem Part.turnOn_clm (l : LoadId) (m : Option Nat) : (p.turnOn l m).clm = p.clm := by simp [Part.turnOn]

@[simp] theorem Part.admitLoad_clm (l : LoadId) (m : Option Nat) : (p.admitLoad l m).clm = p.clm := by simp [Part.admitLoad]

@[simp] theorem Part.demand_judged (l : LoadId) (m : Option Nat) : (p.demand l m).1.clm.judged = p.clm.judged := by
  unfold Part.demand; dsimp only; split
  · rfl
  · split
    · rfl
    · rfl
    · split <;> simp

@[simp] theorem Part.setWantedLevel_clm (l : LoadId) (n : Nat) : (p.setWantedLevel l n).clm = p.clm := rfl

@[simp] theorem Part.lightDemand_judged (c : LightId) (n : Nat) : (p.lightDemand c n).1.clm.judged = p.clm.judged := by
  unfold Part.lightDemand; dsimp only; split
  · rfl
  · split
    · rfl
    · split
      · rfl
      · split <;> simp
    · split <;> simp

@[simp] theorem Part.wantedOff_clm (l : LoadId) : (p.wantedOff l).clm = p.clm := by
  unfold Part.wantedOff; split <;> simp

@[simp] theorem Part.loadTrip_judged (l : LoadId) : (p.loadTrip l).clm.judged = p.clm.judged := by
  unfold Part.loadTrip; split <;> simp

@[simp] theorem Part.promoteLoad_judged (l : LoadId) : (p.promoteLoad l).clm.judged = p.clm.judged := by
  unfold Part.promoteLoad; dsimp only; split <;> simp

@[simp] theorem Part.demoteLoad_judged (l : LoadId) : (p.demoteLoad l).clm.judged = p.clm.judged := by
  unfold Part.demoteLoad; dsimp only; split <;> simp

/-! ### Motion (R164 to R178) -/

@[simp] theorem Part.setAxisState_clm (a : Axis) (st : AxisState) : (p.setAxisState a st).clm = p.clm := by
  unfold Part.setAxisState; dsimp only; split <;> simp

@[simp] theorem Part.postMotion_clm (a : Axis) (x : MotionResult) : (p.postMotion a x).clm = p.clm := Part.post_clm ..

@[simp] theorem Part.formPosition_clm (m : Motion) : (p.formPosition m).clm = p.clm := by
  unfold Part.formPosition Part.setPosition; split
  · split <;> simp
  · rfl

@[simp] theorem Part.endCore_clm (m : Motion) (x : MotionResult) : (p.endCore m x).clm = p.clm := by
  unfold Part.endCore Part.endAs; dsimp only; split <;> simp [Part.stopDrive]

@[simp] theorem Part.restated_clm (a : Axis) : (p.restated a).clm = p.clm := by
  rcases p.restated_cases a with e | ⟨_, x, e⟩ <;> simp [e]

@[simp] theorem Part.startCore_clm (m : Motion) : (p.startCore m).clm = p.clm := by
  unfold Part.startCore; dsimp only; split
  · simp
  · split <;> simp [Part.startBridge]

@[simp] theorem Part.startWaiting_clm : p.startWaiting.clm = p.clm := by
  unfold Part.startWaiting; split
  · split <;> simp
  · rfl

@[simp] theorem Part.demandMotion_judged (a : Axis) (d : Direction) (target : Option Nat) :
    (p.demandMotion a d target).1.clm.judged = p.clm.judged := by
  unfold Part.demandMotion; dsimp only; split <;> simp

@[simp] theorem Part.takePending_judged : p.takePending.clm.judged = p.clm.judged := by
  unfold Part.takePending; split
  · dsimp only; split
    · simp
    · split <;> simp
  · rfl

@[simp] theorem Part.motorReported_judged (a : Axis) (x : MotionResult) : (p.motorReported a x).clm.judged = p.clm.judged := by
  unfold Part.motorReported; split
  · split <;> simp [Part.endMotion, Part.stepFive]
  · rfl

/-! ### The courtesy light (R185) -/

@[simp] theorem Part.levelDemand_judged (c : LightId) (level fade : Nat) :
    (p.levelDemand c level fade).1.clm.judged = p.clm.judged := by
  unfold Part.levelDemand; dsimp only; split
  · rfl
  · split
    · split <;> simp [Part.setTarget]
    · split <;> simp [Part.setTarget]

@[simp] theorem Part.courtesyStep_judged : p.courtesyStep.clm.judged = p.clm.judged := by
  unfold Part.courtesyStep; split
  · rfl
  · dsimp only; split
    · rfl
    · split
      · simp [Part.startCourtesy]
      · split
        · rfl
        · split <;> simp [Part.startCourtesy]

end

/-! ### The end of an event (log 6) -/

/-- No load at all has to stay SHED. -/
abbrev noLoads : LoadId → Prop := fun _ => False

/-- No report waits that would reach the frost guard or the battery pad. -/
def Part.Tame (p : Part) : Prop := ∀ x ∈ p.outbox, HarmlessReport noLoads p.params x

variable {p : Part}

theorem Part.tame_of_empty (h : p.outbox = []) : p.Tame := fun x hx => by
  rw [h] at hx
  cases hx

/-- The frame `Part.KeepWork` of every part whose reports are tame. -/
theorem Part.Tame.work (h : p.Tame) : p.KeepWork noLoads p := .refl (fun _ hk => hk.elim) h

theorem Part.takeReport_judged {x : Report} (hx : HarmlessReport noLoads p.params x) :
    (p.takeReport x).clm.judged = p.clm.judged := by
  cases x with
  | motorCut a | motorFaulted a => exact p.motorReported_judged a _
  | valveFaulted | padCleared => exact hx.elim
  | tripped l => exact p.loadTrip_judged l
  | stepExtended => exact p.courtesyStep_judged

theorem Part.deliver_judged (h : p.Tame) (n : Nat) : (p.deliver n).clm.judged = p.clm.judged := by
  induction n generalizing p with
  | zero => rfl
  | succ n ih =>
    unfold Part.deliver
    split
    · rfl
    next x rest e =>
      have hmem := h
      rw [Part.Tame, e] at hmem
      have hx := hmem x (by simp)
      have hrest : ({ p with outbox := rest } : Part).Tame := fun y hy => hmem y (by simp [hy])
      exact (ih (hrest.work.takeReport hx).reports).trans (Part.takeReport_judged hx)

/-- The end of an event leaves Climate's record but for the heater. -/
theorem Part.finish_judged (h : p.Tame) : p.finish.clm.judged = p.clm.judged := by
  obtain ⟨_, e⟩ := p.delivered.dryCheck.transmit_only_link
  rw [Part.finish, e]
  rcases p.delivered.dryCheck_cases with ⟨_, e⟩ | ⟨_, e⟩ <;> rw [e] <;> exact Part.deliver_judged h 64

/-! ### The heater's load and its promotion (R144 to R150) -/

/-- A judgement of the heater writes whether heat is wanted. -/
theorem Part.heaterJudge_judged (hm : p.mdc.mode ≠ .start) :
    p.heaterJudge.clm.judged = { p.clm with heatWanted := p.wantsHeat }.judged := by
  have hset (x : HeaterState) (q : Part) : (q.setHeater x).clm.judged = q.clm.judged := q.setHeater_judged x
  have hheld (x : Held) (q : Part) : (q.setHeld x).clm.judged = q.clm.judged := rfl
  have hdemand (q : Part) (l : LoadId) : (q.demandHeater l).clm.judged = q.clm.judged := by
    unfold Part.demandHeater; dsimp only; split <;> simp
  have hdrop (q : Part) (l : LoadId) : (q.dropHeater l).clm.judged = q.clm.judged := by simp [Part.dropHeater]
  have hq : (({ p with clm := { p.clm with heatWanted := p.wantsHeat } } : Part).setHeld .none).clm.judged =
      { p.clm with heatWanted := p.wantsHeat }.judged := rfl
  unfold Part.heaterJudge
  rw [if_neg hm]
  dsimp only
  rw [← hq]
  generalize ({ p with clm := { p.clm with heatWanted := p.wantsHeat } } : Part).setHeld .none = q
  split
  · rfl
  · split
    · rfl
    · rfl
    · split
      · split <;> simp [hheld, hdemand]
      · rfl
    · split
      · split <;> simp [hheld, hdemand]
      · exact hset ..
    · split
      · rfl
      · split <;> simp [hheld, hdrop]
    · split
      · rfl
      · split <;> simp [hheld, hdrop]

@[simp] theorem Part.promoteHeater_judged (p : Part) : p.promoteHeater.clm.judged = p.clm.judged := by
  unfold Part.promoteHeater; split
  · rfl
  · split <;> simp [Part.postHeater]

@[simp] theorem Part.demoteHeater_judged (p : Part) : p.demoteHeater.clm.judged = p.clm.judged := by
  unfold Part.demoteHeater; split
  · rfl
  · split <;> simp [Part.postHeater]

/-- The owner of a restored load reports nothing further to the guard or the pad. -/
theorem Part.KeepWork.tellRestored (h : p.KeepWork noLoads p) (l : LoadId) : p.KeepWork noLoads (p.tellOwner l .restored) := by
  unfold Part.tellOwner; split
  · exact h.startFade (fun _ => id) _
  · split
    · exact h
    · split
      · exact h.pumpReport _
      · exact h.heaterReport _
      · exact h
      · exact h.padReport (by decide)
      · exact h

theorem Part.KeepWork.promoteLoad (h : p.KeepWork noLoads p) {l : LoadId} (hl : p.params.role l = .heater) :
    p.KeepWork noLoads (p.promoteLoad l) := by
  have hrole {q : Part} (hq : p.KeepWork noLoads q) : q.params.role l ≠ .frostValve := by
    rw [hq.params, hl]
    decide
  have hdead {q : Part} (hq : p.KeepWork noLoads q) : ¬ q.ValveDead l := fun hv => hrole hq hv.role
  have hp := (h.setLoad (l := l) (x := { p.load l with promoted := true }) (fun hk => hk.elim)
    fun hv => absurd hv (hdead h)).postLoad l .promoted
  unfold Part.promoteLoad
  dsimp only
  split
  · have hoff := (hp.leave l).setLoadState (l := l) (st := .off) id (hdead (hp.leave l))
    have hroom (draw : Nat) := hoff.makeRoom l 1 draw
    have hon (draw : Nat) := (hroom draw).turnOn ⟨id, fun _ => hrole (hroom draw)⟩ none
    exact ((hon _).trans ((hon _).self.tellRestored l)).postLoad l .restored
  · exact hp

/-! ### The transitions of the guard (R148 to R150) -/

namespace Part.Tame

theorem setClm (h : p.Tame) (c : Clm) : ({ p with clm := c } : Part).Tame := h

theorem heaterJudge (h : p.Tame) : p.heaterJudge.Tame := (h.work.heaterJudge fun _ _ => id).reports

theorem demoteHeater (h : p.Tame) : p.demoteHeater.Tame := (h.work.demoteHeater fun _ _ => id).reports

theorem promoteHeater (h : p.Tame) : p.promoteHeater.Tame := by
  unfold Part.promoteHeater
  split
  · exact h
  next hl =>
    split
    · exact h
    · exact (h.work.promoteLoad (Pages.role_of_loadWith hl)).postHeater.reports

theorem guardEnter (h : p.Tame) (g : GuardState) : (p.guardEnter g).Tame := by
  unfold Part.guardEnter
  split
  · exact (h.setClm _).promoteHeater.heaterJudge
  · dsimp only
    split
    · exact ((h.setClm _).demoteHeater.setClm _).heaterJudge
    · exact (h.setClm _).heaterJudge
  · exact (h.setClm _).heaterJudge

theorem guardLoop (h : p.Tame) (n : Nat) (c : Option FrostCause) : (p.guardLoop n c).1.Tame := by
  induction n generalizing p c with
  | zero => exact h
  | succ n ih =>
    unfold Part.guardLoop
    split
    · exact h
    · exact ih (h.guardEnter _) _

theorem postGuard (h : p.Tame) (g : GuardState) (c : Option FrostCause) : (p.postGuard g c).Tame := by
  cases c with
  | none => exact h
  | some c =>
    obtain ⟨_, _, e, _⟩ := p.post_cases .frost 0 (n8 g.code ++ n8 p.clm.guard.code ++ n8 c.code ++ optField (leSigned 2) p.clm.bay ++
      optField n16 (secondsLeft p.clm.riskTimer) ++ p.valveState)
    rw [Part.postGuard, Part.postFrost, e]
    exact h

theorem guardJudge (h : p.Tame) : p.guardJudge.Tame := by
  have hloop := h.guardLoop 4 none
  unfold Part.guardJudge Part.guardSettle
  dsimp only
  split
  · exact h.postGuard _ _
  · exact hloop.postGuard _ _

end Part.Tame

/-! ### The bay temperature (R142) -/

theorem Part.heaterJudge_bay (p : Part) : p.heaterJudge.clm.bay = p.clm.bay := by
  by_cases hm : p.mdc.mode = .start
  · rw [Part.heaterJudge, if_pos hm]
  · exact (Clm.bay_of_judged (Part.heaterJudge_judged hm)).trans rfl

theorem Part.guardEnter_bay (p : Part) (g : GuardState) : (p.guardEnter g).clm.bay = p.clm.bay := by
  unfold Part.guardEnter
  split
  · exact (Part.heaterJudge_bay _).trans ((Clm.bay_of_judged (Part.promoteHeater_judged _)).trans rfl)
  · refine (Part.heaterJudge_bay _).trans ?_
    dsimp only
    split
    · exact (Clm.bay_of_judged (Part.demoteHeater_judged _)).trans rfl
    · rfl
  · exact Part.heaterJudge_bay _

theorem Part.guardLoop_bay (p : Part) (n : Nat) (c : Option FrostCause) : (p.guardLoop n c).1.clm.bay = p.clm.bay := by
  induction n generalizing p c with
  | zero => rfl
  | succ n ih =>
    unfold Part.guardLoop
    split
    · rfl
    · exact (ih _ _).trans (p.guardEnter_bay _)

@[simp] theorem Part.postGuard_clm (p : Part) (g : GuardState) (c : Option FrostCause) : (p.postGuard g c).clm = p.clm := by
  cases c with
  | none => rfl
  | some c => exact Part.post_clm ..

/-- The transitions of the guard leave the bay temperature. -/
theorem Part.guardJudge_bay (p : Part) : p.guardJudge.clm.bay = p.clm.bay := by
  unfold Part.guardJudge Part.guardSettle
  dsimp only
  split
  · rw [Part.postGuard_clm]
  · rw [Part.postGuard_clm, Part.guardLoop_bay]

/-- The bay temperature after it has been judged, to the end of the event. -/
theorem Part.bayJudge_finish_bay (h : p.outbox = []) : p.bayJudge.finish.clm.bay = p.knownTemp .bayTemp := by
  have htame : p.formBay.Tame := Part.tame_of_empty h
  have hend : p.bayJudge.finish.clm.bay = p.bayJudge.clm.bay := Clm.bay_of_judged (Part.finish_judged htame.guardJudge)
  exact hend.trans (Part.guardJudge_bay p.formBay)

end Sys2Proof.Machine
end


section
/-! PROOFS. What the holders of the temperature roles make of their lines (R33, R34, R142), the settling of a line and the storage duty
cycle (R99, R112, R122; O40). -/

namespace Sys2Proof.Machine

variable {p q : Part} {l : LineId}

/-! ### The holder of a line's role leaves the lines (R99, R125, R33, R142) -/

theorem Part.line_of_sli (h : q.sli = p.sli) (l : LineId) : q.line l = p.line l := by simp only [Part.line, h]

theorem Pages.role_of_lineWith {ps : Pages} {r : LineRole} (h : ps.lineWith r = some l) : ps.lineRole l = r := by
  simpa using List.find?_some h

/-- From `p` to `q` the record of Charge Control has become `c`, but for the pad; settings, banks, lines and Mode Control stand. -/
structure Part.Handed (p : Part) (c : Chg) (q : Part) : Prop where
  params : q.params = p.params
  bnk : q.bnk = p.bnk
  sli : q.sli = p.sli
  mdc : q.mdc = p.mdc
  chg : ∃ st retry, q.chg = { c with pad := st, padRetry := retry }

namespace Part.Handed

variable {c : Chg}

theorem battTemp (h : p.Handed c q) : q.chg.battTemp = c.battTemp := by
  obtain ⟨_, _, e⟩ := h.chg
  rw [e]

theorem ofBlocks (h : p.BlockWork q) : p.Handed p.chg q := ⟨h.params, h.bnk, h.sli, h.mdc, h.chg⟩

theorem finish (h : p.Handed c q) : p.Handed c q.finish := by
  obtain ⟨x, k, hx, e, _⟩ := q.finish_cases
  obtain ⟨_, _, hc⟩ := h.chg
  obtain ⟨_, _, hx'⟩ := hx.chg
  rw [e]
  exact ⟨hx.params.trans h.params, hx.bnk.trans h.bnk, hx.sli.trans h.sli, hx.mdc.trans h.mdc, _, _, by rw [hx', hc]⟩

end Part.Handed

/-- The record of Charge Control after the judgement of the cold inhibit (R34). -/
def Part.coldChg (p : Part) : Chg :=
  let new := coldRule p.params.chemistry p.chg.coldInhibit p.chg.battTemp p.params.chargeMinimum
  if new = p.chg.coldInhibit then p.chg
  else { p.chg with
    coldInhibit := new
    shoreEnable := p.mains && new.isNone && !p.chg.calHold
    solarEnable := new.isNone && !p.chg.calHold
    splitClosed := if new.isSome then false else p.chg.splitClosed ||
      p.dplus && p.chg.dplusCount == 50 && p.chg.highCount == 50 && new.isNone && !p.chg.calHold }

theorem Part.coldChg_fields (p : Part) : p.coldChg.battTemp = p.chg.battTemp ∧ p.coldChg.battTimer = p.chg.battTimer ∧
    p.coldChg.coldInhibit = coldRule p.params.chemistry p.chg.coldInhibit p.chg.battTemp p.params.chargeMinimum := by
  unfold Part.coldChg
  dsimp only
  split
  next h => exact ⟨rfl, rfl, h.symm⟩
  next => exact ⟨rfl, rfl, rfl⟩

theorem Part.inhibitJudge_cold (p : Part) : p.Rewired p.coldChg p.inhibitJudge := by
  unfold Part.inhibitJudge Part.coldChg
  dsimp only
  generalize coldRule p.params.chemistry p.chg.coldInhibit p.chg.battTemp p.params.chargeMinimum = new
  split
  next => exact p.rewired_self
  next =>
    have hpost := (p.rewired_chg { p.chg with coldInhibit := new }).postCharge (x := .coldInhibit) (by decide)
      (inhibitNoticeCause p.params.chemistry new)
    split
    next h =>
      have hoff := hpost.trans (Part.sourcesOff_rewired _ .cold)
      obtain ⟨_, _, e, _⟩ := hpost
      rw [e] at hoff ⊢
      exact hoff
    next h =>
      have hon := hpost.trans (Part.sourcesOn_rewired _ .cold)
      obtain ⟨_, _, e, _⟩ := hpost
      rw [e] at hon ⊢
      exact hon

/-- The battery temperature judged, with the inhibit and the pad (R33 to R35). -/
theorem Part.battTempJudge_handed (p : Part) :
    p.Handed (p.withTemp p.chg.battTimer (p.knownTemp .battTemp)).coldChg p.battTempJudge := by
  have h := (p.withTemp p.chg.battTimer (p.knownTemp .battTemp)).inhibitJudge_cold.work.work (Part.BlockWork.refl _).padJudge
  exact ⟨h.params, h.bnk, h.sli, h.mdc, h.chg⟩

/-- What follows from a change of a line's supply. -/
theorem Part.handSupply_handed (p : Part) (l : LineId) : ∃ c, p.Handed c (p.handSupply l) ∧
    (p.params.lineRole l = .battTemp → c.battTemp = p.knownTemp .battTemp) := by
  have hb := Part.BlockWork.refl p
  have hrest {q : Part} (h : p.BlockWork q) (hr : p.params.lineRole l ≠ .battTemp) : ∃ c, p.Handed c q ∧
      (p.params.lineRole l = .battTemp → c.battTemp = p.knownTemp .battTemp) := ⟨_, .ofBlocks h, fun e => absurd e hr⟩
  have htank (t : Tank) (b : Bool) : p.BlockWork (if b then p.holdTank t else p) := by
    split
    · exact hb.holdTank t
    · exact hb
  unfold Part.handSupply
  dsimp only
  split
  next e => exact hrest (htank _ _) (by rw [e]; decide)
  next e => exact hrest (htank _ _) (by rw [e]; decide)
  next e => exact hrest hb.cabinJudge (by rw [e]; decide)
  next e => exact hrest hb.bayJudge (by rw [e]; decide)
  next e => exact ⟨_, p.battTempJudge_handed, fun _ => (Part.coldChg_fields _).1⟩
  next e => exact hrest hb e

/-! ### The settling of a line (R99, R112) -/

/-- The temperature of a line that is not in FAULT: its value while its age is below the limit (R33, R142). -/
def LineRec.tempWithin (r : LineRec) (limit : Nat) : Option Int :=
  match r.value, r.age with
  | some (.temp x), some a => if a < limit then some x else none
  | _, _ => none

theorem Part.knownTemp_of_line {r : LineRole} (h : p.params.lineWith r = some l) (hs : (p.line l).supply ≠ .fault) :
    p.knownTemp r = (p.line l).tempWithin p.staleLimit := by
  unfold Part.knownTemp LineRec.tempWithin
  rw [h]
  dsimp only
  generalize p.line l = x at hs
  cases hv : x.value with
  | none => rfl
  | some v =>
    cases v with
    | temp t =>
      cases x.age with
      | none => rfl
      | some a => simp only [hs, ne_eq, not_false_eq_true, true_and]
    | level | rate => rfl

theorem LineRec.settled_fields (r : LineRec) (m : LineMode) :
    (r.settled m).supply = .on ∧ (r.settled m).value = r.value ∧ (r.settled m).age = r.age := by
  unfold LineRec.settled
  dsimp only
  split <;> exact ⟨rfl, rfl, rfl⟩

theorem Part.lineSettled_of_settling (h : (p.line l).supply = .settling) :
    p.lineSettled l = (p.setLine l ((p.line l).settled (p.params.lineMode l))).handSupply l := if_pos h

/-- A powered line's supply is not handed to a tank, nor to a role without a holder. -/
theorem Part.handSupply_of_on (h : (p.line l).supply = .on) (hr : p.params.lineRole l ∉ [.cabinTemp, .bayTemp, .battTemp]) :
    p.handSupply l = p := by
  unfold Part.handSupply
  rw [h]
  cases hp : p.params.lineRole l with
  | cabinTemp | bayTemp | battTemp => simp [hp] at hr
  | none | freshLevel | greyLevel | flow => rfl

/-- The temperature that a settled line shows. -/
theorem Part.knownTemp_settled {r : LineRole} (h : p.params.lineWith r = some l) :
    (p.setLine l ((p.line l).settled (p.params.lineMode l))).knownTemp r =
      (p.line l).tempWithin p.staleLimit := by
  obtain ⟨hs, hv, ha⟩ := (p.line l).settled_fields (p.params.lineMode l)
  rw [Part.knownTemp_of_line (p := p.setLine l _) h (by rw [Part.line_setLine, hs]; decide), Part.line_setLine,
    LineRec.tempWithin, LineRec.tempWithin, hv, ha]
  rfl

/-- The end of the settling time, with what the holder of the line's role makes of it. -/
theorem lineSettles (s : State) (l : LineId) (ho : s.part.outbox = []) :
    let p := s.part
    let r := (p.line l).settled (p.params.lineMode l)
    let known := (p.line l).tempWithin p.staleLimit
    ((p.line l).supply ≠ .settling → LeadsTo (.settlingExpiry l) s p) ∧
    ((p.line l).supply = .settling →
      (p.params.lineRole l ∉ [.cabinTemp, .bayTemp, .battTemp] → LeadsTo (.settlingExpiry l) s (p.setLine l r)) ∧
      ∃ t, exec (.settlingExpiry l) s = .next t ∧ t.pending = s.pending ∧ t.part.line l = r ∧
        (∀ l', l' ≠ l → t.part.line l' = p.line l') ∧ t.part.bnk = p.bnk ∧ t.part.params = p.params ∧
        (p.params.lineWith .cabinTemp = some l → t.part.clm.cabin = known) ∧
        (p.params.lineWith .bayTemp = some l → t.part.clm.bay = known) ∧
        (p.params.lineWith .battTemp = some l → t.part.chg.battTemp = known)) := by
  intro p r known
  refine ⟨fun h => leadsTo_of_event (f := (·.lineSettled l)) rfl (if_neg h) ho, fun h => ⟨fun hr => ?_, ?_⟩⟩
  · refine leadsTo_of_event (f := (·.lineSettled l)) (q := p.setLine l r) rfl ?_ ho
    refine (Part.lineSettled_of_settling h).trans (Part.handSupply_of_on ?_ hr)
    rw [Part.line_setLine]
    exact ((p.line l).settled_fields _).1
  · obtain ⟨c, hc, hbatt⟩ := (p.setLine l r).handSupply_handed l
    have hend := hc.finish
    have hexec : exec (.settlingExpiry l) s = .next ⟨((p.setLine l r).handSupply l).finish, s.pending⟩ :=
      congrArg (fun q : Part => (.next ⟨q.finish, s.pending⟩ : Result)) (Part.lineSettled_of_settling h)
    have hhand (x : LineRole) (hx : p.params.lineWith x = some l) : (p.setLine l r).params.lineRole l = x :=
      Pages.role_of_lineWith hx
    refine ⟨_, hexec, rfl, ?_, fun l' hne => ?_, hend.bnk, hend.params, fun hx => ?_, fun hx => ?_, fun hx => ?_⟩
    · exact (Part.line_of_sli hend.sli l).trans (Part.line_setLine ..)
    · exact (Part.line_of_sli hend.sli l').trans (Part.line_setLine_of_ne _ _ hne)
    · have hcabin : (p.setLine l r).handSupply l = (p.setLine l r).cabinJudge := by
        unfold Part.handSupply
        rw [hhand _ hx]
      obtain ⟨_, _, e⟩ := Part.finish_eq_of_empty (p := (p.setLine l r).cabinJudge) ho
      dsimp only
      rw [hcabin, e]
      exact Part.knownTemp_settled hx
    · have hbay : (p.setLine l r).handSupply l = (p.setLine l r).bayJudge := by
        unfold Part.handSupply
        rw [hhand _ hx]
      dsimp only
      rw [hbay]
      exact (Part.bayJudge_finish_bay (p := p.setLine l r) ho).trans (Part.knownTemp_settled hx)
    · exact (hend.battTemp.trans (hbatt (hhand _ hx))).trans (Part.knownTemp_settled hx)

/-! ### The storage duty cycle (R122) -/

theorem Part.isDuty_congr (hp : q.params = p.params) (he : (q.line l).enabled = (p.line l).enabled) :
    q.isDuty l = p.isDuty l := by simp only [Part.isDuty, hp, he]

/-- What the duty cycle's steps leave of the settings and of its own timers. -/
structure Part.DutyWork (p q : Part) : Prop where
  params : q.params = p.params
  window : q.sli.windowTimer = p.sli.windowTimer
  duty : q.sli.dutyTimer = p.sli.dutyTimer

/-- A line's record written and handed over. -/
theorem Part.handed_setLine (p : Part) (l : LineId) (r : LineRec) : p.DutyWork ((p.setLine l r).handSupply l) ∧
    ((p.setLine l r).handSupply l).line l = r ∧ ∀ l', l' ≠ l → ((p.setLine l r).handSupply l).line l' = p.line l' := by
  obtain ⟨_, h, _⟩ := (p.setLine l r).handSupply_handed l
  refine ⟨⟨h.params, by rw [h.sli]; rfl, by rw [h.sli]; rfl⟩, ?_, fun l' hne => ?_⟩
  · exact (Part.line_of_sli h.sli l).trans (Part.line_setLine ..)
  · exact (Part.line_of_sli h.sli l').trans (Part.line_setLine_of_ne _ _ hne)

/-- An event of the duty cycle at one line: where the condition on the line holds, its record becomes `g` of it. -/
def Part.dutyStep (c : Bool → LineRec → Prop) [∀ b r, Decidable (c b r)] (g : LineRec → LineRec) (p : Part) (l : LineId) : Part :=
  if c (p.isDuty l) (p.line l) then (p.setLine l (g (p.line l))).handSupply l else p

/-- The event at every line, one after the other, judges each line as it stood at first. -/
theorem Part.dutySteps (c : Bool → LineRec → Prop) [∀ b r, Decidable (c b r)] (g : LineRec → LineRec) (p : Part) :
    p.DutyWork ((List.finRange 6).foldl (Part.dutyStep c g) p) ∧ ∀ l, ((List.finRange 6).foldl (Part.dutyStep c g) p).line l =
      if c (p.isDuty l) (p.line l) then g (p.line l) else p.line l := by
  have step (q : Part) (l : LineId) (hq : p.DutyWork q) : p.DutyWork (q.dutyStep c g l) ∧
      (q.dutyStep c g l).line l = (if c ((p.setLine l (q.line l)).isDuty l) (q.line l) then g (q.line l) else q.line l) ∧
      ∀ l', l' ≠ l → (q.dutyStep c g l).line l' = q.line l' := by
    have hd : (p.setLine l (q.line l)).isDuty l = q.isDuty l :=
      Part.isDuty_congr hq.params.symm (by rw [Part.line_setLine])
    obtain ⟨hw, hl, hn⟩ := q.handed_setLine l (g (q.line l))
    rw [hd, Part.dutyStep]
    split
    · exact ⟨⟨hw.params.trans hq.params, hw.window.trans hq.window, hw.duty.trans hq.duty⟩, hl, hn⟩
    · exact ⟨hq, rfl, fun _ _ => rfl⟩
  obtain ⟨hw, hl⟩ := foldl_all_lines (I := p.DutyWork) (f := Part.dutyStep c g)
    (g := fun l r => if c ((p.setLine l r).isDuty l) r then g r else r)
    (fun q l hq => (step q l hq).1) (fun q l hq => (step q l hq).2.1) (fun q l l' hq => (step q l hq).2.2 l')
    (p := p) ⟨rfl, rfl, rfl⟩
  refine ⟨hw, fun l => ?_⟩
  rw [hl l, Part.isDuty_congr (q := p.setLine l (p.line l)) (p := p) rfl (by rw [Part.line_setLine])]

theorem Part.windowExpired_eq (h : p.sli.windowTimer.isSome = true) : p.windowExpired =
    (List.finRange 6).foldl (Part.dutyStep (fun duty r => duty = true ∧ r.powered = true) (·.unpowered .off))
      { p with sli := { p.sli with windowTimer := none } } := if_pos h

theorem Part.dutyExpired_eq (h : p.sli.dutyTimer.isSome = true) : p.dutyExpired =
    (List.finRange 6).foldl (Part.dutyStep (fun duty r => duty = true ∧ r.supply = .off) LineRec.settling) p.loadDuty := if_pos h

theorem Part.finish_sli (p : Part) : p.finish.sli = p.sli := (Part.Handed.ofBlocks (.refl p)).finish.sli

theorem storageWindowCloses {s : State} (h : s.part.sli.windowTimer.isSome = true) :
    ∃ t, exec .storageWindowExpiry s = .next t ∧ t.pending = s.pending ∧ t.part.sli.windowTimer = none ∧
      t.part.sli.dutyTimer = s.part.sli.dutyTimer ∧ ∀ l, t.part.line l =
        if s.part.isDuty l = true ∧ (s.part.line l).powered = true then (s.part.line l).unpowered .off else s.part.line l := by
  obtain ⟨hw, hl⟩ := Part.dutySteps (fun duty r => duty = true ∧ r.powered = true) (·.unpowered .off)
    { s.part with sli := { s.part.sli with windowTimer := none } }
  rw [← Part.windowExpired_eq h] at hw hl
  have hsli := s.part.windowExpired.finish_sli
  refine ⟨_, rfl, rfl, ?_, ?_, fun l => ?_⟩
  · exact (congrArg Sli.windowTimer hsli).trans hw.window
  · exact (congrArg Sli.dutyTimer hsli).trans hw.duty
  · exact (Part.line_of_sli hsli l).trans (hl l)

theorem storageWindowOpens {s : State} (h : s.part.sli.dutyTimer.isSome = true) :
    ∃ t, exec .storageDutyExpiry s = .next t ∧ t.pending = s.pending ∧ t.part.sli.windowTimer = some 500 ∧
      t.part.sli.dutyTimer = some s.part.params.dutyMs ∧ ∀ l, t.part.line l =
        if s.part.isDuty l = true ∧ (s.part.line l).supply = .off then (s.part.line l).settling else s.part.line l := by
  obtain ⟨hw, hl⟩ := Part.dutySteps (fun duty r => duty = true ∧ r.supply = .off) LineRec.settling s.part.loadDuty
  rw [← Part.dutyExpired_eq h] at hw hl
  have hsli := s.part.dutyExpired.finish_sli
  refine ⟨_, rfl, rfl, ?_, ?_, fun l => ?_⟩
  · exact (congrArg Sli.windowTimer hsli).trans hw.window
  · exact (congrArg Sli.dutyTimer hsli).trans hw.duty
  · exact (Part.line_of_sli hsli l).trans (hl l)

/-- Settles O40: the end of a line's settling, and the two ends of the storage duty cycle over all lines. -/
theorem linesSettleAndFollowTheDutyCycle : Obligations.LinesSettleAndFollowTheDutyCycle := by
  refine ⟨fun s l ho => lineSettles s l ho, fun s _ => ?_⟩
  intro p powered
  have henabled {l : LineId} (hd : p.isDuty l = true) : (p.line l).enabled = true := by
    simp only [Part.isDuty, Bool.and_eq_true] at hd
    exact hd.1
  refine ⟨fun h => ?_, fun h => ?_⟩
  · obtain ⟨t, he, hpend, hw, hd, hl⟩ := storageWindowCloses h
    refine ⟨t, he, hpend, hw, hd, fun l => ⟨fun ⟨hduty, hpow⟩ => ?_, fun hnot => ?_⟩⟩
    · rw [hl l, if_pos ⟨hduty, (LineRec.powered_iff _).2 hpow⟩]
      exact ⟨rfl, rfl, henabled hduty, rfl, rfl⟩
    · refine (hl l).trans (if_neg fun ⟨hduty, hpow⟩ => ?_)
      rcases hnot with hn | hn
      · exact absurd (hn.symm.trans hduty) (by decide)
      · exact hn ((LineRec.powered_iff _).1 hpow)
  · obtain ⟨t, he, hpend, hw, hd, hl⟩ := storageWindowOpens h
    refine ⟨t, he, hpend, hw, hd, fun l => ⟨fun hopen => ?_, fun hnot => ?_⟩⟩
    · rw [hl l, if_pos hopen]
      rfl
    · refine (hl l).trans (if_neg fun ⟨hduty, hoff⟩ => ?_)
      rcases hnot with hn | hn
      · exact absurd (hn.symm.trans hduty) (by decide)
      · exact hn hoff

end Sys2Proof.Machine
end


section
/-! PROOFS. The judgement of the guard that makes no transition or one (R148 to R150), and the events of a line whose role has a holder:
a completed width, a short to ground, NODATA (R109, R111, R116). -/

namespace Sys2Proof.Machine

variable {p : Part} {l : LineId}

/-! ### The judgement of the guard (R148 to R150) -/

theorem Part.guardJudge_of_still (h : p.guardStep = none) : p.guardJudge = p := by
  unfold Part.guardJudge Part.guardSettle
  dsimp only
  split
  · rfl
  · rw [Part.guardLoop, h]
    rfl

/-- A guard that is OFF or DUMPED, or SAFE in the warm, stands. -/
theorem Part.guardStep_of_resting (h : p.clm.guard = .off ∨ p.clm.guard = .dumped ∨
    p.clm.guard = .safe ∧ ∃ t, p.clm.bay = some t ∧ p.params.warnThreshold ≤ t) : p.guardStep = none := by
  unfold Part.guardStep
  rcases h with e | e | ⟨e, t, ht, hw⟩
  · rw [e]
  · rw [e]
  · rw [e, ht]
    exact if_neg (Int.not_lt.2 hw)

/-- One transition, after which none holds. -/
theorem Part.guardJudge_of_one (hm : p.mdc.mode ≠ .start) {g : GuardState} {c : FrostCause} (h : p.guardStep = some (g, c))
    (hn : (p.guardEnter g).guardStep = none) : p.guardJudge = (p.guardEnter g).postFrost p.clm.guard c := by
  have hloop : p.guardLoop 4 none = (p.guardEnter g, some c) := by
    rw [Part.guardLoop, h]
    dsimp only
    rw [Part.guardLoop, hn]
  unfold Part.guardJudge Part.guardSettle
  rw [if_neg hm, hloop]
  rfl

theorem Clm.fields_of_judged {c d : Clm} (h : c.judged = d.judged) : c.guard = d.guard ∧ c.bay = d.bay ∧ c.hold = d.hold ∧
    c.heatWanted = d.heatWanted ∧ c.riskTimer = d.riskTimer ∧ c.unknownTimer = d.unknownTimer ∧ c.call = d.call := by
  simp only [Clm.judged, Clm.mk.injEq] at h
  simp only [h, and_self]

/-- RISK with its timer and its heat (R150). -/
theorem Part.guardEnter_risk (hm : p.mdc.mode ≠ .start) : (p.guardEnter .risk).clm.judged = { p.clm with
    guard := .risk, hold := false, riskTimer := some p.params.riskMs, heatWanted := true }.judged := by
  have hprom := Part.promoteHeater_judged
    { p with clm := { p.clm with guard := .risk, hold := false, riskTimer := some p.params.riskMs } }
  have hwork := (Part.BlockWork.refl
    { p with clm := { p.clm with guard := .risk, hold := false, riskTimer := some p.params.riskMs } }).promoteHeater
  unfold Part.guardEnter
  dsimp only
  generalize ({ p with clm := { p.clm with guard := .risk, hold := false, riskTimer := some p.params.riskMs } } : Part).promoteHeater
    = q at hprom hwork
  have hmode : q.mdc.mode ≠ .start := by
    rw [hwork.mdc]
    exact hm
  have hguard : q.clm.guard = .risk := (Clm.fields_of_judged hprom).1
  have hwants : q.wantsHeat = true := by simp [Part.wantsHeat, hguard]
  rw [Part.heaterJudge_judged hmode, hwants]
  have hset := congrArg (fun c : Clm => { c with heatWanted := true }) hprom
  exact hset

/-- WATCH from another state than RISK. -/
theorem Part.guardEnter_watch (hm : p.mdc.mode ≠ .start) (hg : p.clm.guard ≠ .risk) : ∃ hold heat,
    (p.guardEnter .watch).clm.judged = { p.clm with guard := .watch, hold := hold, heatWanted := heat }.judged := by
  unfold Part.guardEnter
  dsimp only
  rw [if_neg hg]
  exact ⟨_, _, Part.heaterJudge_judged (p := p.enterWatch) hm⟩

/-- The part after a judgement of the guard, to the end of the event. -/
theorem Part.guardJudge_finish (h : p.outbox = []) : p.guardJudge.finish.clm.judged = p.guardJudge.clm.judged :=
  Part.finish_judged (Part.tame_of_empty h).guardJudge

/-- A bay in the cold below the dump threshold takes WATCH to RISK. -/
theorem Part.guardJudge_to_risk (hm : p.mdc.mode ≠ .start) (hg : p.clm.guard = .watch) {t : Int} (ht : p.clm.bay = some t)
    (hd : t < p.params.dumpThreshold) (hw : p.params.dumpThreshold ≤ p.params.warnThreshold) :
    p.guardJudge.clm.judged = { p.clm with
      guard := .risk, hold := false, riskTimer := some p.params.riskMs, heatWanted := true }.judged := by
  have henter := Part.guardEnter_risk hm
  have hparams : (p.guardEnter .risk).params = p.params := ((Part.BlockWork.refl p).guardEnter .risk).params
  have hstep : p.guardStep = some (.risk, .cold) := by
    unfold Part.guardStep
    rw [hg, ht]
    dsimp only
    rw [if_neg (by omega), if_pos hd]
  have hnext : (p.guardEnter .risk).guardStep = none := by
    obtain ⟨kg, kb, _⟩ := Clm.fields_of_judged henter
    unfold Part.guardStep
    rw [kg, kb, ht, hparams]
    exact if_neg (by omega)
  rw [Part.guardJudge_of_one hm hstep hnext, Part.postFrost, Part.post_clm, henter]

/-- An unknown bay takes SAFE to WATCH. -/
theorem Part.guardJudge_to_watch (hm : p.mdc.mode ≠ .start) (hg : p.clm.guard = .safe) (ht : p.clm.bay = none)
    (hu : p.clm.unknownTimer < 60000) : p.guardJudge.clm.guard = .watch := by
  obtain ⟨_, _, henter⟩ := Part.guardEnter_watch hm (by rw [hg]; decide)
  obtain ⟨kg, kb, _, _, _, ku, _⟩ := Clm.fields_of_judged henter
  have hstep : p.guardStep = some (.watch, .unknown) := by
    unfold Part.guardStep
    rw [hg, ht]
  have hnext : (p.guardEnter .watch).guardStep = none := by
    unfold Part.guardStep
    rw [kg, kb, ht]
    refine if_neg ?_
    rw [ku]
    exact Nat.not_le.2 hu
  rw [Part.guardJudge_of_one hm hstep hnext, Part.postFrost, Part.post_clm, kg]

/-! ### The events of a line -/

/-- From `p` to `q` only records of the lines and the link have changed. -/
def Part.Lined (p q : Part) : Prop := ∃ sli k, q = { p with sli := sli, lnk := k }

theorem Part.lined_setLine (p : Part) (l : LineId) (r : LineRec) : p.Lined (p.setLine l r) := ⟨_, p.lnk, rfl⟩

theorem Part.Lined.latchLine {q : Part} (h : p.Lined q) (l : LineId) (c : LineCause) : p.Lined (q.latchLine l c) := by
  obtain ⟨_, _, rfl⟩ := h
  obtain ⟨k, e⟩ := Part.latchLine_only_link _ l c
  rw [e]
  exact ⟨_, k, rfl⟩

/-- The part with a width that a fall to BASE has completed, not yet handed to the role's holder. -/
def Part.widthEnded (p : Part) (l : LineId) (date mean start : Nat) : Part :=
  (p.setLine l ((p.line l).landed p.params l mean)).withWidth l (min 511 ((date - start) / 5))

/-- The temperature of a completed width (R111). -/
def widthTemp (date start : Nat) : Int := (widthKept (min 511 ((date - start) / 5)) : Int) - 160

/-- The part with a line shorted to ground, not yet handed to the role's holder. -/
def Part.shortedAt (p : Part) (l : LineId) (current : Nat) : Part :=
  (p.setLine l (((p.line l).observed current current).unpowered .fault)).latchLine l .shortGnd

theorem Part.widthEnded_lined (p : Part) (l : LineId) (date mean start : Nat) : p.Lined (p.widthEnded l date mean start) := by
  unfold Part.widthEnded Part.withWidth
  rw [Part.setLine_setLine]
  dsimp only
  split
  · exact p.lined_setLine l _
  · exact (p.lined_setLine l _).latchLine l _

theorem Part.shortedAt_lined (p : Part) (l : LineId) (current : Nat) : p.Lined (p.shortedAt l current) :=
  (p.lined_setLine l _).latchLine l _

theorem Part.crossing_hands_width (h : (p.line l).supply = .on) (hl : (p.line l).level = .tier1) {start : Nat}
    (hw : (p.line l).widthStart = some start) (date mean : Nat) :
    p.crossing l .fallingT1 date mean = (p.widthEnded l date mean start).handValue l (.temp (widthTemp date start)) := by
  rw [Part.crossing_ends_width h hw (.inl hl), Part.widthMeasured_eq]
  rfl

theorem Part.shortToGround_hands (h : (p.line l).powered = true) {current : Nat} (hc : 600 < current) :
    p.shortToGround l current = (p.shortedAt l current).handSupply l := by
  rw [Part.shortToGround_of_short h hc, Part.supplyFault_setLine]
  · rfl
  · rw [LineRec.observed_of_short hc]
    exact h

theorem Part.nodataAt_hands (he : (p.line l).enabled = true) (hm : p.params.lineMode l ≠ .pulse) (hs : p.mdc.mode ≠ .storage)
    (hn : (p.line l).nodata = false) : p.nodataAt l = (p.setLine l (p.line l).silenced).handNodata l := by
  rw [Part.nodataAt_of_enabled he hm hs, if_neg (by simp [hn])]

/-! ### The temperatures that such events leave (R33, R142) -/

theorem Part.staleLimit_of_not_storage (h : p.mdc.mode ≠ .storage) : p.staleLimit = 10000 := if_neg h

theorem Part.knownTemp_of_fault {r : LineRole} (h : p.params.lineWith r = some l) (hs : (p.line l).supply = .fault) :
    p.knownTemp r = none := by
  unfold Part.knownTemp
  rw [h]
  dsimp only
  split
  · exact if_neg fun ⟨hn, _⟩ => hn hs
  · rfl

theorem Part.knownTemp_of_aged {r : LineRole} (h : p.params.lineWith r = some l)
    (hs : ∀ a, (p.line l).age = some a → p.staleLimit ≤ a) : p.knownTemp r = none := by
  unfold Part.knownTemp
  rw [h]
  dsimp only
  split
  next a _ ha => exact if_neg fun ⟨_, hl⟩ => Nat.not_lt.2 (hs a ha) hl
  next => rfl

end Sys2Proof.Machine
end


section
/-! PROOFS. What a datum, a fault and a silence of a line publish to the holder of its role: tanks, FLOW, cabin, bay and battery
temperature (O46). -/

namespace Sys2Proof.Machine

variable {p q : Part} {l : LineId}

/-! ### What the events of a line leave -/

namespace Part.Lined

theorem params (h : p.Lined q) : q.params = p.params := by obtain ⟨_, _, rfl⟩ := h; rfl

theorem bnk (h : p.Lined q) : q.bnk = p.bnk := by obtain ⟨_, _, rfl⟩ := h; rfl

theorem chg (h : p.Lined q) : q.chg = p.chg := by obtain ⟨_, _, rfl⟩ := h; rfl

theorem wat (h : p.Lined q) : q.wat = p.wat := by obtain ⟨_, _, rfl⟩ := h; rfl

theorem clm (h : p.Lined q) : q.clm = p.clm := by obtain ⟨_, _, rfl⟩ := h; rfl

theorem mdc (h : p.Lined q) : q.mdc = p.mdc := by obtain ⟨_, _, rfl⟩ := h; rfl

theorem outbox (h : p.Lined q) : q.outbox = p.outbox := by obtain ⟨_, _, rfl⟩ := h; rfl

end Part.Lined

theorem LineRec.landed_supply (r : LineRec) (ps : Pages) (l : LineId) (mean : Nat) : (r.landed ps l mean).supply = r.supply := by
  unfold LineRec.landed
  dsimp only
  split
  · exact LineRec.learnA1_supply ..
  · rfl

theorem Part.withWidth_line (p : Part) (l : LineId) (count : Nat) : ((p.withWidth l count).line l).supply = (p.line l).supply ∧
    ((p.withWidth l count).line l).value = some (.temp ((widthKept count : Int) - 160)) ∧
    ((p.withWidth l count).line l).age = some 0 := by
  unfold Part.withWidth
  dsimp only
  split
  · rw [Part.line_setLine]
    exact ⟨rfl, rfl, rfl⟩
  · rw [Part.line_latchLine, Part.line_setLine]
    exact ⟨rfl, rfl, rfl⟩

/-- A width just completed is a known temperature. -/
theorem Part.widthEnded_known (h : (p.line l).supply = .on) (hs : p.mdc.mode ≠ .storage) {r : LineRole}
    (hw : p.params.lineWith r = some l) (date mean start : Nat) :
    (p.widthEnded l date mean start).knownTemp r = some (widthTemp date start) := by
  have hq := p.widthEnded_lined l date mean start
  obtain ⟨hon, hv, ha⟩ := (p.setLine l ((p.line l).landed p.params l mean)).withWidth_line l (min 511 ((date - start) / 5))
  rw [Part.line_setLine, LineRec.landed_supply, h] at hon
  have hlim : (p.widthEnded l date mean start).staleLimit = 10000 := Part.staleLimit_of_not_storage (by rw [hq.mdc]; exact hs)
  rw [Part.knownTemp_of_line (by rw [hq.params]; exact hw) (by rw [Part.widthEnded, hon]; decide), hlim, Part.widthEnded,
    LineRec.tempWithin, hv, ha]
  rfl

theorem Part.shortedAt_supply (p : Part) (l : LineId) (current : Nat) : ((p.shortedAt l current).line l).supply = .fault := by
  rw [Part.shortedAt, Part.line_latchLine, Part.line_setLine]
  rfl

/-- A line in FAULT has no known temperature. -/
theorem Part.shortedAt_unknown {r : LineRole} (hw : p.params.lineWith r = some l) (current : Nat) :
    (p.shortedAt l current).knownTemp r = none := by
  refine Part.knownTemp_of_fault ?_ (p.shortedAt_supply l current)
  rw [(p.shortedAt_lined l current).params]
  exact hw

theorem Part.silenced_unknown (hs : p.mdc.mode ≠ .storage) {r : LineRole} (hw : p.params.lineWith r = some l)
    (ha : ∀ a, (p.line l).age = some a → 10000 ≤ a) : (p.setLine l (p.line l).silenced).knownTemp r = none := by
  refine Part.knownTemp_of_aged (p := p.setLine l (p.line l).silenced) hw fun a h => ?_
  rw [Part.line_setLine] at h
  rw [Part.staleLimit_of_not_storage (p := p.setLine l (p.line l).silenced) hs]
  exact ha a h

/-! ### The events, to the holder of the role -/

section

variable {s : State} {date mean start current : Nat}

/-- The line has a width under way in TIER1. -/
structure LineRec.Measuring (r : LineRec) (start : Nat) : Prop where
  on : r.supply = .on
  tier1 : r.level = .tier1
  started : r.widthStart = some start

/-- NODATA of the line is to be newly set. -/
structure Part.FallsSilent (p : Part) (l : LineId) : Prop where
  enabled : (p.line l).enabled = true
  mode : p.params.lineMode l ≠ .pulse
  fresh : (p.line l).nodata = false
  awake : p.mdc.mode ≠ .storage

theorem lineWidth_exec (h : (s.part.line l).Measuring start) : exec (.crossingRecognized l .fallingT1 date mean) s =
    .next ⟨((s.part.widthEnded l date mean start).handValue l (.temp (widthTemp date start))).finish, s.pending⟩ :=
  congrArg (fun q : Part => (.next ⟨q.finish, s.pending⟩ : Result)) (Part.crossing_hands_width h.on h.tier1 h.started date mean)

theorem lineWidth_leads (h : (s.part.line l).Measuring start) (ho : q.outbox = [])
    (hq : (s.part.widthEnded l date mean start).handValue l (.temp (widthTemp date start)) = q) :
    LeadsTo (.crossingRecognized l .fallingT1 date mean) s q :=
  leadsTo_of_event (f := (·.crossing l .fallingT1 date mean)) rfl
    ((Part.crossing_hands_width h.on h.tier1 h.started date mean).trans hq) ho

theorem lineShort_exec (h : (s.part.line l).powered = true) (hc : 600 < current) : exec (.lineShortGnd l current) s =
    .next ⟨((s.part.shortedAt l current).handSupply l).finish, s.pending⟩ :=
  congrArg (fun q : Part => (.next ⟨q.finish, s.pending⟩ : Result)) (Part.shortToGround_hands h hc)

theorem lineShort_leads (h : (s.part.line l).powered = true) (hc : 600 < current) (ho : q.outbox = [])
    (hq : (s.part.shortedAt l current).handSupply l = q) : LeadsTo (.lineShortGnd l current) s q :=
  leadsTo_of_event (f := (·.shortToGround l current)) rfl ((Part.shortToGround_hands h hc).trans hq) ho

theorem lineSilence_leads (h : s.part.FallsSilent l) (ho : q.outbox = [])
    (hq : (s.part.setLine l (s.part.line l).silenced).handNodata l = q) : LeadsTo (.nodataReached l) s q :=
  leadsTo_of_event (f := (·.nodataAt l)) rfl ((Part.nodataAt_hands h.enabled h.mode h.awake h.fresh).trans hq) ho

end

/-! ### The tanks (R125) -/

/-- The role of the line of a tank's sender. -/
def Tank.lineRole (t : Tank) : LineRole := match t with | .fresh => .freshLevel | .grey => .greyLevel

theorem Part.handSupply_of_dark {t : Tank} (h : p.params.lineRole l = t.lineRole) (hs : (p.line l).supply = .fault) :
    p.handSupply l = p.holdTank t := by
  unfold Part.handSupply
  rw [h, hs]
  cases t <;> rfl

theorem Part.handNodata_of_tank {t : Tank} (h : p.params.lineRole l = t.lineRole) (hs : (p.line l).nodata = true) :
    p.handNodata l = p.holdTank t := by
  unfold Part.handNodata
  rw [h, hs]
  cases t <;> rfl

theorem tank_holds {s : State} {current : Nat} {t : Tank} (ho : s.part.outbox = []) (hr : s.part.params.lineRole l = t.lineRole) :
    ((s.part.line l).powered = true → 600 < current →
      LeadsTo (.lineShortGnd l current) s ((s.part.shortedAt l current).setTank t (s.part.tank t).held)) ∧
    (s.part.FallsSilent l →
      LeadsTo (.nodataReached l) s ((s.part.setLine l (s.part.line l).silenced).setTank t (s.part.tank t).held)) := by
  have hset (q : Part) (r : TankRec) (hq : q.outbox = []) : (q.setTank t r).outbox = [] := by cases t <;> exact hq
  have hshort := s.part.shortedAt_lined l current
  have hsilent := s.part.lined_setLine l (s.part.line l).silenced
  refine ⟨fun hp hc => lineShort_leads hp hc (hset _ _ (hshort.outbox.trans ho)) ?_, fun h => lineSilence_leads h (hset _ _ ho) ?_⟩
  · rw [Part.handSupply_of_dark (by rw [hshort.params]; exact hr) (s.part.shortedAt_supply l current), Part.holdTank_eq,
      Part.tank_of_wat hshort.wat]
  · rw [Part.handNodata_of_tank (p := s.part.setLine l (s.part.line l).silenced) hr (by rw [Part.line_setLine]; rfl),
      Part.holdTank_eq, Part.tank_of_wat hsilent.wat]

/-! ### FLOW (R132) -/

theorem flow_follows {s : State} {date mean : Nat} (ho : s.part.outbox = []) (hr : s.part.params.lineRole l = .flow)
    (hm : s.part.params.lineMode l = .pulse) :
    ((s.part.line l).supply = .on → (s.part.line l).level = .base →
      LeadsTo (.crossingRecognized l .risingT1 date mean) s (s.part.setLine l (s.part.line l).pulsed).flowPulse) ∧
    ((s.part.line l).rateTimer.isSome = true → LeadsTo (.rateCountdownExpiry l) s
      ((s.part.setLine l (s.part.line l).rated).flowRate (s.part.line l).secondCount)) ∧
    ((s.part.line l).supply = .on → LeadsTo (.standstillReached l) s (s.part.setLine l { s.part.line l with
      standstill := true, standstillTimer := max (s.part.line l).standstillTimer s.part.params.standstillMs })) := by
  refine ⟨fun h hl => ?_, fun ht => ?_, fun h => ?_⟩
  · refine leadsTo_of_event (f := (·.crossing l .risingT1 date mean)) rfl ?_ ho
    rw [Part.crossing_base_risingT1 h date mean hl, Part.enterTier1_of_pulse hm, if_pos hr]
  · refine leadsTo_of_event (f := (·.rateExpired l)) rfl ((Part.rateExpired_of_some ht).trans ?_) ho
    have hr' : (s.part.setLine l (s.part.line l).rated).params.lineRole l = .flow := hr
    simp only [Part.handValue, hr']
  · exact leadsTo_of_event (f := (·.standstillAt l)) rfl (Part.standstillAt_of_on hm h) ho

/-! ### CABIN_TEMP (R142) -/

theorem cabin_follows {s : State} {date mean current : Nat} (ho : s.part.outbox = []) (hm : s.part.mdc.mode ≠ .storage)
    (hw : s.part.params.lineWith .cabinTemp = some l) :
    (∀ start, (s.part.line l).Measuring start → LeadsTo (.crossingRecognized l .fallingT1 date mean) s
      { s.part.widthEnded l date mean start with
        clm := { s.part.clm with cabin := some (widthTemp date start), cabinTimer := some 10000 } }) ∧
    ((s.part.line l).powered = true → 600 < current → LeadsTo (.lineShortGnd l current) s
      { s.part.shortedAt l current with clm := { s.part.clm with cabin := none } }) ∧
    (s.part.FallsSilent l → (∀ a, (s.part.line l).age = some a → 10000 ≤ a) → LeadsTo (.nodataReached l) s
      { s.part.setLine l (s.part.line l).silenced with clm := { s.part.clm with cabin := none } }) := by
  have hrole {q : Part} (hq : s.part.Lined q) : q.params.lineRole l = .cabinTemp := by
    rw [hq.params]
    exact Pages.role_of_lineWith hw
  refine ⟨fun start h => ?_, fun hp hc => ?_, fun h ha => ?_⟩
  · have hq := s.part.widthEnded_lined l date mean start
    refine lineWidth_leads h (hq.outbox.trans ho) ?_
    have hk := Part.widthEnded_known h.on hm hw date mean start
    have hlim : (s.part.widthEnded l date mean start).staleLimit = 10000 :=
      Part.staleLimit_of_not_storage (by rw [hq.mdc]; exact hm)
    have hand : (s.part.widthEnded l date mean start).handValue l (.temp (widthTemp date start)) =
        (s.part.widthEnded l date mean start).cabinValue := by simp only [Part.handValue, hrole hq]
    rw [hand, ← hq.clm, ← hk, ← hlim]
    rfl
  · have hq := s.part.shortedAt_lined l current
    refine lineShort_leads hp hc (hq.outbox.trans ho) ?_
    rw [← hq.clm, ← Part.shortedAt_unknown hw current]
    simp only [Part.handSupply, hrole hq]
    rfl
  · refine lineSilence_leads h ho ?_
    rw [← Part.silenced_unknown hm hw ha]
    simp only [Part.handNodata, hrole (s.part.lined_setLine l _)]
    rfl

/-! ### BAY_TEMP and the guard (R142, R148 to R150) -/

/-- The part after a valid bay temperature, before the guard judges it. -/
def Part.bayKnown (p q : Part) (t : Int) : Part :=
  { q with clm := { p.clm with bay := some t, bayTimer := some 10000, unknownTimer := 0 } }

/-- The part after an unknown bay temperature, before the guard judges it. -/
def Part.bayUnknown (p q : Part) : Part := { q with clm := { p.clm with bay := none } }

theorem Part.bayValue_eq (hq : p.Lined q) (hs : p.mdc.mode ≠ .storage) {t : Int} (hk : q.knownTemp .bayTemp = some t) :
    q.bayValue = (p.bayKnown q t).guardJudge := by
  have hlim : q.staleLimit = 10000 := Part.staleLimit_of_not_storage (by rw [hq.mdc]; exact hs)
  have hform : ({ q with clm := { q.clm with bayTimer := some q.staleLimit } } : Part).formBay = p.bayKnown q t := by
    have hk' : ({ q with clm := { q.clm with bayTimer := some q.staleLimit } } : Part).knownTemp .bayTemp = some t := hk
    rw [Part.formBay, hk', hlim, Part.bayKnown, ← hq.clm]
    rfl
  rw [Part.bayValue, Part.bayJudge, hform]

theorem Part.bayJudge_of_unknown (hq : p.Lined q) (hk : q.knownTemp .bayTemp = none) :
    q.bayJudge = (p.bayUnknown q).guardJudge := by
  rw [Part.bayJudge, Part.formBay, hk, Part.bayUnknown, ← hq.clm]
  rfl

theorem bay_follows_width {s : State} {date mean start : Nat} (ho : s.part.outbox = []) (hm : s.part.mdc.mode ≠ .storage)
    (hw : s.part.params.lineWith .bayTemp = some l) (h : (s.part.line l).Measuring start) :
    let p := s.part
    let v := widthTemp date start
    (p.clm.guard = .off ∨ p.clm.guard = .dumped ∨ p.clm.guard = .safe ∧ p.params.warnThreshold ≤ v →
      LeadsTo (.crossingRecognized l .fallingT1 date mean) s (p.bayKnown (p.widthEnded l date mean start) v)) ∧
    (p.mdc.mode ≠ .start → p.clm.guard = .watch → v < p.params.dumpThreshold →
      p.params.dumpThreshold ≤ p.params.warnThreshold →
      ∃ t, exec (.crossingRecognized l .fallingT1 date mean) s = .next t ∧ t.pending = s.pending ∧ t.part.clm.guard = .risk ∧
        t.part.clm.hold = false ∧ t.part.clm.riskTimer = some p.params.riskMs ∧ t.part.clm.heatWanted = true ∧
        t.part.clm.bay = some v ∧ t.part.params = p.params ∧ t.part.bnk = p.bnk ∧ t.part.mdc = p.mdc) := by
  intro p v
  have hq := p.widthEnded_lined l date mean start
  have hand : (p.widthEnded l date mean start).handValue l (.temp v) =
      (p.bayKnown (p.widthEnded l date mean start) v).guardJudge := by
    have hrole : (p.widthEnded l date mean start).params.lineRole l = .bayTemp := by
      rw [hq.params]
      exact Pages.role_of_lineWith hw
    rw [← Part.bayValue_eq hq hm (Part.widthEnded_known h.on hm hw date mean start)]
    simp only [Part.handValue, hrole]
  refine ⟨fun hg => lineWidth_leads h (hq.outbox.trans ho) (hand.trans (Part.guardJudge_of_still
    (Part.guardStep_of_resting ?_))), fun hstart hg hd hwarn => ?_⟩
  · refine hg.imp_right (Or.imp_right fun ⟨hsafe, hwarm⟩ => ⟨hsafe, v, rfl, ?_⟩)
    exact (congrArg Pages.warnThreshold hq.params).trans_le hwarm
  · have hps : (p.bayKnown (p.widthEnded l date mean start) v).params = p.params := hq.params
    have hmd : (p.bayKnown (p.widthEnded l date mean start) v).mdc = p.mdc := hq.mdc
    have hrisk := Part.guardJudge_to_risk (p := p.bayKnown (p.widthEnded l date mean start) v) (t := v)
      (by rw [hmd]; exact hstart) hg rfl (by rw [hps]; exact hd) (by rw [hps]; exact hwarn)
    have hend := (Part.guardJudge_finish (p := p.bayKnown (p.widthEnded l date mean start) v) (hq.outbox.trans ho)).trans hrisk
    have hwork := (Part.Handed.ofBlocks
      (Part.BlockWork.refl (p.bayKnown (p.widthEnded l date mean start) v)).guardJudge).finish
    obtain ⟨eg, eb, eh, ew, er, _⟩ := Clm.fields_of_judged hend
    refine ⟨_, lineWidth_exec h, rfl, ?_⟩
    dsimp only
    rw [hand]
    rw [hps] at er
    exact ⟨eg, eh, er, ew, eb, hwork.params.trans hq.params, hwork.bnk.trans hq.bnk, hwork.mdc.trans hq.mdc⟩

theorem bay_follows_short {s : State} {current : Nat} (ho : s.part.outbox = [])
    (hw : s.part.params.lineWith .bayTemp = some l) (hp : (s.part.line l).powered = true) (hc : 600 < current) :
    let p := s.part
    (p.clm.guard = .off ∨ p.clm.guard = .dumped →
      LeadsTo (.lineShortGnd l current) s (p.bayUnknown (p.shortedAt l current))) ∧
    (p.mdc.mode ≠ .start → p.clm.guard = .safe → p.clm.unknownTimer < 60000 →
      ∃ t, exec (.lineShortGnd l current) s = .next t ∧ t.pending = s.pending ∧ t.part.clm.guard = .watch ∧
        t.part.clm.bay = none ∧ t.part.params = p.params ∧ t.part.bnk = p.bnk ∧ t.part.mdc = p.mdc) := by
  intro p
  have hq := p.shortedAt_lined l current
  have hand : (p.shortedAt l current).handSupply l = (p.bayUnknown (p.shortedAt l current)).guardJudge := by
    have hrole : (p.shortedAt l current).params.lineRole l = .bayTemp := by
      rw [hq.params]
      exact Pages.role_of_lineWith hw
    rw [← Part.bayJudge_of_unknown hq (Part.shortedAt_unknown hw current)]
    simp only [Part.handSupply, hrole]
  refine ⟨fun hg => lineShort_leads hp hc (hq.outbox.trans ho) (hand.trans (Part.guardJudge_of_still
    (Part.guardStep_of_resting (hg.imp_right .inl)))), fun hstart hg hu => ?_⟩
  have hmd : (p.bayUnknown (p.shortedAt l current)).mdc = p.mdc := hq.mdc
  have hwatch := Part.guardJudge_to_watch (p := p.bayUnknown (p.shortedAt l current)) (by rw [hmd]; exact hstart) hg rfl hu
  have hend := Part.guardJudge_finish (p := p.bayUnknown (p.shortedAt l current)) (hq.outbox.trans ho)
  have hwork := (Part.Handed.ofBlocks (Part.BlockWork.refl (p.bayUnknown (p.shortedAt l current))).guardJudge).finish
  obtain ⟨eg, eb, _⟩ := Clm.fields_of_judged hend
  refine ⟨_, lineShort_exec hp hc, rfl, ?_⟩
  dsimp only
  rw [hand]
  exact ⟨eg.trans hwatch, eb.trans (Part.guardJudge_bay _), hwork.params.trans hq.params, hwork.bnk.trans hq.bnk,
    hwork.mdc.trans hq.mdc⟩

theorem bay_follows_silence {s : State} (ho : s.part.outbox = []) (hm : s.part.mdc.mode ≠ .storage)
    (hw : s.part.params.lineWith .bayTemp = some l) (h : s.part.FallsSilent l)
    (ha : ∀ a, (s.part.line l).age = some a → 10000 ≤ a) (hg : s.part.clm.guard = .off ∨ s.part.clm.guard = .dumped) :
    LeadsTo (.nodataReached l) s (s.part.bayUnknown (s.part.setLine l (s.part.line l).silenced)) := by
  have hrole : (s.part.setLine l (s.part.line l).silenced).params.lineRole l = .bayTemp := Pages.role_of_lineWith hw
  refine lineSilence_leads h ho ?_
  have hand : (s.part.setLine l (s.part.line l).silenced).handNodata l =
      (s.part.bayUnknown (s.part.setLine l (s.part.line l).silenced)).guardJudge := by
    rw [← Part.bayJudge_of_unknown (s.part.lined_setLine l _) (Part.silenced_unknown hm hw ha)]
    simp only [Part.handNodata, hrole]
  exact hand.trans (Part.guardJudge_of_still (Part.guardStep_of_resting (hg.imp_right .inl)))

/-! ### BATT_TEMP and the cold inhibit (R33, R34) -/

/-- With LEAD no inhibit follows, and a pad at rest stays at rest. -/
theorem Part.battTempJudge_of_lead (hc : p.params.chemistry = .lead) (hi : p.chg.coldInhibit = none) (hr : p.chg.pad.Rests) :
    p.battTempJudge = { p with chg := { p.chg with battTemp := p.knownTemp .battTemp } } := by
  rw [Part.battTempJudge, Part.inhibitJudge_of_lead]
  · exact Part.padJudge_of_rests (p := { p with chg := { p.chg with battTemp := p.knownTemp .battTemp } }) hr
      (Part.padConditions_of_lead hc)
  · exact hc
  · exact hi

theorem Part.battValue_handed (hq : p.Lined q) (hw : q.params.lineRole l = .battTemp) (t : Int) :
    q.handValue l (.temp t) = ({ q with chg := { p.chg with battTimer := some q.staleLimit } } : Part).battTempJudge := by
  rw [← hq.chg]
  simp only [Part.handValue, hw]
  rfl

theorem Part.battSupply_handed (hw : q.params.lineRole l = .battTemp) : q.handSupply l = q.battTempJudge := by
  simp only [Part.handSupply, hw]

section

variable {s : State} {date mean current : Nat} (ho : s.part.outbox = []) (hm : s.part.mdc.mode ≠ .storage)
  (hw : s.part.params.lineWith .battTemp = some l)
include hm hw

/-- The completed width, to Charge Control. -/
theorem battWidth_hand {start : Nat} (h : (s.part.line l).Measuring start) :
    let q : Part := { s.part.widthEnded l date mean start with chg := { s.part.chg with battTimer := some 10000 } }
    (s.part.widthEnded l date mean start).handValue l (.temp (widthTemp date start)) = q.battTempJudge ∧
      q.knownTemp .battTemp = some (widthTemp date start) := by
  have hq := s.part.widthEnded_lined l date mean start
  have hlim : (s.part.widthEnded l date mean start).staleLimit = 10000 :=
    Part.staleLimit_of_not_storage (by rw [hq.mdc]; exact hm)
  have hrole : (s.part.widthEnded l date mean start).params.lineRole l = .battTemp := by
    rw [hq.params]
    exact Pages.role_of_lineWith hw
  refine ⟨?_, Part.widthEnded_known h.on hm hw date mean start⟩
  rw [Part.battValue_handed hq hrole, hlim]

theorem batt_follows_width (hc : s.part.params.chemistry = .lithium) {start : Nat} (h : (s.part.line l).Measuring start) :
    let p := s.part
    let v := widthTemp date start
    ∃ t, exec (.crossingRecognized l .fallingT1 date mean) s = .next t ∧ t.pending = s.pending ∧
      t.part.chg.battTemp = some v ∧ t.part.chg.battTimer = some 10000 ∧
      (t.part.chg.coldInhibit = if v < p.params.chargeMinimum + (if p.chg.coldInhibit.isSome = true then 6 else 0)
        then some .cold else none) ∧
      t.part.params = p.params ∧ t.part.bnk = p.bnk ∧ t.part.mdc = p.mdc := by
  intro p v
  have hq := p.widthEnded_lined l date mean start
  obtain ⟨hand, hk⟩ := battWidth_hand (date := date) (mean := mean) hm hw h
  have hwork := (Part.battTempJudge_handed
    ({ p.widthEnded l date mean start with chg := { p.chg with battTimer := some 10000 } } : Part)).finish
  obtain ⟨et, ec, ei⟩ := Part.coldChg_fields
    (({ p.widthEnded l date mean start with chg := { p.chg with battTimer := some 10000 } } : Part).withTemp (some 10000) (some v))
  refine ⟨_, lineWidth_exec h, rfl, ?_⟩
  dsimp only
  rw [hand]
  rw [hk] at hwork
  obtain ⟨_, _, e⟩ := hwork.chg
  rw [e]
  refine ⟨et, ec, ei.trans ?_, hwork.params.trans hq.params, hwork.bnk.trans hq.bnk, hwork.mdc.trans hq.mdc⟩
  have hps : (p.widthEnded l date mean start).params = p.params := hq.params
  show coldRule (p.widthEnded l date mean start).params.chemistry p.chg.coldInhibit (some v)
    (p.widthEnded l date mean start).params.chargeMinimum = _
  rw [hps, hc]
  unfold coldRule
  dsimp only
  split <;> simp_all

include ho in
theorem batt_follows_lead (hc : s.part.params.chemistry = .lead) (hi : s.part.chg.coldInhibit = none)
    (hr : s.part.chg.pad.Rests) :
    (∀ start, (s.part.line l).Measuring start → LeadsTo (.crossingRecognized l .fallingT1 date mean) s
      { s.part.widthEnded l date mean start with
        chg := { s.part.chg with battTemp := some (widthTemp date start), battTimer := some 10000 } }) ∧
    ((s.part.line l).powered = true → 600 < current → LeadsTo (.lineShortGnd l current) s
      { s.part.shortedAt l current with chg := { s.part.chg with battTemp := none } }) := by
  refine ⟨fun start h => ?_, fun hp hcur => ?_⟩
  · have hq := s.part.widthEnded_lined l date mean start
    obtain ⟨hand, hk⟩ := battWidth_hand (date := date) (mean := mean) hm hw h
    refine lineWidth_leads h (hq.outbox.trans ho) (hand.trans ?_)
    rw [Part.battTempJudge_of_lead (p := { s.part.widthEnded l date mean start with
      chg := { s.part.chg with battTimer := some 10000 } }) ((congrArg Pages.chemistry hq.params).trans hc) hi hr, hk]
  · have hq := s.part.shortedAt_lined l current
    have hrole : (s.part.shortedAt l current).params.lineRole l = .battTemp := by
      rw [hq.params]
      exact Pages.role_of_lineWith hw
    refine lineShort_leads hp hcur (hq.outbox.trans ho) ?_
    rw [Part.battSupply_handed hrole, Part.battTempJudge_of_lead ((congrArg Pages.chemistry hq.params).trans hc)
      (by rw [hq.chg]; exact hi) (by rw [hq.chg]; exact hr), Part.shortedAt_unknown hw, hq.chg]

end

theorem Part.coldChg_of_unknown (hc : p.params.chemistry = .lithium) (ht : p.chg.battTemp = none) :
    p.coldChg.coldInhibit = some .unknown ∧ (p.chg.coldInhibit = none → p.coldChg.shoreEnable = false ∧
      p.coldChg.solarEnable = false ∧ p.coldChg.splitClosed = false) := by
  have hrule : coldRule p.params.chemistry p.chg.coldInhibit p.chg.battTemp p.params.chargeMinimum = some .unknown := by
    rw [hc, ht]
    rfl
  refine ⟨p.coldChg_fields.2.2.trans hrule, fun hi => ?_⟩
  unfold Part.coldChg
  dsimp only
  rw [hrule, hi, if_neg (by decide)]
  simp

theorem batt_follows_short {s : State} {current : Nat} (hw : s.part.params.lineWith .battTemp = some l)
    (hc : s.part.params.chemistry = .lithium) (hp : (s.part.line l).powered = true) (hcur : 600 < current) :
    let p := s.part
    ∃ t, exec (.lineShortGnd l current) s = .next t ∧ t.pending = s.pending ∧ t.part.chg.battTemp = none ∧
      t.part.chg.coldInhibit = some .unknown ∧ (p.chg.coldInhibit = none → t.part.chg.shoreEnable = false ∧
        t.part.chg.solarEnable = false ∧ t.part.chg.splitClosed = false) ∧
      t.part.params = p.params ∧ t.part.bnk = p.bnk ∧ t.part.mdc = p.mdc := by
  intro p
  have hq := p.shortedAt_lined l current
  have hrole : (p.shortedAt l current).params.lineRole l = .battTemp := by
    rw [hq.params]
    exact Pages.role_of_lineWith hw
  have hwork := (p.shortedAt l current).battTempJudge_handed.finish
  rw [Part.shortedAt_unknown hw] at hwork
  obtain ⟨ei, eoff⟩ := Part.coldChg_of_unknown
    (p := (p.shortedAt l current).withTemp (p.shortedAt l current).chg.battTimer none)
    ((congrArg Pages.chemistry hq.params).trans hc) rfl
  obtain ⟨et, _⟩ := Part.coldChg_fields ((p.shortedAt l current).withTemp (p.shortedAt l current).chg.battTimer none)
  refine ⟨_, lineShort_exec hp hcur, rfl, ?_⟩
  dsimp only
  rw [Part.battSupply_handed hrole]
  obtain ⟨_, _, e⟩ := hwork.chg
  rw [e]
  exact ⟨et, ei, fun hi => eoff ((congrArg Chg.coldInhibit hq.chg).trans hi), hwork.params.trans hq.params,
    hwork.bnk.trans hq.bnk, hwork.mdc.trans hq.mdc⟩

/-! ### The obligation -/

section

variable {date mean start current : Nat}

/-- The part after a completed width, written out from the line's record. -/
theorem Part.widthEnded_eq (hl : (p.line l).level = .tier1) :
    let r := p.line l
    let fallen := { r with current := min r.current r.thr.fall1, openTimer := if 20 ≤ mean then 0 else r.openTimer }
    let taught := if r.pulse = some false then fallen.learnA1 p.params l mean else fallen
    let count := min 511 ((date - start) / 5)
    let q := p.setLine l { taught with
      level := .base, pulse := none, sync := none, widthStart := none, overflow := false, width := some count
      value := some (.temp ((widthKept count : Int) - 160)), age := some 0, nodataTimer := 0, nodata := false
      clampedValue := decide (widthKept count ≠ count) }
    (if widthKept count = count then q else q.latchLine l .outOfRange) = p.widthEnded l date mean start := by
  have hcurrent : (if (p.line l).level = .tier2 then min (p.line l).current (p.line l).thr.fall2 else (p.line l).current) =
      (p.line l).current := if_neg (by rw [hl]; decide)
  rw [Part.widthEnded, Part.withWidth, Part.line_setLine, Part.setLine_setLine, LineRec.landed, hcurrent]
  rfl

theorem Part.shortedAt_eq (hc : 600 < current) : (p.setLine l { p.line l with
      current := current, openTimer := if (p.line l).supply = .on then 0 else (p.line l).openTimer
      supply := .fault, settle := none, rateTimer := none, pulse := none, sync := none, frame := none
      widthStart := none, overflow := false }).latchLine l .shortGnd = p.shortedAt l current := by
  rw [Part.shortedAt, LineRec.observed_of_short hc]
  rfl

end

/-- Settles O46: role by role, each event by the lemma about what it hands to the role's holder. -/
theorem linesReachTheirRoleHolders : Obligations.LinesReachTheirRoleHolders := by
  intro s l date mean current ho hm p r fallen taught powered shorted silent fallsSilent stale shown raised micro measured ends fall
    warm padRests
  have hmeasured (start : Nat) (h : ends start) :
      measured start = (p.widthEnded l date mean start, widthTemp date start) :=
    congrArg (·, widthTemp date start) (Part.widthEnded_eq h.2.1)
  have hshorted (hc : 600 < current) : shorted = p.shortedAt l current := Part.shortedAt_eq hc
  have hends {start : Nat} (h : ends start) : (p.line l).Measuring start := ⟨h.1, h.2.1, h.2.2⟩
  have hpowered (h : powered) : (p.line l).powered = true := (LineRec.powered_iff _).2 h
  have hsilent (h : fallsSilent) : p.FallsSilent l := ⟨h.1, h.2.1, h.2.2, hm⟩
  refine ⟨fun t hr => ?_, fun hr hpulse => ?_, fun hw => ?_, fun hw => ?_, fun hw => ⟨fun hc hi hrests => ?_, fun hc => ?_⟩⟩
  · obtain ⟨hshort, hquiet⟩ := tank_holds (current := current) ho (t := t) hr
    refine ⟨fun h hc => ?_, fun h => hquiet (hsilent h)⟩
    rw [hshorted hc]
    exact hshort (hpowered h) hc
  · obtain ⟨hpulsed, hrated, hstill⟩ := flow_follows (date := date) (mean := mean) ho hr hpulse
    refine ⟨fun h hl => ?_, hrated, hstill⟩
    have hleads := hpulsed h hl
    rw [LineRec.pulsed, LineRec.raised_on h] at hleads
    exact hleads
  · obtain ⟨hwidth, hshort, hquiet⟩ := cabin_follows (date := date) (mean := mean) (current := current) ho hm hw
    refine ⟨fun start h => ?_, fun h hc => ?_, fun h ha => hquiet (hsilent h) ha⟩
    · rw [hmeasured start h]
      exact hwidth start (hends h)
    · rw [hshorted hc]
      exact hshort (hpowered h) hc
  · refine ⟨fun start h => ?_, fun h hc => ?_, fun h ha hg => bay_follows_silence ho hm hw (hsilent h) ha hg⟩
    · rw [hmeasured start h]
      exact bay_follows_width ho hm hw (hends h)
    · rw [hshorted hc]
      exact bay_follows_short ho hw (hpowered h) hc
  · obtain ⟨hwidth, hshort⟩ := batt_follows_lead (date := date) (mean := mean) (current := current) ho hm hw hc hi hrests
    refine ⟨fun start h => ?_, fun h hcur => ?_⟩
    · rw [hmeasured start h]
      exact hwidth start (hends h)
    · rw [hshorted hcur]
      exact hshort (hpowered h) hcur
  · refine ⟨fun start h => ?_, fun h hcur => batt_follows_short hw hc (hpowered h) hcur⟩
    rw [hmeasured start h]
    exact batt_follows_width hm hw hc (hends h)

end Sys2Proof.Machine
end
